-- ==== Sys2Proof/Word.lean ====
section
/-! DEFINITION. The words the CLS-24's frames and straps are made of (R95, R172, R179), and nothing else:
what the manual counts is a `Nat`, what it measures with a sign is an `Int`. -/

namespace Sys2Proof

/-- One byte of a frame body (R95). -/
abbrev Byte := BitVec 8

/-- A station number, 0 to 15: CLS-24 stations 0 to 13, the craft terminal 14, the uplink unit 15. -/
abbrev StationNo := BitVec 4

/-- A pair field of a frame, 0 to 31; 24 to 31 name no pair (R179). -/
abbrev PairNo := BitVec 5

/-- A pair of this station, 0 to 23 (R1). -/
abbrev Pair := Fin 24

/-- An entry of the incident table, 0 to 7 (R111). -/
abbrev EntryNo := Fin 8

/-- A tone receiver, 0 to 3 (R56). -/
abbrev ReceiverNo := Fin 4

/-- A claim tag, 0 to 31 (R84). -/
abbrev Tag := Fin 32

/-- The number of the craft terminal. -/
def craftTerminal : StationNo := 14

/-- The number of the uplink unit. -/
def uplinkUnit : StationNo := 15

end Sys2Proof
end

