-- ==== Sys2Proof/Syntax.lean ====
section
/-! DEFINITION. The commands the CLS-24 takes from outside: one constructor of `Instr` for each row of
spec/opcode_table.json, with the operands the rule of the row needs. The part has no program and no
instruction memory; a command is an event on a pin, on the bus line, at an ADC or at one of the station's timers.
A received frame is carried AS IT WAS READ from the line (`RxFrame`): its check and its length are judged by the
station, not by the sender of the command. -/

namespace Sys2Proof

/-- The four fault classes; their codes 0 to 3 are in this order (00_scope.md, Numbering). -/
inductive FaultClass where
  | feedLoss | foreign | groundLeak | permanentLoop
deriving DecidableEq, Repr

/-- The triple that names an incident (R84, R111). -/
structure Key where
  cable : BitVec 4
  binder : BitVec 5
  cls : FaultClass
deriving DecidableEq, Repr

/-- The 25 strap pins as sampled when the reset pin is released (R172). -/
structure Straps where
  station : StationNo
  cable : BitVec 4
  binderA : BitVec 5
  binderB : BitVec 5
  split : BitVec 5
  pairCount : BitVec 2
deriving DecidableEq, Repr

/-- The five response cells that follow a frame's check (R95, R100): set means dominant, "driven" on the
receiver's side and "seen" on the sender's. -/
structure Cells where
  void : Bool
  ack : Bool
  own : Bool
  defer : Bool
  stall : Bool
deriving DecidableEq, Repr

/-- How a frame this station sent came to its end, before R106 classifies it: abandoned on a collision (R98), or
sent to its end with these response cells seen. -/
inductive TxResult where
  | collision
  | sent (seen : Cells)
deriving DecidableEq, Repr

/-- The named long-form kinds (R102): kinds 0 to 6 and 8 to 14, in this order. -/
inductive LongKind where
  | quiet | release | deferredReply | lineEvents | incident | testResult | reply
  | queryPair | queryIncident | testPair | park | unpark | clearIncident | restart
deriving DecidableEq, Repr

/-- The long-form kinds that a station snoops whatever their target, and that move the test-bus view (R134). -/
inductive TestBusFrame where
  | quiet | release | testResult
deriving DecidableEq, Repr

/-- A frame as this station has read it from the line (R95): the header fields that its row does not fix, the body
bytes, the check field, and whether ANOTHER receiver drove the VOID cell. `target` and `authority` are fields of the
long form alone; a short frame's are not read. The length field of a long frame is the number of body bytes read,
because a receiver reads the body as the length field places it (R179). -/
structure RxFrame where
  precedence : BitVec 3
  sender : StationNo
  target : StationNo
  authority : BitVec 2
  body : List Byte
  check : BitVec 16
  voidedByOther : Bool
deriving DecidableEq, Repr

/-- The two kinds of work that need the test bus (R132). -/
inductive Job where
  | confirmation | uplinkTest
deriving DecidableEq, Repr

/-- What names one item of the transmit queue: its kind and the producer's state it refers to (R103, R104). The test
bus controller has at most one LOCK, UNLOCK, QUIET or RELEASE item, hence one name for all four. A DEFERRED REPLY is
named by its entry and by the claimant, of which a defer list holds no two (R111). -/
inductive ItemRef where
  | testBus
  | faultClaim (pair : Pair)
  | leave (pair : Pair)
  | deferredReply (entry : EntryNo) (station : StationNo) (pair : PairNo)
  | reply (slot : Fin 4)
  | lineEvents (pair : Pair)
  | incident (entry : EntryNo)
  | testResult
deriving DecidableEq, Repr

/-- The commands, in the order of spec/opcode_table.json. -/
inductive Instr where
  /-- The reset pin is taken low (R172). -/
  | resetPinAssert
  /-- The reset pin is let go, with the strap pins standing at `straps` (R172). -/
  | resetPinRelease (straps : Straps)
  /-- The 5 s timer of LISTEN_IN expires (R175). -/
  | listenInExpiry
  /-- The turn of one pair record in the scan, with the tip and ring voltages at the sense ADC in counts of
  0.25 V (R18, R21). -/
  | scanTurn (pair : Pair) (tip ring : Int)
  /-- A receiver has taken the 80th sample of a block (R63). -/
  | toneBlockComplete (receiver : ReceiverNo) (samples : Vector Int 80)
  /-- The digit-pause timer of a receiver expires (R61). -/
  | digitPauseExpiry (receiver : ReceiverNo)
  /-- The no-digit timer of a receiver expires (R61). -/
  | noDigitExpiry (receiver : ReceiverNo)
  /-- A START on the idle bus (R94, R105). -/
  | contentionStart
  /-- This station read dominant where it sent recessive in the precedence or sender field (R97). -/
  | arbitrationLost
  /-- The frame on the bus has been truncated (R94). -/
  | frameTruncated
  /-- A frame that is checked and voided but not acted on (R102). -/
  | frameCheckedOnly (kind : LongKind) (frame : RxFrame)
  /-- A frame of a kind the station neither handles nor checks (R102). -/
  | unhandledKindFrame (long : Bool) (kind : BitVec 4)
  /-- A LOCK has been read; `ownSeen` says whether another station drove its OWN cell (R133). -/
  | lockReceived (frame : RxFrame) (ownSeen : Bool)
  /-- An UNLOCK has been read (R134). -/
  | unlockReceived (frame : RxFrame)
  /-- A FAULT CLAIM has been read (R117, R118). -/
  | faultClaimReceived (frame : RxFrame)
  /-- A LEAVE has been read (R119). -/
  | leaveReceived (frame : RxFrame)
  /-- A QUIET has been read (R134, R138). -/
  | quietReceived (frame : RxFrame)
  /-- A RELEASE has been read (R134, R140). -/
  | releaseReceived (frame : RxFrame)
  /-- A QUIET, RELEASE or TEST RESULT addressed to another station has been read (R134). -/
  | testFrameSnooped (kind : TestBusFrame) (frame : RxFrame)
  /-- A DEFERRED REPLY has been read (R126). -/
  | deferredReplyReceived (frame : RxFrame)
  /-- An INCIDENT report has been read (R129). -/
  | incidentSnooped (frame : RxFrame)
  /-- A QUERY PAIR command frame has been read (R163). -/
  | queryPair (frame : RxFrame)
  /-- A QUERY INCIDENT command frame has been read (R166). -/
  | queryIncident (frame : RxFrame)
  /-- A TEST PAIR command frame has been read (R167). -/
  | testPair (frame : RxFrame)
  /-- A PARK command frame has been read (R168). -/
  | park (frame : RxFrame)
  /-- An UNPARK command frame has been read (R169). -/
  | unpark (frame : RxFrame)
  /-- A CLEAR INCIDENT command frame has been read (R170). -/
  | clearIncident (frame : RxFrame)
  /-- A RESTART command frame has been read (R171). -/
  | restart (frame : RxFrame)
  /-- The outcome of this station's LINE EVENTS frame (R15 to R17). -/
  | lineEventsOutcome (result : TxResult)
  /-- The outcome of this station's FAULT CLAIM frame (R114, R116). -/
  | faultClaimOutcome (result : TxResult)
  /-- The outcome of this station's LEAVE frame (R107). -/
  | leaveOutcome (result : TxResult)
  /-- The outcome of this station's LOCK frame (R136). -/
  | lockOutcome (result : TxResult)
  /-- The outcome of this station's UNLOCK frame (R137). -/
  | unlockOutcome (result : TxResult)
  /-- The outcome of this station's QUIET frame (R141). -/
  | quietOutcome (result : TxResult)
  /-- The outcome of this station's RELEASE frame (R141). -/
  | releaseOutcome (result : TxResult)
  /-- The outcome of this station's DEFERRED REPLY frame (R125). -/
  | deferredReplyOutcome (result : TxResult)
  /-- The outcome of this station's INCIDENT frame (R128). -/
  | incidentOutcome (result : TxResult)
  /-- The outcome of this station's REPLY frame (R162). -/
  | replyOutcome (result : TxResult)
  /-- The outcome of this station's TEST RESULT frame (R143). -/
  | testResultOutcome (result : TxResult)
  /-- The backoff timer of a queue item expires (R109). -/
  | itemBackoffExpiry (item : ItemRef)
  /-- The defer wait of a DEFERRED pair runs out (R127). -/
  | deferWaitExpiry (pair : Pair)
  /-- The renew timer of a LINKED pair not owned here runs out (R116). -/
  | renewTimerExpiry (pair : Pair)
  /-- The hold-off of a HELD_OFF pair runs out (R90). -/
  | holdOffExpiry (pair : Pair)
  /-- A member of another station has not renewed for 150 s (R120). -/
  | memberExpiry (entry : EntryNo) (station : StationNo) (pair : PairNo)
  /-- The empty-list timer of an entry reaches 150 s (R120). -/
  | emptyListExpiry (entry : EntryNo)
  /-- The clear-hold timer of a CLEARING entry reaches 10 s (R121). -/
  | clearHoldExpiry (entry : EntryNo)
  /-- The confirmation retry timer of an entry reaches 60 s (R124). -/
  | confirmationRetryExpiry (entry : EntryNo)
  /-- 5 s have passed since the holder's last test-bus frame (R135). -/
  | viewLapse
  /-- A holder's last accepted time is 2 s old (R135). -/
  | keepAliveDue
  /-- A holder's last accepted time is 4 s old (R135). -/
  | selfLimitExpiry
  /-- The restraint timer has run 1 s (R135). -/
  | restraintExpiry
  /-- The 30 s deadline of a waiting job passes (R136). -/
  | jobDeadlineExpiry (job : Job)
  /-- The release wait has run 3 s (R141). -/
  | releaseWaitExpiry
  /-- 3 s have passed since an access began at this target (R140). -/
  | selfReleaseExpiry
  /-- The calibration reading is taken, with `volts` test counts at the test ADC (R147). -/
  | calibrationDone (volts : Int)
  /-- The off reading of a leg is taken, with `volts` test counts at the test ADC (R150). -/
  | legOffReadingDone (volts : Int)
  /-- The on reading of a leg is taken, with `volts` test counts at the test ADC (R151). -/
  | legOnReadingDone (volts : Int)
deriving DecidableEq, Repr

end Sys2Proof
end

