-- ==== Sys2Proof/Decode.lean ====
section
/-! DEFINITION. The words of the command table. No row of spec/opcode_table.json gives a field a bit: the CLS-24 has no
instruction words, and what reaches it is an event on a pin, on the bus line, at an ADC or at one of its timers. So no
word spells a command. The bits of the frames on the bus line are in Machine/Frames.lean. -/

namespace Sys2Proof

/-- The command that a word spells by the table's bits: none, for the table gives no row bits. -/
def decodeTableWord (_nbits _w : Nat) : Option Instr := none

end Sys2Proof
end

