-- ==== Sys2Proof/Config.lean ====
section
/-! DEFINITION. What the manual leaves free. Two choices are given as "either": each is a constant with no body, applied
to the state's own choice counter, so that nothing can be proved about which way it falls. -/

namespace Sys2Proof

/-- FREE VALUE (log entry 8). At one interval close the loop supervisor's event and the fault integrator's event take
the tail of the pending event list "in either order" (R9, R30, R75): true puts the loop supervisor's first. -/
opaque Config.loopEventFirst : Nat → Bool

/-- FREE VALUE (log entry 9). Where several entries become due for confirmation together "either may begin first"
(R122): the one begun is this number modulo how many are due, counted in entry order. -/
opaque Config.duePick : Nat → Nat

end Sys2Proof
end

