-- ==== Sys2Proof/Machine/Wire.lean ====
section
/-! DEFINITION. What stands in the records and on the line: the named conditions of the records (with the codes of R182
given in Frames.lean), and the content of every frame of R181, field by field. -/

namespace Sys2Proof.Machine

/-- Station control's state (11_start_up_and_station_condition.md). `inReset` is the pin held low (R172). -/
inductive StationState where
  | inReset | strapError | listenIn | active | failed
deriving DecidableEq, Repr

/-- A pair's service (R3). -/
inductive Service where
  | equipped | parked | absent
deriving DecidableEq, Repr

/-- A sample class (R24): OPEN, CLOSED, DEAD. -/
inductive SampleClass where
  | openLoop | closed | dead
deriving DecidableEq, Repr

/-- A pair's loop state (R35): ON_HOOK, SEIZE_PENDING, OFF_HOOK, BREAK, LOCKOUT. -/
inductive LoopState where
  | onHook | seizePending | offHook | inBreak | lockout
deriving DecidableEq, Repr

/-- Why a pair's loop state is held (R35). -/
inductive FreezeCause where
  | unfrozen | feed | access
deriving DecidableEq, Repr

/-- A pair's fault state (R81). -/
inductive FaultState where
  | clear | faulted | recovering
deriving DecidableEq, Repr

/-- The fifteen event types, in the order of their codes (R12, R182). -/
inductive EventType where
  | offhook | onhook | flash | digitPulse | digitTone | digitError | lockout | ringOn | ringOff
  | feedLost | feedBack | fault | faultClear | receiverLate | recordReset
deriving DecidableEq, Repr

/-- A pair's standing towards incidents with its optional parts (R1): the claim tag in DEFERRED, the linked key class
and the owned-here flag in LINKED. -/
inductive ClaimState where
  | unclaimed
  | pending
  | deferred (tag : Tag)
  | linked (cls : FaultClass) (ownedHere : Bool)
  | heldOff
deriving DecidableEq, Repr

/-- The latched set (R79): a mark for each class. -/
structure LatchedSet where
  feedLoss : Bool
  foreign : Bool
  groundLeak : Bool
  permanentLoop : Bool
deriving DecidableEq, Repr

/-- A tone receiver's state (R56). -/
inductive ReceiverState where
  | idle | listen | candidate | toneOn | ending
deriving DecidableEq, Repr

/-- The state of an incident entry (R111). -/
inductive EntryState where
  | free | opened | confirming | confirmed | clearing
deriving DecidableEq, Repr

/-- The outcome of a confirmation, or LOST in a closing report (R111). -/
inductive Verdict where
  | unjudged | confirmed | partly | notFound | untested | lost
deriving DecidableEq, Repr

/-- The state an INCIDENT frame or a QUERY INCIDENT reply reports (R182). -/
inductive ReportedState where
  | opened | confirming | confirmed | clearing | closed
deriving DecidableEq, Repr

/-- The status of a REPLY (R182). -/
inductive Status where
  | done | accepted | denied | absent | noSuch | busy | unitFailed
deriving DecidableEq, Repr

/-- How an uplink test ended (R143). -/
inductive TestOutcome where
  | done | busy | noBus | unitFailed | abandoned
deriving DecidableEq, Repr

/-- The three measured paths of a pair (R150). -/
inductive Leg where
  | tip | ring | loop
deriving DecidableEq, Repr

/-- The class of a measured leg (R153). -/
inductive LegClass where
  | severe | low | marginal | good
deriving DecidableEq, Repr

/-- What a measured leg's record holds beside V_off (R145). -/
structure LegMeasure where
  vOn : Int
  delta : Int
  resistance : Nat
  cls : LegClass
deriving DecidableEq, Repr

/-- One leg's record: V_off, and either the refused mark (`measured` absent) or the measured values (R145). -/
structure LegRecord where
  leg : Leg
  vOff : Int
  measured : Option LegMeasure
deriving DecidableEq, Repr

/-- A command frame's kind and arguments (R160, R181). -/
inductive Command where
  | queryPair (index : BitVec 5) (part : BitVec 2)
  | queryIncident (key : Key) (page : BitVec 3)
  | testPair (pair : PairNo)
  | park (pair : PairNo)
  | unpark (pair : PairNo)
  | clearIncident (key : Key)
  | restart
deriving DecidableEq, Repr

/-- One event as a LINE EVENTS frame carries it (R14). -/
structure WireEvent where
  type : EventType
  value : Nat
  age : Nat
deriving DecidableEq, Repr

/-- One member as a frame carries it (R128, R166). -/
structure WireMember where
  station : StationNo
  pair : PairNo
  leaving : Bool
deriving DecidableEq, Repr

/-- One leg as a TEST RESULT carries it (R158): the resistance is absent for a refused leg. -/
structure WireLeg where
  vOff : Int
  resistance : Option Nat
deriving DecidableEq, Repr

/-- Part 0 of a pair's record view (R163). -/
structure LineView where
  serviceWord : Int
  loop : LoopState
  freeze : FreezeCause
  ringingHold : Bool
  dialled : Bool
  pulseCount : Nat
  loopRun : Nat
  lockoutSeconds : Nat
  receiver : Option ReceiverNo
  inAccess : Bool
  vTip : Int
  vRing : Int
  eventCount : Nat
  nextSeq : BitVec 4
  gap : Bool
  stale : Bool
deriving DecidableEq, Repr

/-- Part 1 of a pair's record view (R163). -/
structure FaultView where
  serviceWord : Int
  fault : FaultState
  recovery : Nat
  latched : LatchedSet
  feedLoss : Nat
  foreign : Nat
  groundLeak : Nat
  dref16 : Nat
  claim : ClaimState
  tag : Option (Tag × FaultClass)
  timerSeconds : Option Nat
deriving DecidableEq, Repr

/-- The test-bus view as a reply reports it (R165, R182). -/
inductive ReportedView where
  | free | held (holder : StationNo) (age : Nat) | mine (age : Nat)
deriving DecidableEq, Repr

/-- The confirmation run as a reply reports it (R165, R182). -/
inductive ReportedRun where
  | absent | waiting (key : Key) | running (key : Key)
deriving DecidableEq, Repr

/-- The uplink test slot as a reply reports it (R165, R182). -/
inductive ReportedSlot where
  | empty | waiting (pair : Pair) | running (pair : Pair) | ended (pair : Pair) (outcome : TestOutcome)
deriving DecidableEq, Repr

/-- Part 0 of the TEST BUS VIEW (R165). -/
structure BusView where
  view : ReportedView
  restraint : Bool
  releaseWait : Bool
  access : Option (Pair × StationNo)
  run : ReportedRun
  tested : Nat
  faulted : Nat
  slot : ReportedSlot
  vCal : Option Int
  calibrationPassed : Bool
deriving DecidableEq, Repr

/-- Part 1 of the TEST BUS VIEW: the last completed measurement (R159, R165). What it served is held beside it
(R165); the layout of R181 gives that mark no field. -/
structure LastMeasurement where
  pair : PairNo
  forRun : Bool
  legs : List LegRecord
deriving DecidableEq, Repr

/-- What a REPLY carries after the command's fields (R162 to R166, R181). -/
inductive View where
  | nothing
  | previousWord (word : Int)
  | line (v : LineView)
  | fault (v : FaultView)
  | identity (straps : Straps)
  | condition (active : Bool) (unitFailed : Bool) (integrity : Bool) (held : Nat)
  | testBus (v : BusView)
  | lastMeasured (m : Option LastMeasurement)
  | tonePool (receivers : List (ReceiverState × Option Pair)) (waiting : Nat) (head : List (Pair × Nat))
  | incident (state : ReportedState) (verdict : Verdict) (listed overflow deferred : Nat) (members : List WireMember)
deriving DecidableEq, Repr

/-- The short-form kinds the station handles: kinds 0 to 3, in this order (R102). -/
inductive ShortKind where
  | lock | unlock | faultClaim | leave
deriving DecidableEq, Repr

/-- The form and kind of a frame that a station handles or checks (R102). -/
inductive FrameKind where
  | short (kind : ShortKind)
  | long (kind : LongKind)
deriving DecidableEq, Repr

/-- The content of a frame (R181), of the kinds a CLS-24 sends and of the commands it takes. -/
inductive Body where
  | lock
  | unlock
  | faultClaim (key : Key) (pair : PairNo) (tag : BitVec 5) (renew : Bool)
  | leave (key : Key) (pair : PairNo)
  | quiet (pair : PairNo) (confirmation : Bool) (cls : FaultClass)
  | release (pair : PairNo)
  | deferredReply (tag : BitVec 5) (pair : PairNo) (key : Key) (joined : Bool)
  | lineEvents (pair : PairNo) (firstSeq : BitVec 4) (gap stale : Bool) (events : List WireEvent)
  | incident (key : Key) (state : ReportedState) (verdict : Verdict) (forced : Bool) (count : Nat)
      (members : List WireMember)
  | testResult (pair : PairNo) (outcome : TestOutcome) (legs : List WireLeg)
  | reply (cmd : Command) (status : Status) (view : View)
  | command (cmd : Command)
deriving DecidableEq, Repr

end Sys2Proof.Machine
end

