-- ==== Sys2Proof/Machine/Frames.lean ====
section
/-! DEFINITION. Frame layouts (06_the_cabinet_peer_bus.md, 12_frame_layouts.md): the codes of R182, the bodies of R181
packed by R179, the header of R95, the check of R180, and what a receiver reads out of a body and holds against its
allowed length (R96, R179). -/

namespace Sys2Proof.Machine

/-! ### Codes (R182) -/

/-- The class code, 0 to 3. -/
def classCode : FaultClass → Nat
  | .feedLoss => 0 | .foreign => 1 | .groundLeak => 2 | .permanentLoop => 3

/-- The class of a code; a class field is 2 bits wide, so every value names one. -/
def classOfCode (n : Nat) : FaultClass :=
  match n with
  | 0 => .feedLoss | 1 => .foreign | 2 => .groundLeak | _ => .permanentLoop

def eventCode : EventType → Nat
  | .offhook => 0 | .onhook => 1 | .flash => 2 | .digitPulse => 3 | .digitTone => 4 | .digitError => 5 | .lockout => 6
  | .ringOn => 7 | .ringOff => 8 | .feedLost => 9 | .feedBack => 10 | .fault => 11 | .faultClear => 12
  | .receiverLate => 13 | .recordReset => 14

def eventOfCode (n : Nat) : Option EventType :=
  [EventType.offhook, .onhook, .flash, .digitPulse, .digitTone, .digitError, .lockout, .ringOn, .ringOff, .feedLost,
    .feedBack, .fault, .faultClear, .receiverLate, .recordReset][n]?

def statusCode : Status → Nat
  | .done => 0 | .accepted => 1 | .denied => 2 | .absent => 3 | .noSuch => 4 | .busy => 5 | .unitFailed => 6

def loopCode : LoopState → Nat
  | .onHook => 0 | .seizePending => 1 | .offHook => 2 | .inBreak => 3 | .lockout => 4

def freezeCode : FreezeCause → Nat
  | .unfrozen => 0 | .feed => 1 | .access => 2

def faultStateCode : FaultState → Nat
  | .clear => 0 | .faulted => 1 | .recovering => 2

def claimCode : ClaimState → Nat
  | .unclaimed => 0 | .pending => 1 | .deferred _ => 2 | .linked _ _ => 3 | .heldOff => 4

def reportedCode : ReportedState → Nat
  | .opened => 0 | .confirming => 1 | .confirmed => 2 | .clearing => 3 | .closed => 4

def reportedOfCode (n : Nat) : Option ReportedState :=
  [ReportedState.opened, .confirming, .confirmed, .clearing, .closed][n]?

def verdictCode : Verdict → Nat
  | .unjudged => 0 | .confirmed => 1 | .partly => 2 | .notFound => 3 | .untested => 4 | .lost => 5

def verdictOfCode (n : Nat) : Option Verdict :=
  [Verdict.unjudged, .confirmed, .partly, .notFound, .untested, .lost][n]?

def outcomeCode : TestOutcome → Nat
  | .done => 0 | .busy => 1 | .noBus => 2 | .unitFailed => 3 | .abandoned => 4

def outcomeOfCode (n : Nat) : Option TestOutcome :=
  [TestOutcome.done, .busy, .noBus, .unitFailed, .abandoned][n]?

def legClassCode : LegClass → Nat
  | .severe => 0 | .low => 1 | .marginal => 2 | .good => 3

def receiverStateCode : ReceiverState → Nat
  | .idle => 0 | .listen => 1 | .candidate => 2 | .toneOn => 3 | .ending => 4

/-- The kind number of a command frame, less 8 (R161, R181). -/
def commandCode : Command → Nat
  | .queryPair _ _ => 0 | .queryIncident _ _ => 1 | .testPair _ => 2 | .park _ => 3 | .unpark _ => 4
  | .clearIncident _ => 5 | .restart => 6

/-- The kind number of a long-form kind (R102). -/
def longKindCode : LongKind → Nat
  | .quiet => 0 | .release => 1 | .deferredReply => 2 | .lineEvents => 3 | .incident => 4 | .testResult => 5
  | .reply => 6 | .queryPair => 8 | .queryIncident => 9 | .testPair => 10 | .park => 11 | .unpark => 12
  | .clearIncident => 13 | .restart => 14

/-- The kind number of a short-form kind (R102). -/
def shortKindCode : ShortKind → Nat
  | .lock => 0 | .unlock => 1 | .faultClaim => 2 | .leave => 3

/-! ### Fields and packing (R179) -/

/-- A field of a body: its width in bits and its value. -/
abbrev Field := Nat × Nat

/-- The cells of one field, most significant bit first. -/
def fieldBits : Nat → Nat → List Bool
  | 0, _ => []
  | w + 1, v => v.testBit w :: fieldBits w v

/-- A signed value in two's complement at a width. -/
def twos (w : Nat) (v : Int) : Nat := (v % (2 ^ w : Nat)).toNat

/-- The signed value that a field of a width carries. -/
def ofTwos (w : Nat) (n : Nat) : Int := if n < 2 ^ (w - 1) then (n : Int) else (n : Int) - (2 ^ w : Nat)

def bitsOfFields (fs : List Field) : List Bool := fs.flatMap fun f => fieldBits f.1 f.2

/-- The value of a run of cells, the first the most significant. -/
def natOfBits (bits : List Bool) : Nat := bits.foldl (fun n b => 2 * n + b.toNat) 0

/-- Cells to bytes, with 0 bits added after the last one until the body is a whole number of bytes. -/
def packBytes : List Bool → List Byte
  | a :: b :: c :: d :: e :: f :: g :: h :: rest => BitVec.ofNat 8 (natOfBits [a, b, c, d, e, f, g, h]) :: packBytes rest
  | [] => []
  | few => [BitVec.ofNat 8 (natOfBits (few ++ List.replicate (8 - few.length) false))]

def bitsOfBytes (bytes : List Byte) : List Bool := bytes.flatMap fun b => fieldBits 8 b.toNat

def bit (b : Bool) : Field := (1, b.toNat)

def keyFields (k : Key) : List Field := [(4, k.cable.toNat), (5, k.binder.toNat), (2, classCode k.cls)]

/-! ### Bodies (R181) -/

def commandFields : Command → List Field
  | .queryPair index part => [(5, index.toNat), (2, part.toNat)]
  | .queryIncident key page => keyFields key ++ [(3, page.toNat)]
  | .testPair pair => [(5, pair.toNat)]
  | .park pair => [(5, pair.toNat)]
  | .unpark pair => [(5, pair.toNat)]
  | .clearIncident key => keyFields key
  | .restart => []

def memberFields (m : WireMember) : List Field := [(4, m.station.toNat), (5, m.pair.toNat), bit m.leaving]

/-- The class a claim state's optional part names, and the owned-here flag; 0 where the state lacks them. -/
def linkFields : ClaimState → List Field
  | .linked cls owned => [(2, classCode cls), bit owned]
  | _ => [(2, 0), (1, 0)]

def lineViewFields (v : LineView) : List Field :=
  [(8, twos 8 v.serviceWord), (3, loopCode v.loop), (2, freezeCode v.freeze), bit v.ringingHold, bit v.dialled,
    (4, v.pulseCount), (8, v.loopRun), (5, v.lockoutSeconds), (3, (v.receiver.map Fin.val).getD 4), bit v.inAccess,
    (12, twos 12 v.vTip), (12, twos 12 v.vRing), (4, v.eventCount), (4, v.nextSeq.toNat), bit v.gap, bit v.stale]

def faultViewFields (v : FaultView) : List Field :=
  [(8, twos 8 v.serviceWord), (2, faultStateCode v.fault), (5, v.recovery),
    bit v.latched.feedLoss, bit v.latched.foreign, bit v.latched.groundLeak, bit v.latched.permanentLoop,
    (4, v.feedLoss), (4, v.foreign), (4, v.groundLeak), (16, v.dref16), (3, claimCode v.claim),
    (5, (v.tag.map fun t => t.1.val).getD 0), (2, (v.tag.map fun t => classCode t.2).getD 0)] ++
  linkFields v.claim ++ [bit v.timerSeconds.isSome, (6, v.timerSeconds.getD 0)]

def identityFields (s : Straps) : List Field :=
  [(12, 0x0D3), (16, 0x0C24), (4, 3), (4, s.station.toNat), (4, s.cable.toNat), (5, s.binderA.toNat),
    (5, s.binderB.toNat), (5, s.split.toNat), (2, s.pairCount.toNat)]

def busViewFields (v : BusView) : List Field :=
  (match v.view with
    | .free => [(2, 0), (4, 0), (4, 0)]
    | .held holder age => [(2, 1), (4, holder.toNat), (4, age)]
    | .mine age => [(2, 2), (4, 0), (4, age)]) ++
  [bit v.restraint, bit v.releaseWait] ++
  (match v.access with
    | none => [(1, 0), (5, 0), (4, 0)]
    | some (pair, holder) => [(1, 1), (5, pair.val), (4, holder.toNat)]) ++
  (match v.run with
    | .absent => [(2, 0), (11, 0)]
    | .waiting key => (2, 1) :: keyFields key
    | .running key => (2, 2) :: keyFields key) ++
  [(2, v.tested), (2, v.faulted)] ++
  (match v.slot with
    | .empty => [(3, 0), (5, 0)]
    | .waiting pair => [(3, 1), (5, pair.val)]
    | .running pair => [(3, 2), (5, pair.val)]
    | .ended pair outcome => [(3, 3 + outcomeCode outcome), (5, pair.val)]) ++
  [(14, twos 14 (v.vCal.getD 0)), bit v.vCal.isSome, bit v.calibrationPassed]

def legRecordFields (r : LegRecord) : List Field :=
  match r.measured with
  | some m => [(14, twos 14 r.vOff), (1, 0), (16, m.resistance), (2, legClassCode m.cls)]
  | none => [(14, twos 14 r.vOff), (1, 1), (16, 0), (2, 0)]

def lastMeasuredFields : Option LastMeasurement → List Field
  | some m => (5, m.pair.toNat) :: m.legs.flatMap legRecordFields
  | none => (5, 31) :: (List.replicate 3 [((14, 0) : Field), (1, 0), (16, 0), (2, 0)]).flatten

/-- One receiver of the TONE POOL view. The pair of a receiver that serves none is sent as 0 (R181; log entry 49). -/
def toneReceiverFields (r : ReceiverState × Option Pair) : List Field :=
  [(3, receiverStateCode r.1), (5, (r.2.map Fin.val).getD 0)]

def waitFields (w : Pair × Nat) : List Field := [(5, w.1.val), (4, w.2)]

def viewFields : View → List Field
  | .nothing => []
  | .previousWord word => [(8, twos 8 word)]
  | .line v => lineViewFields v
  | .fault v => faultViewFields v
  | .identity s => identityFields s
  | .condition active failed integrity held => [bit active, bit failed, bit integrity, (4, held)]
  | .testBus v => busViewFields v
  | .lastMeasured m => lastMeasuredFields m
  | .tonePool receivers waiting head =>
    receivers.flatMap toneReceiverFields ++ [(5, waiting)] ++ head.flatMap waitFields ++
      (List.replicate (6 - head.length) [((5, 0) : Field), (4, 0)]).flatten
  | .incident state verdict listed overflow deferred members =>
    [(3, reportedCode state), (3, verdictCode verdict), (6, listed), (8, overflow), (4, deferred), (3, members.length)] ++
      members.flatMap memberFields

def wireEventFields (e : WireEvent) : List Field := [(4, eventCode e.type), (4, e.value), (8, e.age)]

def wireLegFields (l : WireLeg) : List Field :=
  [(14, twos 14 l.vOff), bit l.resistance.isNone, (16, l.resistance.getD 0)]

/-- The fields of a body in the order of its table (R181). -/
def bodyFields : Body → List Field
  | .lock => []
  | .unlock => []
  | .faultClaim key pair tag renew => keyFields key ++ [(5, pair.toNat), (5, tag.toNat), bit renew]
  | .leave key pair => keyFields key ++ [(5, pair.toNat)]
  | .quiet pair confirmation cls => [(5, pair.toNat), bit confirmation, (2, if confirmation then classCode cls else 0)]
  | .release pair => [(5, pair.toNat)]
  | .deferredReply tag pair key joined => [(5, tag.toNat), (5, pair.toNat)] ++ keyFields key ++ [bit (!joined)]
  | .lineEvents pair firstSeq gap stale events =>
    [(5, pair.toNat), (3, events.length), (4, firstSeq.toNat), bit gap, bit stale] ++ events.flatMap wireEventFields
  | .incident key state verdict forced count members =>
    keyFields key ++ [(3, reportedCode state), (3, verdictCode verdict), bit forced, (8, count), (3, members.length)] ++
      members.flatMap memberFields
  | .testResult pair outcome legs => [(5, pair.toNat), (3, outcomeCode outcome)] ++ legs.flatMap wireLegFields
  | .reply cmd status view => [(3, commandCode cmd), (3, statusCode status)] ++ commandFields cmd ++ viewFields view
  | .command cmd => commandFields cmd

/-- The body of a frame, packed into bytes (R179). -/
def bodyBytes (b : Body) : List Byte := packBytes (bitsOfFields (bodyFields b))

/-- The kind of a command frame. -/
def commandKind : Command → LongKind
  | .queryPair _ _ => .queryPair | .queryIncident _ _ => .queryIncident | .testPair _ => .testPair | .park _ => .park
  | .unpark _ => .unpark | .clearIncident _ => .clearIncident | .restart => .restart

/-- The form and kind of the frame that carries a body (R102). -/
def bodyKind : Body → FrameKind
  | .lock => .short .lock
  | .unlock => .short .unlock
  | .faultClaim _ _ _ _ => .short .faultClaim
  | .leave _ _ => .short .leave
  | .quiet _ _ _ => .long .quiet
  | .release _ => .long .release
  | .deferredReply _ _ _ _ => .long .deferredReply
  | .lineEvents _ _ _ _ _ => .long .lineEvents
  | .incident _ _ _ _ _ _ => .long .incident
  | .testResult _ _ _ => .long .testResult
  | .reply _ _ _ => .long .reply
  | .command cmd => .long (commandKind cmd)

/-! ### Header and check (R95, R180) -/

/-- The header cells after START: precedence, inverted sender, form, kind and, in the long form, target, authority and
length (R95, R179). -/
def headerCells (kind : FrameKind) (precedence : BitVec 3) (sender : StationNo) (target : StationNo)
    (authority : BitVec 2) (length : Nat) : List Bool :=
  fieldBits 3 precedence.toNat ++ fieldBits 4 (~~~ sender).toNat ++
    match kind with
    | .short k => false :: fieldBits 4 (shortKindCode k)
    | .long k => true :: fieldBits 4 (longKindCode k) ++ fieldBits 4 target.toNat ++ fieldBits 2 authority.toNat ++
        fieldBits 4 length

/-- One cell into the check register (R180). -/
def checkStep (r : BitVec 16) (cell : Bool) : BitVec 16 :=
  if (r.msb ^^ cell) then (r <<< 1) ^^^ 0x1021#16 else r <<< 1

/-- The check over a run of cells (R96, R180). -/
def checkOf (cells : List Bool) : BitVec 16 := cells.foldl checkStep 0xFFFF#16

/-- The cells of a received frame from the first precedence cell to the last body cell, as its row's form and kind
place them (R95). -/
def rxCells (kind : FrameKind) (f : RxFrame) : List Bool :=
  headerCells kind f.precedence f.sender f.target f.authority f.body.length ++ bitsOfBytes f.body

/-- The START cell, a 0 cell, comes before the header cells and outside the check (R95, R96, R179). -/
def startCell : Bool := false

/-- The five response cells in the order VOID, ACK, OWN, DEFER, STALL; a driven cell reads 0 (R100, R179). -/
def responseCells (c : Cells) : List Bool := [!c.void, !c.ack, !c.own, !c.defer, !c.stall]

/-- A frame's whole run of cells, as the line shows them: START, the header, the body, the 16 check cells and the five
response cells, with what is driven in these (R95, R179). -/
def frameCells (kind : FrameKind) (f : RxFrame) (responses : Cells) : List Bool :=
  startCell :: rxCells kind f ++ fieldBits 16 f.check.toNat ++ responseCells responses

/-- A check error: the check computed over the cells read differs from the check field read (R96). -/
def checkError (kind : FrameKind) (f : RxFrame) : Bool := checkOf (rxCells kind f) != f.check

/-- The precedence a CLS-24 sends a kind with; command frames are not sent by it, and are given 0 here (R102). -/
def kindPrecedence : FrameKind → Nat
  | .short .lock => 0 | .short .unlock => 0 | .short .faultClaim => 1 | .short .leave => 1
  | .long .quiet => 0 | .long .release => 0 | .long .deferredReply => 1 | .long .lineEvents => 3
  | .long .incident => 4 | .long .testResult => 4 | .long .reply => 2 | .long _ => 0

/-- The frame as a station reads it undisturbed when a body is sent to it by R95: right length, right check, no VOID
from another receiver. -/
def frameOf (sender target : StationNo) (authority : BitVec 2) (b : Body) : RxFrame :=
  let precedence := BitVec.ofNat 3 (kindPrecedence (bodyKind b))
  let bytes := bodyBytes b
  { precedence := precedence, sender := sender, target := target, authority := authority, body := bytes
    check := checkOf (headerCells (bodyKind b) precedence sender target authority bytes.length ++ bitsOfBytes bytes)
    voidedByOther := false }

/-- A frame as this station sends it: its form and kind and its length field, which stand in the header beside the fields
that a receiver reads (R95, R179). A short frame has no length field; its number of body bytes is given. -/
structure SentFrame where
  kind : FrameKind
  length : Nat
  frame : RxFrame
deriving DecidableEq, Repr

/-- The frame that carries a body: its form and kind by the body (R102), its length that of the body built (R95). -/
def sentFrame (sender target : StationNo) (authority : BitVec 2) (b : Body) : SentFrame :=
  { kind := bodyKind b, length := (bodyBytes b).length, frame := frameOf sender target authority b }

/-- The cells a sender sends: of the response cells it drives only the leading edges, as 1 cells (R100). -/
def SentFrame.cells (f : SentFrame) : List Bool :=
  frameCells f.kind f.frame { void := false, ack := false, own := false, defer := false, stall := false }

/-! ### Allowed lengths and code ranges (R96, R179, R181) -/

/-- The value of the field of a width at an offset from the start of a body. -/
def fieldAt (offset width : Nat) (bits : List Bool) : Nat := natOfBits ((bits.drop offset).take width)

/-- A field's width and the greatest value this chapter lets it carry. -/
abbrev FieldRange := Nat × Nat

def inRanges : List FieldRange → List Bool → Bool
  | [], _ => true
  | (w, top) :: rest, bits => natOfBits (bits.take w) ≤ top && inRanges rest (bits.drop w)

def rangesWidth (rs : List FieldRange) : Nat := (rs.map Prod.fst).sum

def repeatRanges (n : Nat) (rs : List FieldRange) : List FieldRange := (List.replicate n rs).flatten

def keyRanges : List FieldRange := [(4, 15), (5, 31), (2, 3)]

def memberRanges : List FieldRange := [(4, 15), (5, 31), (1, 1)]

def lineViewRanges : List FieldRange :=
  [(8, 255), (3, 4), (2, 2), (1, 1), (1, 1), (4, 15), (8, 161), (5, 30), (3, 4), (1, 1), (12, 4095), (12, 4095), (4, 15),
    (4, 15), (1, 1), (1, 1)]

def faultViewRanges : List FieldRange :=
  [(8, 255), (2, 2), (5, 31), (4, 15), (4, 15), (4, 15), (4, 15), (16, 65535), (3, 4), (5, 31), (2, 3), (2, 3), (1, 1),
    (1, 1), (6, 63)]

def busViewRanges : List FieldRange :=
  [(2, 2), (4, 15), (4, 15), (1, 1), (1, 1), (1, 1), (5, 31), (4, 15), (2, 2), (11, 2047), (2, 3), (2, 3), (3, 7), (5, 31),
    (14, 16383), (1, 1), (1, 1)]

def lastMeasuredRanges : List FieldRange :=
  (5, 31) :: repeatRanges 3 [(14, 16383), (1, 1), (16, 65535), (2, 3)]

def tonePoolRanges : List FieldRange :=
  repeatRanges 4 [(3, 4), (5, 31)] ++ [(5, 31)] ++ repeatRanges 6 [(5, 31), (4, 15)]

/-- The fields of a view that answers QUERY PAIR with status DONE; an index and part that select no view add none. -/
def pairViewRanges (index part : Nat) : List FieldRange :=
  if index < 24 then
    match part with
    | 0 => lineViewRanges
    | 1 => faultViewRanges
    | _ => []
  else
    match index, part with
    | 24, 0 => [(12, 4095), (16, 65535), (4, 15), (4, 15), (4, 15), (5, 31), (5, 31), (5, 31), (2, 3)]
    | 25, 0 => [(1, 1), (1, 1), (1, 1), (4, 15)]
    | 26, 0 => busViewRanges
    | 26, 1 => lastMeasuredRanges
    | 27, 0 => tonePoolRanges
    | _, _ => []

/-- The fields of a REPLY body: they follow from the kind answered, the status, the index and part, and the count
fields (R181). A reply to a query with a status that R181 does not name for queries adds nothing (log entry 52). -/
def replyRanges (bits : List Bool) : Option (List FieldRange) :=
  let kind := fieldAt 0 3 bits
  let done := fieldAt 3 3 bits == 0
  let head : List FieldRange := [(3, 6), (3, 6)]
  match kind with
  | 0 => some (head ++ [(5, 31), (2, 3)] ++ if done then pairViewRanges (fieldAt 6 5 bits) (fieldAt 11 2 bits) else [])
  | 1 => some (head ++ keyRanges ++ [(3, 7)] ++
      if done then [(3, 4), (3, 5), (6, 63), (8, 255), (4, 15), (3, 6)] ++ repeatRanges (fieldAt 44 3 bits) memberRanges
      else [])
  | 2 => some (head ++ [(5, 31)])
  | 3 => some (head ++ [(5, 31)] ++ if done then [(8, 255)] else [])
  | 4 => some (head ++ [(5, 31)] ++ if done then [(8, 255)] else [])
  | 5 => some (head ++ keyRanges)
  | 6 => some head
  | _ => none

/-- The fields that a kind's body has, read with the count or outcome found at its place in the body; none where that
count is outside its range (R179, R181). An INCIDENT's members are read by its own m, whatever its state, and a QUIET for
an uplink test may carry any class (log entry 45). -/
def bodyRanges (kind : FrameKind) (bits : List Bool) : Option (List FieldRange) :=
  match kind with
  | .short .lock => some []
  | .short .unlock => some []
  | .short .faultClaim => some (keyRanges ++ [(5, 31), (5, 31), (1, 1)])
  | .short .leave => some (keyRanges ++ [(5, 31)])
  | .long .quiet => some [(5, 31), (1, 1), (2, 3)]
  | .long .release => some [(5, 31)]
  | .long .deferredReply => some ([(5, 31), (5, 31)] ++ keyRanges ++ [(1, 1)])
  | .long .lineEvents =>
    let n := fieldAt 5 3 bits
    if n = 0 then none
    else some ([(5, 31), (3, 6), (4, 15), (1, 1), (1, 1)] ++ repeatRanges n [(4, 14), (4, 15), (8, 255)])
  | .long .incident =>
    some (keyRanges ++ [(3, 4), (3, 5), (1, 1), (8, 255), (3, 5)] ++ repeatRanges (fieldAt 26 3 bits) memberRanges)
  | .long .testResult =>
    some ([(5, 31), (3, 4)] ++ if fieldAt 5 3 bits = 0 then repeatRanges 3 [(14, 16383), (1, 1), (16, 65535)] else [])
  | .long .reply => replyRanges bits
  | .long .queryPair => some [(5, 31), (2, 3)]
  | .long .queryIncident => some (keyRanges ++ [(3, 7)])
  | .long .testPair => some [(5, 31)]
  | .long .park => some [(5, 31)]
  | .long .unpark => some [(5, 31)]
  | .long .clearIncident => some keyRanges
  | .long .restart => some []

/-- A length error: the body is not of the length its fields call for, or a count or code field is outside its range
(R96, R179). -/
def lengthError (kind : FrameKind) (f : RxFrame) : Bool :=
  let bits := bitsOfBytes f.body
  match bodyRanges kind bits with
  | none => true
  | some rs => !(f.body.length == (rangesWidth rs + 7) / 8 && inRanges rs bits)

/-! ### What a receiver reads out of a body (R179, R181)

Pad bits are ignored, whatever their value. -/

def keyAt (offset : Nat) (bits : List Bool) : Key :=
  { cable := BitVec.ofNat 4 (fieldAt offset 4 bits), binder := BitVec.ofNat 5 (fieldAt (offset + 4) 5 bits)
    cls := classOfCode (fieldAt (offset + 9) 2 bits) }

def flagAt (offset : Nat) (bits : List Bool) : Bool := fieldAt offset 1 bits == 1

def pairAt (offset : Nat) (bits : List Bool) : PairNo := BitVec.ofNat 5 (fieldAt offset 5 bits)

def membersAt (offset : Nat) (bits : List Bool) : Nat → List WireMember
  | 0 => []
  | n + 1 =>
    { station := BitVec.ofNat 4 (fieldAt offset 4 bits), pair := pairAt (offset + 4) bits
      leaving := flagAt (offset + 9) bits } :: membersAt (offset + 10) bits n

def wireEventsAt (offset : Nat) (bits : List Bool) : Nat → Option (List WireEvent)
  | 0 => some []
  | n + 1 =>
    match eventOfCode (fieldAt offset 4 bits), wireEventsAt (offset + 16) bits n with
    | some t, some es => some ({ type := t, value := fieldAt (offset + 4) 4 bits, age := fieldAt (offset + 8) 8 bits } :: es)
    | _, _ => none

def wireLegAt (offset : Nat) (bits : List Bool) : WireLeg :=
  { vOff := ofTwos 14 (fieldAt offset 14 bits)
    resistance := if flagAt (offset + 14) bits then none else some (fieldAt (offset + 15) 16 bits) }

def commandAt (kind : LongKind) (bits : List Bool) : Option Command :=
  match kind with
  | .queryPair => some (.queryPair (BitVec.ofNat 5 (fieldAt 0 5 bits)) (BitVec.ofNat 2 (fieldAt 5 2 bits)))
  | .queryIncident => some (.queryIncident (keyAt 0 bits) (BitVec.ofNat 3 (fieldAt 11 3 bits)))
  | .testPair => some (.testPair (pairAt 0 bits))
  | .park => some (.park (pairAt 0 bits))
  | .unpark => some (.unpark (pairAt 0 bits))
  | .clearIncident => some (.clearIncident (keyAt 0 bits))
  | .restart => some .restart
  | _ => none

/-- The body that a receiver reads from the bytes of a frame of a kind; REPLY bodies are not read, since no station
handles them (R102), and a code that names nothing reads as no body. -/
def bodyOf (kind : FrameKind) (bytes : List Byte) : Option Body :=
  let bits := bitsOfBytes bytes
  match kind with
  | .short .lock => some .lock
  | .short .unlock => some .unlock
  | .short .faultClaim => some (.faultClaim (keyAt 0 bits) (pairAt 11 bits) (BitVec.ofNat 5 (fieldAt 16 5 bits)) (flagAt 21 bits))
  | .short .leave => some (.leave (keyAt 0 bits) (pairAt 11 bits))
  | .long .quiet => some (.quiet (pairAt 0 bits) (flagAt 5 bits) (classOfCode (fieldAt 6 2 bits)))
  | .long .release => some (.release (pairAt 0 bits))
  | .long .deferredReply => some (.deferredReply (BitVec.ofNat 5 (fieldAt 0 5 bits)) (pairAt 5 bits) (keyAt 10 bits) (!flagAt 21 bits))
  | .long .lineEvents =>
    match wireEventsAt 14 bits (fieldAt 5 3 bits) with
    | some es => some (.lineEvents (pairAt 0 bits) (BitVec.ofNat 4 (fieldAt 8 4 bits)) (flagAt 12 bits) (flagAt 13 bits) es)
    | none => none
  | .long .incident =>
    match reportedOfCode (fieldAt 11 3 bits), verdictOfCode (fieldAt 14 3 bits) with
    | some st, some v => some (.incident (keyAt 0 bits) st v (flagAt 17 bits) (fieldAt 18 8 bits)
        (membersAt 29 bits (fieldAt 26 3 bits)))
    | _, _ => none
  | .long .testResult =>
    match outcomeOfCode (fieldAt 5 3 bits) with
    | some .done => some (.testResult (pairAt 0 bits) .done [wireLegAt 8 bits, wireLegAt 39 bits, wireLegAt 70 bits])
    | some o => some (.testResult (pairAt 0 bits) o [])
    | none => none
  | .long .reply => none
  | .long k => (commandAt k bits).map .command

end Sys2Proof.Machine
end

