-- ==== Sys2Proof/Machine/State.lean ====
section
/-! DEFINITION. The station's state as plain data, the reasons a step can stop, and the state after reset (R174).
INVENTORY.md lists each field with its rule and its reset value. A timer is held as the station time at which it runs
out, absent while it is stopped (log entry 3). -/

namespace Sys2Proof.Machine

/-- The least and greatest D and C over an interval's unclipped samples (R28). -/
structure Extremes where
  minD : Int
  maxD : Int
  minC : Int
  maxC : Int
deriving DecidableEq, Repr

/-- The interval accumulator of a pair (R1, R28). -/
structure Accumulator where
  scans : Nat
  dead : Nat
  opened : Nat
  positive : Nat
  clipped : Nat
  sag : Nat
  sum : Nat
  extremes : Option Extremes
deriving DecidableEq, Repr

/-- The empty accumulator (R6, R30). -/
def Accumulator.empty : Accumulator :=
  { scans := 0, dead := 0, opened := 0, positive := 0, clipped := 0, sag := 0, sum := 0, extremes := none }

/-- One entry of a pending event list (R9). -/
structure Event where
  type : EventType
  value : Nat
  seq : BitVec 4
  time : Nat
deriving DecidableEq, Repr

/-- One pair record (R1). `check` says whether the stored check matches the contents (log entry 4). -/
structure PairRecord where
  classMemory : SampleClass
  acc : Accumulator
  vTip : Int
  vRing : Int
  loop : LoopState
  closedRun : Nat
  breakLength : Nat
  pulseCount : Nat
  lockoutTimer : Nat
  dialled : Bool
  beforeBreak : LoopState
  freeze : FreezeCause
  feedDead : Nat
  feedBack : Nat
  ringingHold : Bool
  quietCount : Nat
  feedLoss : Nat
  foreign : Nat
  groundLeak : Nat
  latched : LatchedSet
  fault : FaultState
  recovery : Nat
  dref16 : Nat
  claim : ClaimState
  claimTimer : Option Nat
  receiver : Option ReceiverNo
  events : List Event
  nextSeq : BitVec 4
  gap : Bool
  stale : Bool
  discard : Bool
  check : Bool
deriving DecidableEq, Repr

/-- The set with no class latched. -/
def LatchedSet.none : LatchedSet :=
  { feedLoss := false, foreign := false, groundLeak := false, permanentLoop := false }

/-- The record after a pin reset or a RESTART (R6 with the column of R8, R55, R174). -/
def PairRecord.initial : PairRecord :=
  { classMemory := .openLoop, acc := .empty, vTip := 0, vRing := 0
    loop := .onHook, closedRun := 0, breakLength := 0, pulseCount := 0, lockoutTimer := 0, dialled := false
    beforeBreak := .onHook, freeze := .unfrozen, feedDead := 0, feedBack := 0
    ringingHold := false, quietCount := 0
    feedLoss := 0, foreign := 0, groundLeak := 0, latched := .none, fault := .clear, recovery := 0, dref16 := 0
    claim := .unclaimed, claimTimer := none, receiver := none
    events := [], nextSeq := 0, gap := false, stale := false, discard := false, check := true }

/-- A tone receiver's record (R56). `spoiled` is the model's own: a sample of the block now being gathered was taken in
BREAK or while frozen (R64, log entry 12). -/
structure Receiver where
  state : ReceiverState
  pair : Option Pair
  candidate : Option (Fin 4 × Fin 4)
  run : Nat
  assigned : Option Nat
  lastDigit : Option Nat
  spoiled : Bool
deriving DecidableEq, Repr

/-- A receiver that is not lent (R56). -/
def Receiver.idle : Receiver :=
  { state := .idle, pair := none, candidate := none, run := 0, assigned := none, lastDigit := none, spoiled := false }

/-- One entry of the wait list (R57). -/
structure Waiting where
  pair : Pair
  since : Nat
deriving DecidableEq, Repr

/-- Who holds a claim tag (R84). -/
structure TagHolder where
  pair : Pair
  cls : FaultClass
deriving DecidableEq, Repr

/-- A member of an incident (R111). -/
structure Member where
  station : StationNo
  pair : PairNo
  renewed : Nat
  leaving : Bool
deriving DecidableEq, Repr

/-- An entry of a defer list (R111). -/
structure Defer where
  station : StationNo
  tag : BitVec 5
  pair : PairNo
  renew : Bool
  underAnswer : Bool
deriving DecidableEq, Repr

/-- The report of a closed incident still to be sent (R111, R113). -/
structure ClosingReport where
  verdict : Verdict
  forced : Bool
deriving DecidableEq, Repr

/-- One entry of the incident table (R111). `revivesConfirmed` is the state before clearing: true for CONFIRMED, false
for OPEN, read in CLEARING alone. -/
structure Entry where
  key : Option Key
  state : EntryState
  revivesConfirmed : Bool
  verdict : Verdict
  members : List Member
  overflow : Nat
  emptyTimer : Option Nat
  defers : List Defer
  retryTimer : Option Nat
  membersAtAttempt : Nat
  clearHold : Option Nat
  changed : Bool
  closing : Option ClosingReport
  check : Bool
deriving DecidableEq, Repr

/-- An entry that holds nothing (R111). -/
def Entry.empty : Entry :=
  { key := none, state := .free, revivesConfirmed := false, verdict := .unjudged, members := [], overflow := 0
    emptyTimer := none, defers := [], retryTimer := none, membersAtAttempt := 0, clearHold := none, changed := false
    closing := none, check := true }

/-- This station's view of the test bus (R132). -/
inductive BusHolder where
  | free
  | held (holder : StationNo) (heard : Nat)
  | mine
deriving DecidableEq, Repr

/-- The confirmation run (R132): its entry with the key, which the run holds (R156), and its deadline while it waits,
absent once it runs. -/
structure Run where
  entry : EntryNo
  key : Key
  deadline : Option Nat
deriving DecidableEq, Repr

/-- Where the uplink test in the slot stands (R143, R158). -/
inductive TestPhase where
  | waiting (deadline : Nat)
  | running
  | ended (outcome : TestOutcome) (legs : List LegRecord)
deriving DecidableEq, Repr

/-- The uplink test slot when it is held (R143). -/
structure UplinkTest where
  pair : Pair
  phase : TestPhase
deriving DecidableEq, Repr

/-- The access record: the one pair of this station in TEST_ACCESS (R132, R139). -/
structure Access where
  pair : Pair
  holder : StationNo
  began : Nat
deriving DecidableEq, Repr

/-- The test bus controller (R132). `remote` is the pair of another station that this holder has in access (R141), and
`unlockDue` says that an abandoned run's UNLOCK is still to be placed (R144); both are implied by the manual's words. -/
structure TestBus where
  view : BusHolder
  lastAccepted : Option Nat
  restraint : Option Nat
  run : Option Run
  test : Option UplinkTest
  releaseWait : Option Nat
  tested : Nat
  faulted : Nat
  position : Nat
  access : Option Access
  remote : Option (StationNo × PairNo)
  unlockDue : Bool
deriving DecidableEq, Repr

/-- The controller after a pin reset or a RESTART (R132). -/
def TestBus.initial : TestBus :=
  { view := .free, lastAccepted := none, restraint := none, run := none, test := none, releaseWait := none
    tested := 0, faulted := 0, position := 0, access := none, remote := none, unlockDue := false }

/-- The leg selector (R145). -/
inductive Selector where
  | none | cal | leg (leg : Leg)
deriving DecidableEq, Repr

/-- The measurement in progress (R145): `vOff` is absent while the off reading of `leg` is being taken and present
while its on reading is. -/
structure Measurement where
  station : StationNo
  pair : PairNo
  forRun : Bool
  leg : Leg
  vOff : Option Int
  records : List LegRecord
deriving DecidableEq, Repr

/-- The test unit (R145), with the last completed measurement (R159) and the time at which the reading now settling is
taken (200 ms, R147, R150, R151). -/
structure TestUnit where
  connected : Bool
  selector : Selector
  source : Bool
  vCal : Option Int
  calibrationPassed : Bool
  failed : Bool
  measurement : Option Measurement
  last : Option LastMeasurement
  readingDue : Option Nat
deriving DecidableEq, Repr

/-- The test unit after a pin reset or a RESTART (R145). -/
def TestUnit.initial : TestUnit :=
  { connected := false, selector := .none, source := false, vCal := none, calibrationPassed := false, failed := false
    measurement := none, last := none, readingDue := none }

/-- A reply slot when it is occupied (R160). -/
structure ReplySlot where
  command : Command
  sender : StationNo
  status : Option Status
  previousWord : Option Int
  stationAtTaking : Option StationState
  restartMark : Bool
deriving DecidableEq, Repr

/-- What a queue item is for (R103). -/
inductive ItemKind where
  | lock (keepAlive : Bool)
  | unlock
  | quiet (station : StationNo) (pair : PairNo) (cls : FaultClass)
  | release (station : StationNo) (pair : PairNo)
  | faultClaim (pair : Pair)
  | leave (pair : Pair) (key : Key)
  | deferredReply (entry : EntryNo) (station : StationNo) (pair : PairNo)
  | reply (slot : Fin 4)
  | lineEvents (pair : Pair)
  | incident (entry : EntryNo)
  | testResult
deriving DecidableEq, Repr

/-- One item of the transmit queue (R103). `content` is present exactly while its frame is in contention or on the bus;
it carries the notes of R14 (the events and the gap flag carried). `orphaned` marks a frame whose outcome is to be
discarded because the record or the lock it was built for is gone (R7, R144). -/
structure Item where
  kind : ItemKind
  attempts : Nat
  round : Nat
  backoff : Option Nat
  content : Option Body
  withdrawn : Bool
  superseded : Bool
  orphaned : Bool
deriving DecidableEq, Repr

/-- The whole station. `pending` is the queue of commands that wait, first in, first out; `choices` counts the free
choices taken (log entries 8 and 9), and `dueTest` says that a test of R122 is called for and not yet made (log entry
20): these three are the model's own. `cells` are the response cells this station drove in the
last frame it read, none once it is FAILED, and `abandoned` says that it abandoned the frame now on the bus on a collision (R98). -/
structure State where
  station : StationState
  now : Nat
  listenUntil : Option Nat
  straps : Straps
  integrityAt : Option Nat
  pairs : Vector PairRecord 24
  serviceA : Vector Service 24
  serviceB : Vector Service 24
  receivers : Vector Receiver 4
  waitList : List Waiting
  tags : Vector (Option TagHolder) 32
  tagPointer : Tag
  entries : Vector Entry 8
  keyStore : Vector (Option Key) 8
  bus : TestBus
  unit : TestUnit
  slots : Vector (Option ReplySlot) 4
  queue : List Item
  abandoned : Bool
  cells : Cells
  dueTest : Bool
  choices : Nat
  pending : List Instr
deriving DecidableEq, Repr

/-- A step of this machine never faults: the manual gives every command an effect and names no behaviour that stops
the part for good other than the station states STRAP_ERROR and FAILED, which are states. Safe. -/
inductive Fault where
deriving DecidableEq, Repr

/-- Why a command is refused. -/
inductive Refusal where
  /-- Raised by `exec` for a command that has no meaning yet; no command of this model is left so. Safe. -/
  | notModelled (mnemonic : String)
deriving DecidableEq, Repr

/-- No response cell driven. -/
def noCells : Cells := { void := false, ack := false, own := false, defer := false, stall := false }

/-- The straps that `State.reset` stands on: every strap pin low (log entry 5). -/
def allStrapsLow : Straps := { station := 0, cable := 0, binderA := 0, binderB := 0, split := 0, pairCount := 0 }

/-- The machine right after reset: the values of R174 in LISTEN_IN with its 5 s timer just started, on straps that are
all low, so with 8 pairs EQUIPPED (log entry 5). -/
def State.reset : State :=
  { station := .listenIn, now := 0, listenUntil := some 5000, straps := allStrapsLow, integrityAt := none
    pairs := Vector.replicate 24 PairRecord.initial
    serviceA := Vector.ofFn fun p => if p.val < 8 then .equipped else .absent
    serviceB := Vector.ofFn fun p => if p.val < 8 then .equipped else .absent
    receivers := Vector.replicate 4 Receiver.idle, waitList := []
    tags := Vector.replicate 32 none, tagPointer := 0
    entries := Vector.replicate 8 Entry.empty, keyStore := Vector.replicate 8 none
    bus := .initial, unit := .initial, slots := Vector.replicate 4 none
    queue := [], abandoned := false, cells := noCells, dueTest := false, choices := 0, pending := [] }

end Sys2Proof.Machine
end

