-- ==== Sys2Proof/Machine/Ops.lean ====
section
/-! DEFINITION. The named operations every block uses: reading and writing a pair record, an incident entry, a receiver
or a reply slot; the straps' consequences; the clock; the transmit queue; the pending event list; and the one access a
station's pair can be in. -/

namespace Sys2Proof.Machine

/-! ### Station and straps -/

/-- The blocks run in LISTEN_IN and in ACTIVE (R18, R56, R110, R160, R175). -/
def State.running (s : State) : Bool := s.station == .listenIn || s.station == .active

/-- The equipped count of a pair-count code (R172); code 3 is unusable and equips no pair (log entry 25). -/
def equippedCount (code : BitVec 2) : Nat :=
  match code.toNat with
  | 0 => 8 | 1 => 16 | 2 => 24 | _ => 0

/-- The split in use: the strapped split clamped to the equipped count (R172). -/
def splitInUse (straps : Straps) : Nat := min straps.split.toNat (equippedCount straps.pairCount)

/-- The key of a pair's claim in a class (R84, R85). -/
def State.pairKey (s : State) (p : Pair) (cls : FaultClass) : Key :=
  { cable := s.straps.cable
    binder := if p.val < splitInUse s.straps then s.straps.binderA else s.straps.binderB
    cls := cls }

/-- The pair of this station that a pair field names, if it names one (R179). -/
def toPair (n : PairNo) : Option Pair := if h : n.toNat < 24 then some ⟨n.toNat, h⟩ else none

/-- A pair as a frame's pair field carries it. -/
def pairNo (p : Pair) : PairNo := BitVec.ofNat 5 p.val

/-- The 24 pairs in ascending order. -/
def allPairs : List Pair := List.finRange 24

/-- The 8 incident entries in ascending order. -/
def allEntries : List EntryNo := List.finRange 8

/-! ### The clock -/

/-- The station time carried forward to a moment, never back: an expiry is taken no sooner than its timer runs out
(log entry 2). -/
def State.elapseTo (s : State) (t : Nat) : State := { s with now := max s.now t }

/-! ### Records -/

def State.pair (s : State) (p : Pair) : PairRecord := s.pairs.get p

/-- A write to a pair record: taken whole, with its check recomputed (R2). -/
def State.setPair (s : State) (p : Pair) (r : PairRecord) : State :=
  { s with pairs := s.pairs.set p.val { r with check := true } p.isLt }

def State.modPair (s : State) (p : Pair) (f : PairRecord → PairRecord) : State := s.setPair p (f (s.pair p))

/-- The service of a pair: of its two copies, the first is read (log entry 40). -/
def State.service (s : State) (p : Pair) : Service := s.serviceA.get p

/-- A change of service: both copies are written together (R1). -/
def State.setService (s : State) (p : Pair) (v : Service) : State :=
  { s with serviceA := s.serviceA.set p.val v p.isLt, serviceB := s.serviceB.set p.val v p.isLt }

def State.receiver (s : State) (r : ReceiverNo) : Receiver := s.receivers.get r

def State.setReceiver (s : State) (r : ReceiverNo) (x : Receiver) : State :=
  { s with receivers := s.receivers.set r.val x r.isLt }

def State.entry (s : State) (e : EntryNo) : Entry := s.entries.get e

def State.slot (s : State) (i : Fin 4) : Option ReplySlot := s.slots.get i

def State.setSlot (s : State) (i : Fin 4) (x : Option ReplySlot) : State :=
  { s with slots := s.slots.set i.val x i.isLt }

/-! ### The transmit queue (R103 to R109) -/

/-- What names an item (R103, R104). -/
def itemRef : ItemKind → ItemRef
  | .lock _ => .testBus
  | .unlock => .testBus
  | .quiet _ _ _ => .testBus
  | .release _ _ => .testBus
  | .faultClaim p => .faultClaim p
  | .leave p _ => .leave p
  | .deferredReply e st p => .deferredReply e st p
  | .reply i => .reply i
  | .lineEvents p => .lineEvents p
  | .incident e => .incident e
  | .testResult => .testResult

/-- The precedence of an item, by its kind (R102). -/
def itemPrecedence : ItemKind → Nat
  | .lock _ => 0 | .unlock => 0 | .quiet _ _ _ => 0 | .release _ _ => 0
  | .faultClaim _ => 1 | .leave _ _ => 1 | .deferredReply _ _ _ => 1
  | .reply _ => 2
  | .lineEvents _ => 3
  | .incident _ => 4 | .testResult => 4

/-- A new item: eligible at once, nothing built, no mark (R103). -/
def newItem (k : ItemKind) : Item :=
  { kind := k, attempts := 0, round := 0, backoff := none, content := none, withdrawn := false, superseded := false
    orphaned := false }

/-- A new item stands at the end of the items of its precedence (R103). -/
def insertItem (x : Item) : List Item → List Item
  | [] => [x]
  | y :: rest => if itemPrecedence y.kind ≤ itemPrecedence x.kind then y :: insertItem x rest else x :: y :: rest

def State.item (s : State) (ref : ItemRef) : Option Item := s.queue.find? fun x => itemRef x.kind == ref

def State.hasItem (s : State) (ref : ItemRef) : Bool := s.queue.any fun x => itemRef x.kind == ref

/-- Placing an item: only in LISTEN_IN or ACTIVE (R110), and at most one of a name (R104). -/
def State.place (s : State) (k : ItemKind) : State :=
  if s.running && !s.hasItem (itemRef k) then { s with queue := insertItem (newItem k) s.queue } else s

def State.removeItem (s : State) (ref : ItemRef) : State :=
  { s with queue := s.queue.filter fun x => itemRef x.kind != ref }

def State.updateItem (s : State) (ref : ItemRef) (f : Item → Item) : State :=
  { s with queue := s.queue.map fun x => if itemRef x.kind == ref then f x else x }

/-- The item whose frame is in contention or on the bus: the one whose content stands built (R103, R105). -/
def State.inFlight (s : State) : Option Item := s.queue.find? fun x => x.content.isSome

/-- A withdrawal (R108): an item not in contention leaves at once, and one in contention is marked by `mark`. -/
def State.withdraw (s : State) (ref : ItemRef) (mark : Item → Item) : State :=
  match s.item ref with
  | none => s
  | some x => if x.content.isSome then s.updateItem ref mark else s.removeItem ref

def markWithdrawn (x : Item) : Item := { x with withdrawn := true }

/-- A FAULT CLAIM whose claim is ended or turned while its frame is out (R91, R108). -/
def markSuperseded (x : Item) : Item := { x with withdrawn := true, superseded := true }

/-- A frame whose record or lock is gone under it: its outcome is discarded (R7, R144). -/
def markOrphaned (x : Item) : Item := { x with withdrawn := true, orphaned := true }

/-- The item after its frame's outcome was taken and it stays: nothing built, no mark (R105). -/
def clearBuild (x : Item) : Item :=
  { x with content := none, withdrawn := false, superseded := false, orphaned := false }

/-- The round after a busy or STALL outcome (R109). -/
def nextRound (round : Nat) : Nat := if round ≥ 8 then 1 else round + 1

/-- The backoff delay in ms of round r for station s: (i + 1) × 20 with i = (s XOR (r × 5)) mod 8 (R109). -/
def backoffDelay (station : StationNo) (round : Nat) : Nat := ((station.toNat ^^^ (round * 5)) % 8 + 1) * 20

/-! ### The pending event list (R9 to R13) -/

/-- An append: at the tail with the next sequence number and the present time, or discarded on a full list with the gap
flag and the discard mark set (R9, R10). -/
def PairRecord.append (r : PairRecord) (now : Nat) (t : EventType) (v : Nat) : PairRecord :=
  if r.events.length < 8 then
    { r with events := r.events ++ [{ type := t, value := v, seq := r.nextSeq, time := now }], nextSeq := r.nextSeq + 1 }
  else { r with gap := true, discard := true }

/-- A LINE EVENTS item stands in the queue whenever the pair's list is not empty (R13). -/
def State.placeLineEvents (s : State) (p : Pair) : State :=
  if (s.pair p).events.isEmpty then s else s.place (.lineEvents p)

def State.appendEvent (s : State) (p : Pair) (t : EventType) (v : Nat) : State :=
  (s.modPair p fun r => r.append s.now t v).placeLineEvents p

/-! ### Access (R139, R140) -/

/-- The pair in TEST_ACCESS. Its access relay is the one that is closed (R139). -/
def State.inAccess (s : State) (p : Pair) : Bool := (s.bus.access.map Access.pair) == some p

/-- The freeze cause returns to none (R54, R140). -/
def PairRecord.endAccess (r : PairRecord) : PairRecord :=
  { r with freeze := .unfrozen, closedRun := 0, breakLength := 0, feedDead := 0 }

/-- An access begins: relay, freeze cause and access record in one step (R139). -/
def State.beginAccess (s : State) (p : Pair) (holder : StationNo) : State :=
  let s := s.modPair p fun r => { r with freeze := .access }
  { s with bus := { s.bus with access := some { pair := p, holder := holder, began := s.now } } }

/-- The access, if there is one, ends: the relay opens, the record is cleared and the freeze cause returns to none
(R140). -/
def State.endAccess (s : State) : State :=
  match s.bus.access with
  | none => s
  | some a =>
    let s := s.modPair a.pair PairRecord.endAccess
    { s with bus := { s.bus with access := none } }

end Sys2Proof.Machine
end

