-- ==== Sys2Proof/Machine/Operands.lean ====
section
/-! DEFINITION. How an operand that is a voltage or an audio sample becomes a reading: every ADC of the station saturates
at its range (R22, R63, R150; log entry 10). -/

namespace Sys2Proof.Machine

/-- A value held to a range. -/
def clampTo (low high : Int) (v : Int) : Int := max low (min high v)

/-- The sense ADC: a signed count of 0.25 V, −2048 to +2047 (R21). -/
def senseReading (v : Int) : Int := clampTo (-2048) 2047 v

/-- The test ADC: a signed count of 0.025 V, −8191 to +8191 (R150). -/
def testReading (v : Int) : Int := clampTo (-8191) 8191 v

/-- An audio sample: 12-bit signed, −2048 to +2047 (R63). -/
def audioSample (v : Int) : Int := clampTo (-2048) 2047 v

end Sys2Proof.Machine
end

