-- ==== Sys2Proof/Machine/Sensing.lean ====
section
/-! DEFINITION. The sense scanner (02_sensing_and_sample_classification.md): D and C, the sample class, the indicators, the
interval accumulator, the interval record, and the learning of D_ref16. -/

namespace Sys2Proof.Machine

/-- A reading at either end of the sense range clips the sample (R22). -/
def isClipped (vTip vRing : Int) : Bool := vTip == -2048 || vTip == 2047 || vRing == -2048 || vRing == 2047

/-- D is V_tip − V_ring (R23). -/
def diffValue (vTip vRing : Int) : Int := vTip - vRing

/-- C is (V_tip + V_ring) divided by 2, truncated toward zero (R23). -/
def commonValue (vTip vRing : Int) : Int := (vTip + vRing).tdiv 2

/-- The class of an unclipped sample: DEAD, CLOSED, OPEN, or the class in memory in the hold band (R24). -/
def classify (memory : SampleClass) (d c : Int) : SampleClass :=
  if d.natAbs < 24 ∧ c.natAbs < 24 then .dead
  else if d.natAbs < 80 then .closed
  else if d.natAbs > 112 then .openLoop
  else memory

/-- The class of a sample; a clipped one takes the class in memory (R22, R24). -/
def sampleClass (memory : SampleClass) (vTip vRing : Int) : SampleClass :=
  if isClipped vTip vRing then memory else classify memory (diffValue vTip vRing) (commonValue vTip vRing)

/-- The positive-voltage indicator: either leg above 32 counts (R26). -/
def isPositive (vTip vRing : Int) : Bool := decide (vTip > 32) || decide (vRing > 32)

/-- The sag test on an unclipped OPEN sample of magnitude m: the reference test or the floor test (R27). -/
def sagTest (dref16 m : Nat) : Bool := (dref16 != 0 && decide (16 * m + 384 < dref16)) || decide (m < 140)

/-- The extremes widened to include one unclipped sample (R28). -/
def widen (x : Option Extremes) (d c : Int) : Extremes :=
  match x with
  | none => { minD := d, maxD := d, minC := c, maxC := c }
  | some e => { minD := min e.minD d, maxD := max e.maxD d, minC := min e.minC c, maxC := max e.maxC c }

/-- The accumulator after a sampled turn whose class is `cls` (R28). -/
def Accumulator.addSample (a : Accumulator) (dref16 : Nat) (cls : SampleClass) (vTip vRing : Int) : Accumulator :=
  let positive := a.positive + (isPositive vTip vRing).toNat
  if isClipped vTip vRing then
    { a with scans := a.scans + 1, clipped := a.clipped + 1, positive := positive }
  else
    let d := diffValue vTip vRing
    let c := commonValue vTip vRing
    let x := some (widen a.extremes d c)
    match cls with
    | .openLoop =>
      { a with scans := a.scans + 1, positive := positive, opened := a.opened + 1, sum := a.sum + d.natAbs
               sag := a.sag + (sagTest dref16 d.natAbs).toNat, extremes := x }
    | .dead => { a with scans := a.scans + 1, positive := positive, dead := a.dead + 1, extremes := x }
    | .closed => { a with scans := a.scans + 1, positive := positive, extremes := x }

/-- The record after a sampled turn's readings, classification and accumulation (R21, R24, R28). -/
def PairRecord.sample (r : PairRecord) (vTip vRing : Int) : PairRecord :=
  let cls := sampleClass r.classMemory vTip vRing
  { r with vTip := vTip, vRing := vRing, classMemory := cls, acc := r.acc.addSample r.dref16 cls vTip vRing }

/-- The interval record of a close (R29). -/
structure IntervalRecord where
  dead : Nat
  opened : Nat
  positive : Nat
  clipped : Nat
  sag : Nat
  swingD : Int
  swingC : Int
  ringing : Bool
  mean : Option Nat
  freeze : FreezeCause
deriving DecidableEq, Repr

/-- The interval record built from an accumulator and the freeze cause at the close (R29, R31). -/
def intervalRecord (a : Accumulator) (freeze : FreezeCause) : IntervalRecord :=
  let swingD := match a.extremes with
    | none => 0
    | some x => x.maxD - x.minD
  let swingC := match a.extremes with
    | none => 0
    | some x => x.maxC - x.minC
  { dead := a.dead, opened := a.opened, positive := a.positive, clipped := a.clipped, sag := a.sag
    swingD := swingD, swingC := swingC, ringing := decide (swingD > 400)
    mean := if a.opened ≥ 11 then some (a.sum / a.opened) else none
    freeze := freeze }

/-- D_ref16 moved by a qualifying mean (R33). -/
def learned (dref16 mean : Nat) : Nat :=
  let v : Int := if dref16 = 0 then 16 * mean else (dref16 : Int) + ((16 * mean : Int) - dref16).tdiv 64
  let v := (clampTo 0 65520 v).toNat
  if v = 0 then 1 else v

/-- D_ref16 after a weighed close that left the GROUND_LEAK integrator at `groundLeak` (R32). -/
def learn (dref16 groundLeak : Nat) (i : IntervalRecord) : Nat :=
  match i.mean with
  | some m => if !i.ringing && groundLeak == 0 && i.freeze == .unfrozen then learned dref16 m else dref16
  | none => dref16

end Sys2Proof.Machine
end

