-- ==== Sys2Proof/Machine/Loop.lean ====
section
/-! DEFINITION. The loop supervisor (03_loop_supervision_and_pulse_dialling.md), on one pair record: seizure, digits,
breaks, lockout, ringing hold and feed freeze. Each function gives the record and what the tone receiver pool is told. -/

namespace Sys2Proof.Machine

/-- What the loop supervisor tells the tone receiver pool (section 3.9). "Pulse digit ended", "entered LOCKOUT" and "left
OFF_HOOK" have one effect there (R59, R60), so they are one message. -/
inductive PoolMessage where
  | silent | request | release
deriving DecidableEq, Repr

/-- The effective class is CLOSED: DEAD is taken as OPEN, and so is CLOSED in ON_HOOK while the ringing hold is set
(R36, R51). -/
def effectiveClosed (r : PairRecord) (cls : SampleClass) : Bool :=
  cls == .closed && !(r.loop == .onHook && r.ringingHold)

/-- Entry to LOCKOUT (R46). -/
def enterLockout (now : Nat) (r : PairRecord) : PairRecord :=
  { r.append now .lockout 0 with
    loop := .lockout, pulseCount := 0, closedRun := 0, latched := { r.latched with permanentLoop := true } }

/-- The event of a completed pulse digit and its value (R39). -/
def digitEvent (pulses : Nat) : EventType × Nat :=
  if pulses < 10 then (.digitPulse, pulses) else if pulses = 10 then (.digitPulse, 0) else (.digitError, pulses)

/-- A CLOSED sample in OFF_HOOK: the closed run, the completion of a digit, the lockout timer and lockout itself
(R39, R45, R46). -/
def offHookClosed (now : Nat) (r : PairRecord) : PairRecord × PoolMessage :=
  let run := min 30 (r.closedRun + 1)
  if r.pulseCount > 0 ∧ r.closedRun < 30 ∧ run = 30 then
    let ev := digitEvent r.pulseCount
    ({ r.append now ev.1 ev.2 with closedRun := run, pulseCount := 0, dialled := true }, .release)
  else if r.dialled then ({ r with closedRun := run }, .silent)
  else
    let r := { r with closedRun := run, lockoutTimer := min 30000 (r.lockoutTimer + 5) }
    if r.lockoutTimer ≥ 30000 then (enterLockout now r, .release) else (r, .silent)

/-- The seizure at the eighth consecutive CLOSED sample (R38). -/
def seize (now : Nat) (r : PairRecord) : PairRecord :=
  { r.append now .offhook 0 with
    loop := .offHook, closedRun := 8, lockoutTimer := 0, dialled := false, pulseCount := 0, breakLength := 0 }

/-- A break begun from a state (R40, R46). -/
def beginBreak (r : PairRecord) : PairRecord := { r with loop := .inBreak, breakLength := 1, beforeBreak := r.loop }

/-- A break that reached 161: the pair is on-hook (R41, R47). -/
def hangUp (now : Nat) (r : PairRecord) : PairRecord :=
  { r.append now .onhook 0 with
    loop := .onHook, breakLength := 0, closedRun := 0, pulseCount := 0
    latched := if r.beforeBreak == .lockout then { r.latched with permanentLoop := false } else r.latched }

/-- A CLOSED sample that ends a break begun in OFF_HOOK: a hit, a pulse or a flash by its length (R42). -/
def endBreak (now : Nat) (r : PairRecord) : PairRecord × PoolMessage :=
  if r.breakLength ≤ 3 then offHookClosed now { r with loop := .offHook, breakLength := 0 }
  else if r.breakLength ≤ 24 then
    ({ r with loop := .offHook, breakLength := 0, pulseCount := min 15 (r.pulseCount + 1), dialled := true, closedRun := 1 },
      .silent)
  else
    ({ r.append now .flash r.pulseCount with
        loop := .offHook, breakLength := 0, pulseCount := 0, lockoutTimer := 0, closedRun := 1 }, .silent)

/-- The loop state machine on one effective class (section 3.9, R37 to R47). -/
def loopMachine (now : Nat) (r : PairRecord) (closed : Bool) : PairRecord × PoolMessage :=
  match r.loop, closed with
  | .onHook, true => ({ r with loop := .seizePending, closedRun := 1 }, .silent)
  | .onHook, false => ({ r with closedRun := 0 }, .silent)
  | .seizePending, true =>
    if r.closedRun + 1 ≥ 8 then (seize now r, .request) else ({ r with closedRun := r.closedRun + 1 }, .silent)
  | .seizePending, false => ({ r with loop := .onHook, closedRun := 0 }, .silent)
  | .offHook, true => offHookClosed now r
  | .offHook, false => (beginBreak r, .silent)
  | .inBreak, true =>
    if r.beforeBreak == .lockout then ({ r with loop := .lockout, breakLength := 0 }, .silent) else endBreak now r
  | .inBreak, false =>
    if r.breakLength + 1 ≥ 161 then (hangUp now r, .release) else ({ r with breakLength := r.breakLength + 1 }, .silent)
  | .lockout, true => (r, .silent)
  | .lockout, false => (beginBreak r, .silent)

/-- A feed freeze begins (R52). -/
def feedFreeze (now : Nat) (r : PairRecord) : PairRecord :=
  let r := r.append now .feedLost 0
  let r := { r with freeze := .feed, stale := true, feedDead := 0, feedBack := 0 }
  match r.loop with
  | .inBreak => { r with loop := r.beforeBreak, breakLength := 0 }
  | .seizePending => { r with loop := .onHook, closedRun := 0 }
  | .onHook => r
  | .offHook => r
  | .lockout => r

/-- The feed-dead run after a sample handed over as `cls`, and the freeze at 20 (R52). -/
def countDead (now : Nat) (r : PairRecord) (cls : SampleClass) : PairRecord :=
  if cls == .dead then
    if r.feedDead + 1 ≥ 20 then feedFreeze now r else { r with feedDead := r.feedDead + 1 }
  else { r with feedDead := 0 }

/-- The feed-back run after a sample under a FEED freeze, and the return of feed at 4 (R53). -/
def countBack (now : Nat) (r : PairRecord) (cls : SampleClass) : PairRecord :=
  if cls == .dead then { r with feedBack := 0 }
  else if r.feedBack + 1 ≥ 4 then
    { r.append now .feedBack 0 with
      freeze := .unfrozen, stale := false, closedRun := 0, breakLength := 0, feedBack := 0, feedDead := 0 }
  else { r with feedBack := r.feedBack + 1 }

/-- One class handed over by the sense scanner (R36). -/
def loopSample (now : Nat) (r : PairRecord) (cls : SampleClass) : PairRecord × PoolMessage :=
  match r.freeze with
  | .unfrozen =>
    let x := loopMachine now r (effectiveClosed r cls)
    (countDead now x.1 cls, x.2)
  | .feed => (countBack now r cls, .silent)
  | .access => (r, .silent)

/-- The ringing hold at an interval close, with the event it appends if it appends one (R48 to R50). -/
def ringingClose (r : PairRecord) (i : IntervalRecord) : PairRecord × Option EventType :=
  if i.freeze != .unfrozen then (r, none)
  else if i.ringing then
    if r.ringingHold then ({ r with quietCount := 0 }, none)
    else
      let r := if r.loop == .seizePending then { r with loop := .onHook, closedRun := 0 } else r
      ({ r with ringingHold := true, quietCount := 0 }, some .ringOn)
  else if r.ringingHold then
    if r.quietCount + 1 ≥ 2 then ({ r with ringingHold := false, quietCount := 0 }, some .ringOff)
    else ({ r with quietCount := r.quietCount + 1 }, none)
  else (r, none)

end Sys2Proof.Machine
end

