-- ==== Sys2Proof/Machine/ToneBank.lean ====
section
/-! DEFINITION. The filter bank and the block decision (04_tone_receivers.md, sections 4.5 to 4.7): the energies of a block
of 80 samples, the four tests, the digit of a row and column, and the receiver's state machine on block verdicts. -/

namespace Sys2Proof.Machine

/-- row 0, 697 Hz: the cosine coefficients for n = 0 to 79 (R65). -/
def rowCos0 : List Int :=
  [4096, 3497, 1877, -292, -2376, -3765, -4054, -3158, -1339, 872, 2827, 3957, 3930, 2754, 774, -1433, -3221, -4067,
    -3725, -2294, -193, 1965, 3548, 4095, 3445, 1788, -392, -2457, -3804, -4039, -3094, -1244, 969, 2899, 3981, 3900,
    2680, 676, -1526, -3281, -4078, -3683, -2211, -93, 2052, 3597, 4091, 3390, 1697, -491, -2536, -3839, -4021,
    -3027, -1149, 1065, 2968, 4004, 3869, 2603, 577, -1618, -3340, -4086, -3638, -2126, 6, 2137, 3644, 4085, 3333,
    1606, -590, -2613, -3873, -4001, -2959, -1053, 1161, 3036]

/-- row 0, 697 Hz: the sine coefficients for n = 0 to 79 (R65). -/
def rowSin0 : List Int :=
  [0, 2132, 3641, 4086, 3336, 1612, -584, -2608, -3871, -4002, -2964, -1059, 1155, 3032, 4022, 3837, 2531, 485,
    -1703, -3393, -4091, -3594, -2046, 100, 2216, 3685, 4077, 3277, 1520, -682, -2685, -3902, -3980, -2894, -962,
    1250, 3098, 4040, 3801, 2452, 385, -1793, -3448, -4095, -3545, -1959, 199, 2300, 3728, 4066, 3217, 1427, -780,
    -2759, -3932, -3955, -2823, -865, 1345, 3162, 4055, 3763, 2371, 286, -1882, -3501, -4096, -3494, -1871, 299,
    2381, 3768, 4053, 3154, 1333, -878, -2832, -3958, -3928, -2750]

/-- row 1, 770 Hz: the cosine coefficients for n = 0 to 79 (R65). -/
def rowCos1 : List Int :=
  [4096, 3370, 1448, -987, -3072, -4068, -3620, -1888, 513, 2733, 3983, 3820, 2302, -32, -2355, -3843, -3967, -2685,
    -449, 1945, 3650, 4060, 3030, 925, -1508, -3406, -4095, -3333, -1387, 1050, 3115, 4075, 3589, 1831, -577, -2780,
    -3997, -3796, -2249, 97, 2408, 3865, 3951, 2636, 385, -2001, -3678, -4050, -2986, -862, 1567, 3441, 4094, 3295,
    1327, -1112, -3156, -4081, -3558, -1773, 641, 2827, 4011, 3772, 2195, -161, -2459, -3885, -3933, -2586, -321,
    2057, 3706, 4040, 2941, 799, -1627, -3475, -4091, -3256]

/-- row 1, 770 Hz: the sine coefficients for n = 0 to 79 (R65). -/
def rowSin1 : List Int :=
  [0, 2329, 3832, 3975, 2709, 481, -1917, -3635, -4064, -3051, -956, 1478, 3388, 4096, 3351, 1418, -1019, -3094,
    -4071, -3605, -1860, 545, 2757, 3990, 3808, 2276, -64, -2381, -3854, -3959, -2660, -417, 1973, 3664, 4055, 3008,
    894, -1538, -3423, -4095, -3314, -1357, 1081, 3135, 4078, 3574, 1802, -609, -2804, -4004, -3784, -2222, 129,
    2434, 3875, 3942, 2611, 353, -2029, -3692, -4046, -2964, -831, 1597, 3458, 4093, 3276, 1296, -1143, -3176, -4083,
    -3542, -1744, 673, 2850, 4017, 3759, 2168, -193, -2485]

/-- row 2, 852 Hz: the cosine coefficients for n = 0 to 79 (R65). -/
def rowCos2 : List Int :=
  [4096, 3213, 944, -1732, -3661, -4011, -2631, -116, 2449, 3958, 3759, 1939, -717, -3064, -4089, -3351, -1167, 1520,
    3552, 4051, 2804, 347, -2260, -3892, -3845, -2140, 488, 2905, 4070, 3479, 1387, -1302, -3431, -4079, -2968, -577,
    2063, 3813, 3919, 2334, -257, -2738, -4037, -3596, -1603, 1081, 3299, 4094, 3123, 805, -1860, -3722, -3980,
    -2521, 26, 2561, 3992, 3701, 1814, -856, -3156, -4095, -3268, -1031, 1650, 3620, 4028, 2699, 206, -2376, -3933,
    -3794, -2018, 628, 3003, 4083, 3402, 1253, -1436, -3506]

/-- row 2, 852 Hz: the sine coefficients for n = 0 to 79 (R65). -/
def rowSin2 : List Int :=
  [0, 2541, 3986, 3712, 1837, -831, -3140, -4094, -3283, -1056, 1627, 3608, 4033, 2718, 231, -2355, -3926, -3804,
    -2041, 603, 2986, 4081, 3416, 1278, -1412, -3492, -4067, -2887, -462, 2162, 3854, 3883, 2238, -373, -2823, -4055,
    -3539, -1496, 1192, 3366, 4088, 3047, 692, -1962, -3769, -3951, -2428, 142, 2650, 4016, 3650, 1709, -969, -3229,
    -4096, -3197, -919, 1756, 3673, 4006, 2611, 90, -2470, -3964, -3749, -1917, 742, 3081, 4091, 3336, 1143, -1544,
    -3564, -4048, -2785, -321, 2281, 3899, 3836, 2118]

/-- row 3, 941 Hz: the cosine coefficients for n = 0 to 79 (R65). -/
def rowCos3 : List Int :=
  [4096, 3027, 379, -2467, -4026, -3484, -1124, 1822, 3818, 3821, 1831, -1115, -3479, -4028, -2475, 369, 3021, 4096,
    3034, 389, -2459, -4024, -3489, -1133, 1814, 3814, 3825, 1839, -1106, -3474, -4029, -2482, 360, 3014, 4096, 3040,
    398, -2452, -4022, -3494, -1143, 1805, 3811, 3828, 1848, -1096, -3469, -4031, -2490, 350, 3008, 4096, 3047, 408,
    -2444, -4020, -3499, -1152, 1796, 3807, 3832, 1857, -1087, -3464, -4033, -2498, 341, 3001, 4096, 3053, 417,
    -2436, -4019, -3504, -1161, 1788, 3804, 3835, 1865, -1078]

/-- row 3, 941 Hz: the sine coefficients for n = 0 to 79 (R65). -/
def rowSin3 : List Int :=
  [0, 2759, 4078, 3270, 755, -2154, -3939, -3668, -1484, 1475, 3664, 3941, 2162, -745, -3264, -4079, -2766, -10,
    2752, 4078, 3276, 764, -2146, -3936, -3673, -1493, 1466, 3660, 3944, 2170, -736, -3258, -4080, -2773, -19, 2745,
    4077, 3281, 774, -2137, -3933, -3677, -1502, 1457, 3655, 3947, 2178, -726, -3252, -4081, -2780, -29, 2738, 4076,
    3287, 783, -2129, -3931, -3681, -1511, 1448, 3651, 3949, 2187, -717, -3246, -4082, -2787, -39, 2730, 4075, 3293,
    793, -2121, -3928, -3685, -1520, 1439, 3647, 3952]

/-- column 0, 1209 Hz: the cosine coefficients for n = 0 to 79 (R65). -/
def columnCos0 : List Int :=
  [4096, 2384, -1321, -3921, -3244, 145, 3413, 3828, 1044, -2613, -4086, -2143, 1591, 3995, 3060, -433, -3564, -3716,
    -761, 2830, 4055, 1891, -1854, -4049, -2860, 720, 3698, 3585, 475, -3032, -4004, -1630, 2107, 4083, 2645, -1003,
    -3813, -3436, -187, 3219, 3933, 1360, -2350, -4096, -2418, 1281, 3909, 3270, -103, -3390, -3843, -1084, 2581,
    4089, 2178, -1553, -3986, -3087, 392, 3543, 3733, 802, -2799, -4061, -1928, 1816, 4043, 2889, -679, -3680, -3605,
    -517, 3003, 4013, 1668, -2071, -4079, -2677, 962, 3798]

/-- column 0, 1209 Hz: the sine coefficients for n = 0 to 79 (R65). -/
def columnSin0 : List Int :=
  [0, 3331, 3877, 1183, -2500, -4093, -2265, 1457, 3961, 3154, -289, -3491, -3774, -903, 2723, 4073, 2018, -1724,
    -4025, -2962, 577, 3633, 3652, 619, -2932, -4032, -1761, 1982, 4068, 2754, -862, -3758, -3512, -331, 3127, 3971,
    1496, -2230, -4092, -2533, 1143, 3864, 3355, 42, -3306, -3891, -1223, 2467, 4095, 2300, -1418, -3950, -3180, 248,
    3469, 3790, 944, -2692, -4077, -2054, 1686, 4017, 2990, -536, -3614, -3671, -660, 2903, 4039, 1799, -1945, -4063,
    -2785, 821, 3741, 3534, 373, -3100, -3981, -1535]

/-- column 1, 1336 Hz: the cosine coefficients for n = 0 to 79 (R65). -/
def columnCos1 : List Int :=
  [4096, 2041, -2063, -4096, -2018, 2085, 4096, 1996, -2107, -4095, -1973, 2129, 4095, 1951, -2151, -4094, -1928,
    2173, 4093, 1905, -2195, -4092, -1882, 2216, 4091, 1860, -2238, -4089, -1837, 2260, 4088, 1814, -2281, -4086,
    -1790, 2302, 4084, 1767, -2324, -4082, -1744, 2345, 4080, 1721, -2366, -4078, -1697, 2387, 4075, 1674, -2408,
    -4073, -1650, 2428, 4070, 1627, -2449, -4067, -1603, 2470, 4064, 1579, -2490, -4060, -1556, 2510, 4057, 1532,
    -2531, -4053, -1508, 2551, 4050, 1484, -2571, -4046, -1460, 2591, 4041, 1436]

/-- column 1, 1336 Hz: the sine coefficients for n = 0 to 79 (R65). -/
def columnSin1 : List Int :=
  [0, 3552, 3539, -26, -3564, -3526, 51, 3577, 3512, -77, -3589, -3499, 103, 3602, 3486, -129, -3614, -3472, 154,
    3626, 3458, -180, -3638, -3445, 206, 3650, 3431, -231, -3661, -3416, 257, 3673, 3402, -283, -3684, -3388, 309,
    3695, 3373, -334, -3706, -3359, 360, 3717, 3344, -385, -3728, -3329, 411, 3738, 3314, -437, -3749, -3299, 462,
    3759, 3283, -488, -3769, -3268, 513, 3779, 3252, -539, -3789, -3236, 564, 3799, 3221, -590, -3808, -3205, 615,
    3818, 3189, -641, -3827, -3172, 666, 3836]

/-- column 2, 1477 Hz: the cosine coefficients for n = 0 to 79 (R65). -/
def columnCos2 : List Int :=
  [4096, 1636, -2790, -3864, -296, 3627, 3193, -1078, -4053, -2159, 2329, 4019, 881, -3316, -3529, 497, 3926, 2638,
    -1819, -4091, -1448, 2935, 3792, 93, -3717, -3062, 1272, 4078, 1985, -2493, -3975, -682, 3431, 3422, -698, -3979,
    -2480, 1999, 4076, 1257, -3072, -3710, 109, 3798, 2923, -1463, -4092, -1805, 2650, 3921, 481, -3537, -3306, 897,
    4022, 2316, -2173, -4051, -1062, 3203, 3620, -312, -3869, -2778, 1650, 4096, 1621, -2802, -3858, -280, 3635,
    3183, -1093, -4056, -2146, 2342, 4016, 865, -3325, -3521]

/-- column 2, 1477 Hz: the sine coefficients for n = 0 to 79 (R65). -/
def columnSin2 : List Int :=
  [0, 3755, 2999, -1360, -4085, -1902, 2566, 3952, 590, -3481, -3370, 790, 4000, 2405, -2079, -4066, -1167, 3133,
    3670, -203, -3832, -2857, 1550, 4095, 1721, -2721, -3894, -389, 3583, 3250, -987, -4039, -2238, 2251, 4036, 972,
    -3260, -3575, 405, 3898, 2709, -1735, -4095, -1535, 2869, 3826, 187, -3677, -3123, 1183, 4068, 2066, -2418,
    -3997, -774, 3379, 3472, -606, -3956, -2553, 1917, 4084, 1345, -3010, -3749, 16, 3762, 2988, -1375, -4086, -1888,
    2579, 3947, 574, -3489, -3360, 805, 4004, 2392, -2093]

/-- column 3, 1633 Hz: the cosine coefficients for n = 0 to 79 (R65). -/
def columnCos3 : List Int :=
  [4096, 1164, -3434, -3117, 1662, 4062, 647, -3694, -2747, 2132, 3959, 119, -3892, -2331, 2566, 3790, -411, -4024,
    -1877, 2957, 3558, -934, -4089, -1390, 3299, 3266, -1442, -4086, -881, 3585, 2919, -1925, -4013, -357, 3811,
    2523, -2376, -3874, 174, 3973, 2085, -2787, -3670, 701, 4068, 1612, -3152, -3404, 1217, 4096, 1112, -3464, -3081,
    1712, 4054, 593, -3717, -2706, 2178, 3945, 64, -3908, -2286, 2608, 3769, -465, -4034, -1828, 2995, 3531, -987,
    -4092, -1339, 3331, 3233, -1493, -4081, -827, 3611, 2880]

/-- column 3, 1633 Hz: the sine coefficients for n = 0 to 79 (R65). -/
def columnSin3 : List Int :=
  [0, 3927, 2233, -2658, -3744, 529, 4045, 1770, -3038, -3497, 1050, 4094, 1278, -3368, -3193, 1553, 4075, 764,
    -3641, -2834, 2029, 3988, 238, -3853, -2428, 2472, 3834, -292, -4000, -1982, 2873, 3615, -818, -4080, -1502,
    3227, 3336, -1330, -4092, -997, 3526, 3001, -1819, -4036, -475, 3765, 2616, -2278, -3911, 55, 3942, 2187, -2699,
    -3721, 584, 4053, 1721, -3075, -3469, 1103, 4095, 1226, -3399, -3158, 1603, 4069, 711, -3665, -2795, 2077, 3975,
    183, -3871, -2384, 2516, 3814, -347, -4012, -1934, 2912]

/-- The cosine and sine coefficients of rows 0 to 3 (R65). -/
def rowBanks : List (List Int × List Int) :=
  [(rowCos0, rowSin0), (rowCos1, rowSin1), (rowCos2, rowSin2), (rowCos3, rowSin3)]

/-- The cosine and sine coefficients of columns 0 to 3 (R65). -/
def columnBanks : List (List Int × List Int) :=
  [(columnCos0, columnSin0), (columnCos1, columnSin1), (columnCos2, columnSin2), (columnCos3, columnSin3)]

/-- A coefficient list's correlation with a block (R65). -/
def correlate (coefficients samples : List Int) : Int := (List.zipWith (· * ·) samples coefficients).sum

/-- An energy held to 65535 (R65, R66). -/
def saturate (n : Nat) : Nat := min 65535 n

/-- The energy at one frequency: S_c² + S_s² divided by 2^38, rounded down and saturated (R65). -/
def toneEnergy (bank : List Int × List Int) (samples : List Int) : Nat :=
  saturate (((correlate bank.1 samples) ^ 2 + (correlate bank.2 samples) ^ 2).toNat / 2 ^ 38)

/-- The total energy of a block (R66). -/
def totalEnergy (samples : List Int) : Nat := saturate ((samples.map fun x => x ^ 2).sum.toNat * 5 / 2048)

/-- The energies of a block, after saturation: rows 0 to 3, columns 0 to 3 and the total. -/
structure Energies where
  rows : List Nat
  columns : List Nat
  total : Nat
deriving DecidableEq, Repr

/-- The energies formed at a block's completion (R65, R66). -/
def blockEnergies (samples : List Int) : Energies :=
  { rows := rowBanks.map fun b => toneEnergy b samples, columns := columnBanks.map fun b => toneEnergy b samples
    total := totalEnergy samples }

/-- The largest of four energies, and the lowest-numbered index that holds it (R67). -/
def strongest (es : List Nat) : Nat × Fin 4 :=
  let top := es.foldl max 0
  (top, ((List.finRange 4).find? fun i => es[i.val]? == some top).getD 0)

/-- Every other energy of the group is at most an eighth of the largest (R68, purity). -/
def isPure (es : List Nat) (best : Fin 4) (top : Nat) : Bool :=
  (List.finRange 4).all fun i => i == best || decide (top ≥ 8 * es.getD i.val 0)

/-- The verdict on a block that is not invalid: valid for a row and a column when level, purity, twist and share hold
(R67, R68). -/
def judge (e : Energies) : Option (Fin 4 × Fin 4) :=
  let row := strongest e.rows
  let col := strongest e.columns
  if row.1 ≥ 24 ∧ col.1 ≥ 24 ∧ isPure e.rows row.2 row.1 = true ∧ isPure e.columns col.2 col.1 = true ∧
      row.1 ≤ 6 * col.1 ∧ col.1 ≤ 3 * row.1 ∧ 4 * (row.1 + col.1) ≥ 3 * e.total then
    some (row.2, col.2)
  else none

/-- The digit code of a row and a column (R69). -/
def toneDigit (rc : Fin 4 × Fin 4) : Nat :=
  match rc.1.val, rc.2.val with
  | 0, 0 => 1 | 0, 1 => 2 | 0, 2 => 3 | 0, _ => 12
  | 1, 0 => 4 | 1, 1 => 5 | 1, 2 => 6 | 1, _ => 13
  | 2, 0 => 7 | 2, 1 => 8 | 2, 2 => 9 | 2, _ => 14
  | _, 0 => 10 | _, 1 => 0 | _, 2 => 11 | _, _ => 15

/-- A receiver at a block's completion: the state machine of R70 and R71, and the digit it reports if it reports one. -/
def receiverBlock (x : Receiver) (verdict : Option (Fin 4 × Fin 4)) : Receiver × Option Nat :=
  match x.state, verdict with
  | .idle, _ => (x, none)
  | .listen, some rc => ({ x with state := .candidate, candidate := some rc, run := 1 }, none)
  | .listen, none => (x, none)
  | .candidate, some rc =>
    if x.candidate == some rc then
      if x.run + 1 ≥ 4 then ({ x with state := .toneOn, run := 0 }, some (toneDigit rc))
      else ({ x with run := x.run + 1 }, none)
    else ({ x with candidate := some rc, run := 1 }, none)
  | .candidate, none => ({ x with state := .listen, candidate := none, run := 0 }, none)
  | .toneOn, v => if v.isSome && v == x.candidate then (x, none) else ({ x with state := .ending, run := 1 }, none)
  | .ending, v =>
    if v.isSome && v == x.candidate then ({ x with state := .toneOn, run := 0 }, none)
    else if x.run + 1 ≥ 3 then ({ x with state := .listen, candidate := none, run := 0 }, none)
    else ({ x with run := x.run + 1 }, none)

end Sys2Proof.Machine
end

