-- ==== Sys2Proof/Machine/TonePool.lean ====
section
/-! DEFINITION. The tone receiver pool (04_tone_receivers.md, sections 4.1 to 4.4 and 4.7): lending, the wait list, release
and reassignment, and the three commands of the tone path. -/

namespace Sys2Proof.Machine

/-- A sample taken now would make its block invalid: the pair is in BREAK or frozen (R64). -/
def PairRecord.spoilsAudio (r : PairRecord) : Bool := r.loop == .inBreak || r.freeze != .unfrozen

/-- A receiver just lent to a pair (R58, R62). -/
def Receiver.lentTo (p : Pair) (now : Nat) (spoiled : Bool) : Receiver :=
  { state := .listen, pair := some p, candidate := none, run := 0, assigned := some now, lastDigit := none
    spoiled := spoiled }

/-- The receiver record and the pair's receiver field are written in the same step (R56). -/
def State.lend (s : State) (r : ReceiverNo) (p : Pair) : State :=
  (s.modPair p fun x => { x with receiver := some r }).setReceiver r
    (Receiver.lentTo p s.now (s.pair p).spoilsAudio)

def State.onWaitList (s : State) (p : Pair) : Bool := s.waitList.any fun w => w.pair == p

/-- A request for a receiver (R58). -/
def State.requestReceiver (s : State) (p : Pair) : State :=
  if (s.pair p).receiver.isSome || s.onWaitList p then s
  else
    match (List.finRange 4).find? fun r => (s.receiver r).state == .idle with
    | some r => s.lend r p
    | none => { s with waitList := s.waitList ++ [{ pair := p, since := s.now }] }

/-- A release: the receiver goes to the head of the wait list, with RECEIVER_LATE, or becomes IDLE (R62). -/
def State.releaseReceiver (s : State) (r : ReceiverNo) : State :=
  let s := match (s.receiver r).pair with
    | some p => s.modPair p fun x => { x with receiver := none }
    | none => s
  match s.waitList with
  | [] => s.setReceiver r Receiver.idle
  | w :: rest =>
    ({ s with waitList := rest }.lend r w.pair).appendEvent w.pair .receiverLate (min 15 ((s.now - w.since) / 1000))

/-- A pair leaves the wait list, if it stands on it (R59). -/
def State.leaveWaitList (s : State) (p : Pair) : State :=
  { s with waitList := s.waitList.filter fun w => w.pair != p }

/-- A pair gives up its receiver (R60) or its place on the wait list (R59), by a message of the loop supervisor or a PARK.
The pair's record names the receiver exactly when the receiver names the pair (R56). At a PARK of a pair whose record is
disturbed but not yet found, the record's receiver field decides: DESIGN CHOICE, log entry 55. -/
def State.dropReceiver (s : State) (p : Pair) : State :=
  match (s.pair p).receiver with
  | some r => s.releaseReceiver r
  | none => s.leaveWaitList p

/-- The receiver whose own record names a pair (R56). -/
def State.servingReceiver (s : State) (p : Pair) : Option ReceiverNo :=
  (List.finRange 4).find? fun r => (s.receiver r).pair == some p

/-- The pool's part of an integrity reinitialisation (R7): the pair's place on the wait list is given up (R59), and the
receiver that serves it is released (R60). Both are found in the pool's own records, so what the failed pair record says of
a receiver plays no part. -/
def State.reclaimReceiver (s : State) (p : Pair) : State :=
  let s := s.leaveWaitList p
  match s.servingReceiver p with
  | some r => s.releaseReceiver r
  | none => s

/-- A message of the loop supervisor reaches the pool (section 3.9). -/
def State.poolMessage (s : State) (p : Pair) : PoolMessage → State
  | .silent => s
  | .request => s.requestReceiver p
  | .release => s.dropReceiver p

/-- After a turn of a pair that holds a receiver, the block being gathered is spoiled if the pair now stands in BREAK or
frozen (R64). -/
def State.noteAudio (s : State) (p : Pair) : State :=
  match (s.pair p).receiver with
  | none => s
  | some r =>
    let x := s.receiver r
    s.setReceiver r { x with spoiled := x.spoiled || (s.pair p).spoilsAudio }

/-- A receiver's report of a digit: the event, the last-digit time and the dialled flag in one step (R44, R72). -/
def State.reportDigit (s : State) (r : ReceiverNo) (p : Pair) (digit : Nat) : State :=
  let s := s.setReceiver r { s.receiver r with lastDigit := some s.now }
  let s := s.modPair p fun x => { x with dialled := true }
  s.appendEvent p .digitTone digit

/-- A block's completion at a lent receiver (R63 to R72). -/
def State.completeBlock (s : State) (r : ReceiverNo) (p : Pair) (samples : List Int) : State :=
  let x := s.receiver r
  let verdict := if x.spoiled || (s.pair p).spoilsAudio then none else judge (blockEnergies (samples.map audioSample))
  let y := receiverBlock x verdict
  let s := s.setReceiver r { y.1 with spoiled := (s.pair p).spoilsAudio }
  match y.2 with
  | none => s
  | some digit => s.reportDigit r p digit

/-- A receiver lent at this very moment: the block that completes with its assignment was gathered for the pair it was
released from (R61, R62; log entry 46). -/
def State.justLent (s : State) (r : ReceiverNo) : Bool :=
  match (s.receiver r).assigned with
  | some t => decide (s.now ≤ t)
  | none => false

/-- TONE_BLOCK_COMPLETE (R63). A receiver that is not lent completes no block, and the block of a pair just released is
discarded unjudged (R61). -/
def toneBlock (r : ReceiverNo) (samples : Vector Int 80) (s : State) : State :=
  if !s.running || s.justLent r then s
  else
    match (s.receiver r).pair with
    | none => s
    | some p => s.completeBlock r p samples.toList

/-- DIGIT_PAUSE_EXPIRY (R61): 5 s after the last digit. An expiry that meets a digit of the same moment is that of the
pause the digit ended, and the pause restarts (log entry 46). -/
def digitPause (r : ReceiverNo) (s : State) : State :=
  if !s.running then s
  else
    match (s.receiver r).lastDigit with
    | none => s
    | some t => if s.now ≤ t then s else (s.elapseTo (t + 5000)).releaseReceiver r

/-- NO_DIGIT_EXPIRY (R61): 20 s after the assignment with no digit reported. An expiry that meets an assignment of the
same moment is that of the receiver's service before it (log entry 46). -/
def noDigit (r : ReceiverNo) (s : State) : State :=
  if !s.running then s
  else
    match (s.receiver r).assigned, (s.receiver r).lastDigit with
    | some t, none => if s.now ≤ t then s else (s.elapseTo (t + 20000)).releaseReceiver r
    | _, _ => s

/-- The meaning of TONE_BLOCK_COMPLETE. -/
def execToneBlockComplete (r : ReceiverNo) (samples : Vector Int 80) (s : State) : Host.Outcome State Fault Refusal :=
  .next (toneBlock r samples s)

/-- The meaning of DIGIT_PAUSE_EXPIRY. -/
def execDigitPauseExpiry (r : ReceiverNo) (s : State) : Host.Outcome State Fault Refusal := .next (digitPause r s)

/-- The meaning of NO_DIGIT_EXPIRY. -/
def execNoDigitExpiry (r : ReceiverNo) (s : State) : Host.Outcome State Fault Refusal := .next (noDigit r s)

end Sys2Proof.Machine
end

