-- ==== Sys2Proof/Machine/Control.lean ====
section
/-! DEFINITION. Station control and the test unit's stop (08, 09 and 11): what opens the relays, entry into FAILED, the
integrity error time, the setting of every block at a reset, and the commands of the reset pin and the LISTEN_IN timer
that need nothing else. -/

namespace Sys2Proof.Machine

/-- The test unit's work ends: the source relay opens, the selector returns to none and a measurement in progress is
discarded (R154). -/
def TestUnit.stop (u : TestUnit) : TestUnit :=
  { u with source := false, selector := .none, measurement := none, readingDue := none }

def State.stopUnit (s : State) : State := { s with unit := s.unit.stop }

/-- The unit leaves the test bus: its work ends and its bus connection opens (R145, R146). -/
def State.disconnectUnit (s : State) : State := { s with unit := { s.unit.stop with connected := false } }

/-- Entry into FAILED, in one step (R177). The response cells driven until then are driven no longer (R110). R177 does not
name the LISTEN_IN timer, which stops: DESIGN CHOICE, log entry 44. What else it does not name keeps the value it had: the
claim logic's state (log entry 44) and the integrity error time (log entry 43). -/
def State.enterFailed (s : State) : State :=
  let s := s.endAccess.disconnectUnit
  { s with
    station := .failed, listenUntil := none
    queue := [], abandoned := false, cells := noCells
    entries := Vector.replicate 8 Entry.empty, keyStore := Vector.replicate 8 none
    slots := Vector.replicate 4 none
    bus := { s.bus with view := .free, lastAccepted := none } }

/-- An integrity error reported to station control: its time is recorded, or the station enters FAILED when the last
one recorded is less than 10 s old (R176), the time recorded then standing (log entry 43). -/
def State.reportIntegrity (s : State) : State :=
  match s.integrityAt with
  | none => { s with integrityAt := some s.now }
  | some t => if s.now - t < 10000 then s.enterFailed else { s with integrityAt := some s.now }

/-- Straps that cannot be used: station number 14 or 15, or pair-count code 3 (R172). -/
def strapsUnusable (straps : Straps) : Bool := decide (straps.station.toNat ≥ 14) || straps.pairCount == 3

/-- The service of every pair at a reset (R1, R174). -/
def resetService (straps : Straps) : Vector Service 24 :=
  Vector.ofFn fun p => if p.val < equippedCount straps.pairCount then .equipped else .absent

/-- Every block at the values of R174 on the given straps, in a station state; the commands that wait and the count of
free choices are the model's own and stand. -/
def State.initialise (s : State) (straps : Straps) (station : StationState) : State :=
  { station := station, now := 0
    listenUntil := if station == .listenIn then some 5000 else none
    straps := straps, integrityAt := none
    pairs := Vector.replicate 24 PairRecord.initial
    serviceA := resetService straps, serviceB := resetService straps
    receivers := Vector.replicate 4 Receiver.idle, waitList := []
    tags := Vector.replicate 32 none, tagPointer := 0
    entries := Vector.replicate 8 Entry.empty, keyStore := Vector.replicate 8 none
    bus := .initial, unit := .initial, slots := Vector.replicate 4 none
    queue := [], abandoned := false, cells := noCells, dueTest := false, choices := s.choices, pending := s.pending }

/-- A RESTART: the values of R174 with the straps of the last pin reset (R171, R174). -/
def State.restartStation (s : State) : State := s.initialise s.straps .listenIn

/-- RESET_PIN_ASSERT: the relays open, the line and the test bus are released, the frame on the bus is given up, and no
block runs until the pin is released (R110, R140, R154, R172). R172 does not name the LISTEN_IN timer, which stops: log
entry 32. -/
def pinAssert (s : State) : State :=
  let s := s.endAccess.disconnectUnit
  { s with
    station := .inReset, listenUntil := none, queue := [], abandoned := false, cells := noCells
    bus := { s.bus with view := .free, lastAccepted := none } }

/-- RESET_PIN_RELEASE: the straps are sampled once, and the station enters LISTEN_IN or STRAP_ERROR (R172 to R174). -/
def pinRelease (straps : Straps) (s : State) : State :=
  s.initialise straps (if strapsUnusable straps then .strapError else .listenIn)

/-- The meaning of RESET_PIN_ASSERT. -/
def execResetPinAssert (s : State) : Host.Outcome State Fault Refusal := .next (pinAssert s)

/-- The meaning of RESET_PIN_RELEASE. -/
def execResetPinRelease (straps : Straps) (s : State) : Host.Outcome State Fault Refusal := .next (pinRelease straps s)

end Sys2Proof.Machine
end

