-- ==== Sys2Proof/Machine/Integrators.lean ====
section
/-! DEFINITION. The fault integrator (05_fault_integration.md, sections 5.1 to 5.3), on one pair record: the integrators,
latching, the pair class and the fault state. What a step means for the pair's claim is in Claims.lean. -/

namespace Sys2Proof.Machine

/-- An integrator one up, holding at 15. -/
def riseOne (n : Nat) : Nat := min 15 (n + 1)

/-- The FEED_LOSS integrator at a weighed close (R76). -/
def feedLossStep (n : Nat) (i : IntervalRecord) : Nat := if i.dead ≥ 11 then riseOne n else n - 1

/-- The interval is foreign-voltage evidence (R77). -/
def foreignEvidence (i : IntervalRecord) : Bool :=
  decide (i.positive ≥ 11) || decide (i.clipped ≥ 1) || (decide (i.swingC > 40) && !i.ringing)

/-- The FOREIGN integrator at a weighed close (R77). -/
def foreignStep (n : Nat) (i : IntervalRecord) : Nat := if foreignEvidence i then riseOne n else n - 1

/-- The GROUND_LEAK integrator at a weighed close, by the first case of R78 that holds. -/
def groundLeakStep (n : Nat) (i : IntervalRecord) : Nat :=
  if i.ringing then n else if i.sag ≥ 11 then riseOne n else if i.opened < 11 then n else n - 1

/-- A class after its integrator has moved: latched at 12, unlatched at 0 (R79). -/
def latchStep (was : Bool) (n : Nat) : Bool := if was then n != 0 else decide (n ≥ 12)

/-- The latched set after the integrators have moved; PERMANENT_LOOP is left alone (R79). -/
def latchSet (l : LatchedSet) (feedLoss foreign groundLeak : Nat) : LatchedSet :=
  { feedLoss := latchStep l.feedLoss feedLoss, foreign := latchStep l.foreign foreign
    groundLeak := latchStep l.groundLeak groundLeak, permanentLoop := l.permanentLoop }

/-- The pair class: the highest-ranked member of the latched set (R80). -/
def pairClass (l : LatchedSet) : Option FaultClass :=
  if l.foreign then some .foreign else if l.feedLoss then some .feedLoss else if l.groundLeak then some .groundLeak
  else if l.permanentLoop then some .permanentLoop else none

/-- What one evaluation of the fault state asks of the claim logic (R81, R83): nothing; FAULTED entered with a class
(R87); the pair class of a FAULTED pair changed (R88); CLEAR reached (R89). -/
inductive FaultStep where
  | quiet | entered (cls : FaultClass) | turned (cls : FaultClass) | cleared
deriving DecidableEq, Repr

/-- The event that a step appends, with its value (R81, R83). -/
def faultEvent : FaultStep → Option (EventType × Nat)
  | .quiet => none
  | .entered cls => some (.fault, classCode cls)
  | .turned cls => some (.fault, classCode cls)
  | .cleared => some (.faultClear, 0)

/-- One evaluation of the fault state on the pair class before and after a change of the latched set; `weighed` says
that it is made at a weighed close, which alone counts recovery (R81 to R83). -/
def evaluateFault (r : PairRecord) (before after : Option FaultClass) (weighed : Bool) : PairRecord × FaultStep :=
  match r.fault, after with
  | .clear, some k => ({ r with fault := .faulted }, .entered k)
  | .clear, none => (r, .quiet)
  | .faulted, some k => if before == some k then (r, .quiet) else (r, .turned k)
  | .faulted, none => ({ r with fault := .recovering, recovery := 0 }, .quiet)
  | .recovering, some k => ({ r with fault := .faulted, recovery := 0 }, .entered k)
  | .recovering, none =>
    if !weighed then (r, .quiet)
    else if r.recovery + 1 ≥ 20 then ({ r with fault := .clear, recovery := 0 }, .cleared)
    else ({ r with recovery := r.recovery + 1 }, .quiet)

/-- The fault integrator at an interval close (R75 to R83) with the learning of R32; the event of the step is not yet
appended. -/
def integrateClose (r : PairRecord) (i : IntervalRecord) : PairRecord × FaultStep :=
  if i.freeze == .access then (r, .quiet)
  else
    let feedLoss := feedLossStep r.feedLoss i
    let foreign := foreignStep r.foreign i
    let groundLeak := groundLeakStep r.groundLeak i
    let latched := latchSet r.latched feedLoss foreign groundLeak
    let dref16 := learn r.dref16 groundLeak i
    evaluateFault
      { r with feedLoss := feedLoss, foreign := foreign, groundLeak := groundLeak, latched := latched, dref16 := dref16 }
      (pairClass r.latched) (pairClass latched) true

/-- Appends the two events of one close, of which either may be absent; where both stand, `loopFirst` says which takes
the tail first (R9, R30, R75). -/
def appendClose (now : Nat) (loopFirst : Bool) (r : PairRecord) (ringing : Option EventType)
    (fault : Option (EventType × Nat)) : PairRecord :=
  match ringing, fault with
  | none, none => r
  | some t, none => r.append now t 0
  | none, some f => r.append now f.1 f.2
  | some t, some f =>
    if loopFirst then (r.append now t 0).append now f.1 f.2 else (r.append now f.1 f.2).append now t 0

end Sys2Proof.Machine
end

