-- ==== Sys2Proof/Machine/Claims.lean ====
section
/-! DEFINITION. Claim tags and the claimant's own moves that need no incident entry (05, section 5.4 and 5.5): allocating
and retiring a tag, a claim that becomes PENDING, a hold-off, and the withdrawal of a FAULT CLAIM item. -/

namespace Sys2Proof.Machine

/-- The tag a pair holds, with the class it is held for (R84). -/
def State.tagOf (s : State) (p : Pair) : Option (Tag × FaultClass) :=
  (List.finRange 32).findSome? fun t =>
    match s.tags.get t with
    | some h => if h.pair == p then some (t, h.cls) else none
    | none => none

/-- The tag a pair holds becomes free (R84). -/
def State.retireTag (s : State) (p : Pair) : State :=
  { s with tags := s.tags.map fun h => if (h.map TagHolder.pair) == some p then none else h }

/-- The first free tag from the pointer upward, wrapping from 31 to 0 (R84); one is always free (log entry 31). -/
def State.freeTag (s : State) : Tag :=
  (((List.finRange 32).map fun i => s.tagPointer + i).find? fun t => (s.tags.get t).isNone).getD s.tagPointer

/-- A tag allocated to a pair and class, the pointer left at the tag after it (R84). -/
def State.allocateTag (s : State) (p : Pair) (cls : FaultClass) : State :=
  let t := s.freeTag
  { s with tags := s.tags.set t.val (some { pair := p, cls := cls }) t.isLt, tagPointer := t + 1 }

/-- The claim state with its timer, which runs out at a station time or is stopped (R1). -/
def State.setClaim (s : State) (p : Pair) (c : ClaimState) (timer : Option Nat) : State :=
  s.modPair p fun r => { r with claim := c, claimTimer := timer }

/-- HELD_OFF with the hold-off timer at 60 s. -/
def State.holdOff (s : State) (p : Pair) : State := s.setClaim p .heldOff (some (s.now + 60000))

/-- A FAULT CLAIM item whose claim has been made anew or turned: it keeps its place, eligible at once, its withdrawn
mark cleared, and a frame already in contention is superseded (R85, R88, R91). -/
def renewedItem (x : Item) : Item :=
  { x with attempts := 0, round := 0, withdrawn := false, superseded := x.superseded || x.content.isSome }

/-- A claim under a key this station does not own: PENDING with a new tag and one FAULT CLAIM item (R85). -/
def State.claimPending (s : State) (p : Pair) (cls : FaultClass) : State :=
  let s := (s.allocateTag p cls).setClaim p .pending none
  if s.hasItem (.faultClaim p) then s.updateItem (.faultClaim p) renewedItem else s.place (.faultClaim p)

/-- The pair's FAULT CLAIM item is withdrawn and the tag it carries retired (R89, R108). -/
def State.withdrawClaim (s : State) (p : Pair) : State :=
  (s.withdraw (.faultClaim p) markSuperseded).retireTag p

end Sys2Proof.Machine
end

