-- ==== Sys2Proof/Machine/Incidents.lean ====
section
/-! DEFINITION. The incident table (07_incidents_and_the_claim_protocol.md): joins, deferrals and leaves at the owner,
clearing, closing, a lost entry, becoming owner, the answer to the defer list, and confirmation becoming due. -/

namespace Sys2Proof.Machine

/-! ### One entry -/

/-- The member of a station and pair. -/
def Member.isOf (st : StationNo) (pr : PairNo) (m : Member) : Bool := m.station == st && m.pair == pr

def Defer.isOf (st : StationNo) (pr : PairNo) (d : Defer) : Bool := d.station == st && d.pair == pr

def Entry.lists (x : Entry) (st : StationNo) (pr : PairNo) : Bool := x.members.any (Member.isOf st pr)

/-- A claim or join taken by an OPEN, CONFIRMED or CLEARING entry (R117). -/
def Entry.join (x : Entry) (now : Nat) (st : StationNo) (pr : PairNo) (renew : Bool) : Entry :=
  let y :=
    if x.lists st pr then
      { x with members := x.members.map fun m => if Member.isOf st pr m then { m with renewed := now } else m }
    else if x.members.length < 32 then
      { x with
        members := x.members ++ [{ station := st, pair := pr, renewed := now, leaving := false }]
        overflow := if renew then x.overflow - 1 else x.overflow
        emptyTimer := none }
    else { x with overflow := if renew then x.overflow else min 255 (x.overflow + 1) }
  match y.state with
  | .clearing =>
    { y with state := if y.revivesConfirmed then .confirmed else .opened, clearHold := none, changed := true }
  | _ => { y with changed := true }

/-- What a CONFIRMING entry answers a claim (R118). -/
inductive DeferAnswer where
  | listed | deferred | stalled
deriving DecidableEq, Repr

/-- A claim taken by a CONFIRMING entry (R118). -/
def Entry.deferClaim (x : Entry) (now : Nat) (st : StationNo) (pr : PairNo) (tag : BitVec 5) (renew : Bool) :
    Entry × DeferAnswer :=
  if x.lists st pr then
    ({ x with
        members := x.members.map fun m => if Member.isOf st pr m then { m with renewed := now, leaving := false } else m
        changed := true }, .listed)
  else if x.defers.any (Defer.isOf st pr) then
    ({ x with defers := x.defers.map fun d => if Defer.isOf st pr d then { d with tag := tag, renew := renew } else d },
      .deferred)
  else if x.defers.length < 8 then
    ({ x with
        defers := x.defers ++ [{ station := st, tag := tag, pair := pr, renew := renew, underAnswer := false }] },
      .deferred)
  else (x, .stalled)

/-- A LEAVE taken by an entry; the changed flag is set where the entry changes (R119). -/
def Entry.leave (x : Entry) (now : Nat) (st : StationNo) (pr : PairNo) : Entry :=
  if x.lists st pr then
    if x.state == .confirming then
      let marked := x.members.map fun m => if Member.isOf st pr m then { m with leaving := true } else m
      { x with members := marked, changed := x.changed || marked != x.members }
    else
      let rest := x.members.filter fun m => !Member.isOf st pr m
      { x with members := rest, changed := true
               emptyTimer := if rest.isEmpty then some (now + 150000) else x.emptyTimer }
  else if x.overflow > 0 then { x with overflow := x.overflow - 1, changed := true }
  else x

/-- An OPEN or CONFIRMED entry with no member and no overflow goes to CLEARING (R121). -/
def Entry.clearIfEmpty (x : Entry) (now : Nat) : Entry :=
  if (x.state == .opened || x.state == .confirmed) && x.members.isEmpty && x.overflow == 0 then
    { x with state := .clearing, revivesConfirmed := x.state == .confirmed, changed := true
             clearHold := some (now + 10000) }
  else x

/-- A FREE entry keeps its key until its closing report and its defer entries are gone (R112). -/
def Entry.releaseKey (x : Entry) : Entry :=
  if x.state == .free && x.closing.isNone && x.defers.isEmpty then { x with key := none } else x

/-- A write to an entry that calls for a test of R122: a member has joined, or a defer entry has left its answer (log
entry 20). -/
def Entry.callsTest (x y : Entry) : Bool :=
  decide (x.members.length < y.members.length) ||
    decide ((y.defers.filter Defer.underAnswer).length < (x.defers.filter Defer.underAnswer).length)

/-! ### The table -/

/-- A test of R122 is called for: it is made when what happens in this step has happened (log entry 20). -/
def State.callTest (s : State) : State := { s with dueTest := true }

/-- A write to an entry: taken whole, its check recomputed, its key written to the key store with it (R111), an INCIDENT
item placed when its changed flag is set and it has none (R128), and a test of R122 called for where it lets in a member
or lets go of a defer entry under answer. -/
def State.writeEntry (s : State) (e : EntryNo) (x : Entry) : State :=
  let s := { s with entries := s.entries.set e.val { x with check := true } e.isLt
                    keyStore := s.keyStore.set e.val x.key e.isLt
                    dueTest := s.dueTest || (s.entry e).callsTest x }
  if x.changed then s.place (.incident e) else s

/-- This station owns a key when an entry holds it in a state other than FREE (R112). The key compared is the entry's own,
whether its check matches or not (log entry 42). -/
def State.ownedEntry (s : State) (k : Key) : Option EntryNo :=
  allEntries.find? fun e => (s.entry e).state != .free && (s.entry e).key == some k

/-- The entry that holds a key in any state, FREE included: the one a QUERY INCIDENT or a CLEAR INCIDENT reads (R166,
R170; log entry 42). -/
def State.entryHolding (s : State) (k : Key) : Option EntryNo :=
  match s.ownedEntry k with
  | some e => some e
  | none => allEntries.find? fun e => (s.entry e).key == some k

/-- A claim of a pair taken by an entry that is not CONFIRMING, whatever its station (R117). -/
def State.joinEntry (s : State) (e : EntryNo) (st : StationNo) (pr : PairNo) (renew : Bool) : State :=
  s.writeEntry e ((s.entry e).join s.now st pr renew)

/-- A leave taken by an entry, and the clearing it may lead to (R119, R121). -/
def State.leaveEntry (s : State) (e : EntryNo) (st : StationNo) (pr : PairNo) : State :=
  let x := (s.entry e).leave s.now st pr
  if x == s.entry e then s else s.writeEntry e (x.clearIfEmpty s.now)

/-- A member that has expired: removed or marked as by a LEAVE, the changed flag set (R120, R121). -/
def State.expireEntry (s : State) (e : EntryNo) (st : StationNo) (pr : PairNo) : State :=
  s.writeEntry e (({ (s.entry e).leave s.now st pr with changed := true } : Entry).clearIfEmpty s.now)

/-- A pair of this station joins an entry that is not CONFIRMING: LINKED with the owned-here flag set, its claim timer
stopped (R85, R117). -/
def State.joinOwn (s : State) (e : EntryNo) (p : Pair) (cls : FaultClass) : State :=
  (s.joinEntry e s.straps.station (pairNo p) false).setClaim p (.linked cls true) none

/-- The controller's run, if it stands for an entry: none where it stands for another (R132). -/
def State.runOf (s : State) (e : EntryNo) : Option Run := s.bus.run.filter fun run => run.entry == e

/-- The end of a confirmation, whatever its result: no run stands, its counts return to 0, and a test of R122 is called
for (R122, R142, R144). -/
def State.clearRun (s : State) : State :=
  { s with dueTest := true, bus := { s.bus with run := none, tested := 0, faulted := 0, position := 0 } }

/-- A local access ends with the holder's work: the pair in access was accessed by this station itself (R144). -/
def State.endLocalAccess (s : State) : State :=
  match s.bus.access with
  | some a => if a.holder == s.straps.station then s.endAccess else s
  | none => s

/-- A QUIET item of an abandoned run is withdrawn (R113, R144; log entry 14). -/
def State.withdrawQuiet (s : State) : State :=
  match s.item .testBus with
  | some x => match x.kind with
    | .quiet _ _ _ => s.withdraw .testBus markWithdrawn
    | _ => s
  | none => s

/-- The confirmation run of an entry that is closed or lost is abandoned: its measurement and a local access end, and an
UNLOCK becomes due once a pair in access elsewhere has been released (R113, R131, R144). Whether one is in progress is
read from the controller's run, not from the entry, and another entry's run goes on (log entry 50). A run that was only
waiting on a lock already held ends with an UNLOCK too, so that a waiting uplink test gets a new lock; one that waited
for its lock is dropped (log entry 17). -/
def State.abandonRun (s : State) (e : EntryNo) : State :=
  match s.runOf e with
  | none => s
  | some run =>
    match run.deadline with
    | some _ =>
      let s := s.clearRun
      { s with bus := { s.bus with unlockDue := s.bus.unlockDue || s.bus.view == .mine } }
    | none =>
      let s := s.clearRun.endLocalAccess.withdrawQuiet
      { s with unit := s.unit.stop, bus := { s.bus with unlockDue := true } }

/-- The fate of one defer entry when its entry leaves CONFIRMING (R125). -/
def State.answerDefer (e : EntryNo) (s : State) (d : Defer) : State :=
  if d.underAnswer then s
  else if d.station != s.straps.station then
    let x := s.entry e
    (s.writeEntry e
      { x with defers := x.defers.map fun y => if Defer.isOf d.station d.pair y then { y with underAnswer := true } else y }).place
      (.deferredReply e d.station d.pair)
  else
    let x := s.entry e
    let s := s.writeEntry e { x with defers := x.defers.filter fun y => !Defer.isOf d.station d.pair y }
    match toPair d.pair with
    | none => s
    | some p =>
      if (s.pair p).claim == .deferred d.tag.toFin then
        let s := s.retireTag p
        match (s.entry e).state, (s.entry e).key with
        | .free, _ => s.holdOff p
        | _, some k => s.joinOwn e p k.cls
        | _, none => s.holdOff p
      else s

/-- The defer list is answered in list order (R125). -/
def State.answerDefers (s : State) (e : EntryNo) : State := (s.entry e).defers.foldl (State.answerDefer e) s

/-- A pair of this station whose link to a key ends with the incident (R113). -/
def State.unlinkOwn (k : Key) (forced : Bool) (s : State) (p : Pair) : State :=
  if (s.pair p).claim == .linked k.cls true && s.pairKey p k.cls == k then
    if forced then s.holdOff p else s.claimPending p k.cls
  else s

/-- An entry as it stands closed with a report verdict and a forced flag (R113). -/
def Entry.closed (x : Entry) (v : Verdict) (forced : Bool) : Entry :=
  { x with state := .free, revivesConfirmed := false, verdict := .unjudged, members := [], overflow := 0
           emptyTimer := none, retryTimer := none, clearHold := none, changed := true
           closing := some { verdict := v, forced := forced } }

/-- Closing an entry (R113): the report, the run abandoned, the own pairs' links ended in ascending pair order, and the
defer entries not under answer answered DISSOLVED. -/
def State.closeEntry (s : State) (e : EntryNo) (v : Verdict) (forced : Bool) : State :=
  let x := s.entry e
  let s := s.writeEntry e (x.closed v forced)
  let s := s.abandonRun e
  let s := match x.key with
    | some k => allPairs.foldl (State.unlinkOwn k forced) s
    | none => s
  s.answerDefers e

/-- An item that carries a DEFERRED REPLY of an entry. -/
def Item.repliesFor (e : EntryNo) (x : Item) : Bool :=
  match x.kind with
  | .deferredReply i _ _ => i == e
  | _ => false

/-- Every DEFERRED REPLY item of an entry in the queue is withdrawn, whatever the failed entry's own list says: at once,
or by its mark where its frame is out (R108, R131). -/
def State.withdrawReplies (s : State) (e : EntryNo) : State :=
  { s with queue := (s.queue.filter fun x => !(x.repliesFor e && x.content.isNone)).map fun x =>
      if x.repliesFor e then markWithdrawn x else x }

/-- An entry lost as a FREE one: a closing report it held is replaced by one with verdict LOST, under the key of the key
store (R131). Where the key store holds no key there is none to report under, and the entry is plain FREE: DESIGN CHOICE,
log entry 61. -/
def Entry.lostFree (x : Entry) (key : Option Key) : Entry :=
  match x.closing, key with
  | some _, some k =>
    { Entry.empty with key := some k, changed := true, closing := some { verdict := .lost, forced := false } }
  | _, _ => Entry.empty

/-- An entry is lost as a FREE one. R131 does not say what becomes of an INCIDENT item that stands for it where no closing
report remains, and so nothing to report: DESIGN CHOICE, the item is withdrawn (log entries 59 and 61). -/
def State.loseFree (s : State) (e : EntryNo) (x : Entry) (key : Option Key) : State :=
  let y := x.lostFree key
  let s := (s.writeEntry e y).abandonRun e
  if y.closing.isNone then s.withdraw (.incident e) markWithdrawn else s

/-- An entry whose check fails is lost, its run abandoned, and the error reported to station control (R131, R144). Whether
it was FREE, and whether it held a closing report, is read from the entry as it stands (log entry 42). R131 takes the key from
the key store and does not say what is reported where that holds none, as for a plain FREE entry whose disturbed state
reads not FREE: DESIGN CHOICE, nothing is, and the entry is lost as a FREE one (log entry 61). -/
def State.loseEntry (s : State) (e : EntryNo) : State :=
  let x := s.entry e
  let key := s.keyStore.get e
  let s := s.withdrawReplies e
  let s :=
    if x.state == .free || key.isNone then s.loseFree e x key
    else (s.writeEntry e { x with key := key, defers := [] }).closeEntry e .lost false
  s.reportIntegrity

/-- Reading an entry to act on it tests its check (R131). -/
def State.readEntry (s : State) (e : EntryNo) : State := if (s.entry e).check then s else s.loseEntry e

/-! ### Claims of this station's own pairs -/

/-- A local join by the state of the entry: at once, or DEFERRED while the entry is CONFIRMING and does not list the
pair (R85, R118). -/
def State.localJoin (s : State) (e : EntryNo) (p : Pair) (cls : FaultClass) : State :=
  let x := s.entry e
  if x.state != .confirming then s.joinOwn e p cls
  else if x.lists s.straps.station (pairNo p) then
    (s.writeEntry e (x.deferClaim s.now s.straps.station (pairNo p) 0 false).1).setClaim p (.linked cls true) none
  else
    let t := s.freeTag
    let s := (s.allocateTag p cls).setClaim p (.deferred t) (some (s.now + 10000))
    match x.deferClaim s.now s.straps.station (pairNo p) (BitVec.ofFin t) false with
    | (y, .deferred) => s.writeEntry e y
    | (_, _) => s

/-- A claim made for a pair in a class (R85): a local join where this station owns the key, else PENDING. An entry found
lost by it is lost first, so the pairs that claim anew with its closing take their tags before this pair, even where this
pair is the lower (R84, R113, R131): DESIGN CHOICE, log entry 56. -/
def State.claimMake (s : State) (p : Pair) (cls : FaultClass) : State :=
  match s.ownedEntry (s.pairKey p cls) with
  | none => s.claimPending p cls
  | some e =>
    let s := s.readEntry e
    if !s.running then s
    else if (s.entry e).state == .free then s.claimPending p cls
    else s.localJoin e p cls

/-- A pair of this station leaves an incident owned here (R86, R119). -/
def State.localLeave (s : State) (k : Key) (p : Pair) : State :=
  match s.ownedEntry k with
  | none => s
  | some e =>
    let s := s.readEntry e
    if s.running && (s.entry e).state != .free then s.leaveEntry e s.straps.station (pairNo p) else s

/-- A LINKED pair leaves its incident, locally or by a LEAVE item; its claim state becomes NONE (R86). The claim state is
written first, so that an entry found lost in the leave does not claim again for the pair that is leaving. -/
def State.leaveIncident (s : State) (p : Pair) (cls : FaultClass) (ownedHere : Bool) : State :=
  let k := s.pairKey p cls
  let s := s.setClaim p .unclaimed none
  if ownedHere then s.localLeave k p
  else (s.withdrawClaim p).place (.leave p k)

/-- A pair's standing with incidents ends, as on reaching CLEAR (R89) and at a PARK (R168). -/
def State.endStanding (s : State) (p : Pair) : State :=
  match (s.pair p).claim with
  | .unclaimed => s
  | .pending => (s.withdrawClaim p).setClaim p .unclaimed none
  | .deferred _ => (s.retireTag p).setClaim p .unclaimed none
  | .linked cls owned => s.leaveIncident p cls owned
  | .heldOff => s.setClaim p .unclaimed none

/-- A PENDING claim is turned to another class (R88): the tag is retired, and the pair joins locally or the item stays
in its place with a new tag. Where the entry is found lost, the pairs that claim anew with its closing come first: DESIGN
CHOICE, log entry 56. -/
def State.turnClaim (s : State) (p : Pair) (cls : FaultClass) : State :=
  match s.ownedEntry (s.pairKey p cls) with
  | none => (s.retireTag p).claimPending p cls
  | some e =>
    let s := s.readEntry e
    if !s.running then s
    else if (s.entry e).state == .free then (s.retireTag p).claimPending p cls
    else (s.withdrawClaim p).localJoin e p cls

/-- What a FAULTED pair with a new pair class does with its claim (R87, R88). -/
def State.claimFor (s : State) (p : Pair) (cls : FaultClass) : State :=
  match (s.pair p).claim with
  | .unclaimed => s.claimMake p cls
  | .pending => if (s.tagOf p).map Prod.snd == some cls then s else s.turnClaim p cls
  | .deferred _ => if (s.tagOf p).map Prod.snd == some cls then s else (s.retireTag p).claimMake p cls
  | .linked k owned =>
    if k == cls then s
    else
      let s := s.leaveIncident p k owned
      if s.running then s.claimMake p cls else s
  | .heldOff => s

/-- The claim logic's part of one step of the fault state (R87 to R89). -/
def State.faultConsequence (s : State) (p : Pair) : FaultStep → State
  | .quiet => s
  | .entered cls => s.claimFor p cls
  | .turned cls => s.claimFor p cls
  | .cleared => s.endStanding p

/-! ### Becoming owner (R112, R115) -/

/-- The entry taken for a key: the FREE entry that still holds it, else the lowest-numbered FREE entry that holds neither
a closing report nor defer entries (R112). -/
def State.entryToTake (s : State) (k : Key) : Option EntryNo :=
  match allEntries.find? fun e => (s.entry e).state == .free && (s.entry e).key == some k with
  | some e => some e
  | none => allEntries.find? fun e => (s.entry e).state == .free && (s.entry e).key.isNone

/-- The entry as it stands when this station becomes owner with a pair as its first member (R115). -/
def Entry.taken (x : Entry) (k : Key) (now : Nat) (st : StationNo) (pr : PairNo) : Entry :=
  { Entry.empty with
    key := some k, state := .opened
    members := [{ station := st, pair := pr, renewed := now, leaving := false }]
    defers := x.defers, changed := true }

/-- Another pair of this station PENDING for the key joins locally (R115). -/
def State.gatherPending (e : EntryNo) (k : Key) (first : Pair) (s : State) (p : Pair) : State :=
  if p != first && (s.pair p).claim == .pending && (s.tagOf p).map Prod.snd == some k.cls && s.pairKey p k.cls == k then
    (s.withdrawClaim p).joinOwn e p k.cls
  else s

/-- Another pair of this station LINKED to the key elsewhere is taken over (R115). -/
def State.gatherLinked (e : EntryNo) (k : Key) (first : Pair) (s : State) (p : Pair) : State :=
  if p != first && (s.pair p).claim == .linked k.cls false && s.pairKey p k.cls == k then
    (s.withdrawClaim p).joinOwn e p k.cls
  else s

/-- The entry found for a key has its check tested before it is taken (R112, R131; log entry 50). -/
def State.readToTake (s : State) (k : Key) : State :=
  match s.entryToTake k with
  | none => s
  | some e => s.readEntry e

/-- This station becomes owner of a key by the claim of a pair that no station answered (R115). Where the entry found is
lost, one is looked for once more; a second loss is the second integrity error within 10 s, and the station is FAILED
(R131, R176). An entry to take always exists (R112); where a state that no run reaches has none, the claim stands and
contends again (log entry 31). -/
def State.becomeOwner (s : State) (k : Key) (p : Pair) : State :=
  let s := (s.readToTake k).readToTake k
  if !s.running then s
  else
    match s.entryToTake k with
    | none => s.place (.faultClaim p)
    | some e =>
      let s := s.writeEntry e ((s.entry e).taken k s.now s.straps.station (pairNo p))
      let s := (s.retireTag p).setClaim p (.linked k.cls true) none
      let s := allPairs.foldl (State.gatherPending e k p) s
      allPairs.foldl (State.gatherLinked e k p) s

/-! ### Confirmation becomes due (R122, R123) -/

/-- Whether the verdict lets an OPEN entry be tested (R122). -/
def Entry.verdictDue (x : Entry) (unitFailed : Bool) : Bool :=
  match x.verdict with
  | .unjudged => true
  | .untested => x.retryTimer.isNone && !unitFailed
  | .partly => decide (x.members.length ≥ x.membersAtAttempt + 2)
  | .confirmed => false
  | .notFound => false
  | .lost => false

/-- The entry is due for confirmation (R122). -/
def State.due (s : State) (e : EntryNo) : Bool :=
  let x := s.entry e
  s.station == .active && x.state == .opened && decide (x.members.length ≥ 3) && x.verdictDue s.unit.failed &&
    (allEntries.all fun i => (s.entry i).state != .confirming && (s.entry i).defers.all fun d => !d.underAnswer)

/-- Confirmation begins (R123). -/
def State.beginConfirmation (s : State) (e : EntryNo) : State :=
  let x := { s.entry e with membersAtAttempt := (s.entry e).members.length, changed := true }
  match x.key with
  | none => s
  | some k =>
    if k.cls == .feedLoss then s.writeEntry e { x with state := .confirmed, verdict := .confirmed }
    else if s.unit.failed then s.writeEntry e { x with verdict := .untested, retryTimer := none }
    else
      let s := s.writeEntry e { x with state := .confirming }
      { s with bus := { s.bus with run := some { entry := e, key := k, deadline := some (s.now + 30000) }
                                   tested := 0, faulted := 0, position := 0 } }

/-- A test of R122, in ACTIVE, where one is called for: at a join, at the end of a confirmation, at the expiry of the
retry timer, and when a defer entry has left its answer. It reads every entry, so an entry whose check fails is lost
first (R131, log entry 20); then the confirmation of an entry that is due begins, and among several due together a free
choice (log entry 9); where none is due the test is over. -/
def State.dueStep (s : State) : Option State :=
  if s.station != .active || !s.dueTest then none
  else
    match allEntries.find? fun e => !(s.entry e).check with
    | some e => some (s.loseEntry e)
    | none =>
      match allEntries.filter s.due with
      | [] => some { s with dueTest := false }
      | [e] => some (s.beginConfirmation e)
      | e :: es =>
        let pick := (e :: es).getD (Config.duePick s.choices % (e :: es).length) e
        some (({ s with choices := s.choices + 1 } : State).beginConfirmation pick)

end Sys2Proof.Machine
end

