-- ==== Sys2Proof/Machine/Controller.lean ====
section
/-! DEFINITION. The test bus controller at work (08_test_bus_sharing.md): how a confirmation run concludes, how an uplink
test ends, what testing a pair needs, what the loss of the lock does, and `settle`, which carries out whatever the
controller and the incident table do next of their own accord. -/

namespace Sys2Proof.Machine

/-! ### How jobs end -/

/-- The result a confirmation run hands its entry (R124). -/
inductive RunResult where
  | counts (tested faulted : Nat) | noLock | unitFailed
deriving DecidableEq, Repr

/-- The verdict of a result (R124). -/
def verdictOf : RunResult → Verdict
  | .counts tested faulted =>
    if faulted ≥ 2 ∨ (faulted = 1 ∧ tested = 1) then .confirmed
    else if faulted = 1 then .partly
    else if tested ≥ 1 then .notFound
    else .untested
  | .noLock => .untested
  | .unitFailed => .untested

/-- The entry as it stands when it survives its confirmation (R124). -/
def Entry.concluded (x : Entry) (now : Nat) (result : RunResult) : Entry :=
  let rest := x.members.filter fun m => !m.leaving
  { x with
    verdict := verdictOf result
    state := if verdictOf result == .confirmed then .confirmed else .opened
    members := rest
    emptyTimer := if rest.isEmpty then some (now + 150000) else x.emptyTimer
    retryTimer := if verdictOf result == .untested && result != .unitFailed then some (now + 60000) else none
    changed := true }

/-- A confirmation run ends with a result, and its entry concludes in one step: the verdict, the leaving members, the
defer list and the clearing condition (R124, R125, R142). The entry's check is tested first; one that is lost takes no
result (R131; log entry 50). -/
def State.concludeRun (s : State) (result : RunResult) : State :=
  match s.bus.run with
  | none => s
  | some run =>
    let e := run.entry
    let s := s.clearRun.readEntry e
    if (s.entry e).state != .confirming then s
    else if verdictOf result == .notFound then s.closeEntry e .notFound true
    else
      let s := (s.writeEntry e ((s.entry e).concluded s.now result)).answerDefers e
      let x := s.entry e
      if x.clearIfEmpty s.now == x then s else s.writeEntry e (x.clearIfEmpty s.now)

/-- An uplink test ends: the outcome, and the legs for DONE, are stored in the slot, and a TEST RESULT item is placed
(R143, R158). -/
def State.endTest (s : State) (outcome : TestOutcome) (legs : List LegRecord) : State :=
  match s.bus.test with
  | none => s
  | some t =>
    let s := { s with bus := { s.bus with test := some { t with phase := .ended outcome legs } } }
    s.place .testResult

/-! ### Whether a job waits or runs -/

def runWaiting (b : TestBus) : Bool :=
  match b.run with
  | some r => r.deadline.isSome
  | none => false

def runRunning (b : TestBus) : Bool :=
  match b.run with
  | some r => r.deadline.isNone
  | none => false

def testWaiting (b : TestBus) : Bool :=
  match b.test with
  | some t => match t.phase with
    | .waiting _ => true
    | .running => false
    | .ended _ _ => false
  | none => false

def testRunning (b : TestBus) : Bool :=
  match b.test with
  | some t => t.phase == .running
  | none => false

def jobWaiting (b : TestBus) : Bool := runWaiting b || testWaiting b

def jobRunning (b : TestBus) : Bool := runRunning b || testRunning b

/-! ### Access and measurement -/

/-- The conditions of R138 that make a pair of this station answer STALL, the claim-state test of a confirmation
apart. -/
def State.untestable (s : State) (p : Pair) : Bool :=
  let r := s.pair p
  r.loop == .seizePending || r.loop == .offHook || r.loop == .inBreak || r.receiver.isSome || r.freeze != .unfrozen ||
    s.bus.access.isSome

/-- A measurement begins with the TIP off reading, only while the view is MINE and calibration passed is set (R149,
R150). -/
def State.beginMeasurement (s : State) (station : StationNo) (pair : PairNo) (forRun : Bool) : State :=
  if s.bus.view == .mine && s.unit.calibrationPassed then
    { s with unit := { s.unit with
        measurement := some { station := station, pair := pair, forRun := forRun, leg := .tip, vOff := none, records := [] }
        selector := .leg .tip, source := false, readingDue := some (s.now + 200) } }
  else s

/-- A local access of the holder's own pair begins, and its measurement with it (R139, R141, R149). -/
def State.accessOwn (s : State) (p : Pair) (forRun : Bool) : State :=
  (s.beginAccess p s.straps.station).beginMeasurement s.straps.station (pairNo p) forRun

/-- The end of a local access before its measurement is complete abandons the measurement: the run goes on to its next
member, and an uplink test ends ABANDONED (R154). -/
def State.abandonLocal (s : State) (p : Pair) : State :=
  match s.unit.measurement with
  | none => s
  | some m =>
    if m.station == s.straps.station && m.pair == pairNo p then
      let s := s.stopUnit
      if m.forRun then { s with bus := { s.bus with position := s.bus.position + 1 } } else s.endTest .abandoned []
    else s

/-- An access of a pair ends by a cause other than its own holder's release after completion (R140, R154). -/
def State.cutAccess (s : State) (p : Pair) : State :=
  if s.inAccess p then (s.endAccess).abandonLocal p else s

/-! ### The loss of the lock (R144) -/

/-- The view leaves MINE: the restraint starts, the unit leaves the bus, and nothing of the holding remains (R135,
R146). -/
def State.leaveMine (s : State) (view : BusHolder) : State :=
  let s := s.disconnectUnit
  { s with bus := { s.bus with
      view := view, lastAccepted := none, restraint := some (s.now + 1000), releaseWait := none, remote := none
      unlockDue := false } }

/-- The lock is lost (R144): the view leaves MINE, the holder's item is withdrawn and its frame's outcome discarded, the
run hands back tested 0 and faulted 0, and a running uplink test ends ABANDONED. The order of these last two is the
model's, DESIGN CHOICE: the test ends first, so its TEST RESULT is placed before the INCIDENT of the concluded entry (log
entry 58). -/
def State.loseLock (s : State) (view : BusHolder) : State :=
  let s := (s.endLocalAccess.withdraw .testBus markOrphaned).leaveMine view
  let s := if testRunning s.bus then s.endTest .abandoned [] else s
  s.concludeRun (.counts 0 0)

/-! ### What the controller does next -/

/-- A LOCK item may be placed: a job waits, the station is ACTIVE, the restraint is not running and no test-bus item is in
the queue (R136); the view must also be FREE. -/
def State.wantsLock (s : State) : Bool :=
  s.station == .active && jobWaiting s.bus && s.bus.restraint.isNone && !s.hasItem .testBus

/-- The LOCK item of a station that is not the holder, when it is to be withdrawn: the view left FREE, or no job waits any
longer (R136). An item already marked is left to its outcome. -/
def State.staleLock (s : State) : Bool :=
  match s.item .testBus with
  | some x => !x.withdrawn && x.kind == .lock false && (s.bus.view != .free || !jobWaiting s.bus)
  | none => false

/-- The run comes to the member at its position (R141, R142). -/
def State.visitMember (s : State) (run : Run) (m : Member) : Option State :=
  let skip := { s with bus := { s.bus with position := s.bus.position + 1 } }
  if m.leaving then some skip
  else if m.station == s.straps.station then
    match toPair m.pair with
    | none => some skip
    | some p => if s.untestable p then some skip else some (s.accessOwn p true)
  else if s.hasItem .testBus then none
  else some (s.place (.quiet m.station m.pair run.key.cls))

/-- The uplink test starts on the lock held (R137, R143, R149). -/
def State.startTest (s : State) (t : UplinkTest) : State :=
  if s.unit.failed then s.endTest .unitFailed []
  else if s.untestable t.pair || s.service t.pair == .absent then s.endTest .busy []
  else
    let s := { s with bus := { s.bus with test := some { t with phase := .running } } }
    s.accessOwn t.pair false

/-- The holder's next action, if it has one (R137, R141, R142, R149). A calibration, a measurement, a frame of its own in
the queue and a release wait are waited for. While an abandoned run's UNLOCK is due, no job starts on the lock, even one
requested before the item is placed, and it is placed in a calibration too (R136, R144; log entries 17 and 48). -/
def State.holderStep (s : State) : Option State :=
  let item := s.hasItem .testBus
  if s.unit.measurement.isSome then none
  else if s.bus.remote.isSome then
    match s.bus.remote with
    | some (st, pr) => if item then none else some (s.place (.release st pr))
    | none => none
  else if s.bus.unlockDue then
    if item || s.bus.releaseWait.isSome then none
    else some { (s.place .unlock) with bus := { s.bus with unlockDue := false } }
  else if s.unit.selector == .cal then
    if jobWaiting s.bus || jobRunning s.bus || item then none else some (s.place .unlock)
  else
    let unlocking : Bool := match s.item .testBus with
      | some x => x.kind == .unlock
      | none => false
    if unlocking then none
    else
      match s.bus.run with
      | some run =>
        if run.deadline.isNone then
          match (s.entry run.entry).members[s.bus.position]? with
          | some m =>
            if s.bus.tested ≥ 3 then some (s.concludeRun (.counts s.bus.tested s.bus.faulted))
            else if s.bus.releaseWait.isSome then none
            else
              match s.item .testBus with
              | some x => match x.kind with
                | .lock _ => s.visitMember run m
                | _ => none
              | none => s.visitMember run m
          | none => some (s.concludeRun (.counts s.bus.tested s.bus.faulted))
        else if s.bus.releaseWait.isSome || testRunning s.bus then none
        else if !s.unit.calibrationPassed then some (s.concludeRun .unitFailed)
        else some { s with bus := { s.bus with run := some { run with deadline := none }, tested := 0, faulted := 0
                                               position := 0 } }
      | none =>
        if s.bus.releaseWait.isSome || testRunning s.bus then none
        else
          match s.bus.test with
          | some t =>
            if testWaiting s.bus then
              if !s.unit.calibrationPassed then some (s.endTest .unitFailed []) else some (s.startTest t)
            else if item then none
            else some (s.place .unlock)
          | none => if item then none else some (s.place .unlock)

/-- The controller's next action, if it has one. It acts only in ACTIVE: in LISTEN_IN it places no item and cannot hold
the bus (R132, R175). -/
def State.busStep (s : State) : Option State :=
  if s.station != .active then none
  else
    match s.bus.view with
    | .mine => s.holderStep
    | .free =>
      if s.staleLock then some (s.withdraw .testBus markWithdrawn)
      else if s.wantsLock then some (s.place (.lock false))
      else none
    | .held _ _ => if s.staleLock then some (s.withdraw .testBus markWithdrawn) else none

/-- One thing the station does of its own accord after a command: a test of R122 that is called for is made, with the
confirmation it begins, or the controller acts. The test comes first, so an entry that falls due at the end of a run has
its run started before an uplink test that waits (R137, R142; log entry 47). -/
def State.nextStep (s : State) : Option State :=
  match s.dueStep with
  | some t => some t
  | none => s.busStep

/-- Carries out what the station does of its own accord until nothing is left to do. Each entry is begun at most once and
each of its at most 32 members visited at most once before something must be waited for, so 400 is never exhausted. -/
def State.settleUpTo : Nat → State → State
  | 0, s => s
  | n + 1, s =>
    match s.nextStep with
    | none => s
    | some t => State.settleUpTo n t

def State.settle (s : State) : State := s.settleUpTo 400

/-- Runs `act` on an entry after its check was tested at an event that acts on it; an entry found lost has nothing left to
act on (R131). -/
def State.onEntry (s : State) (e : EntryNo) (act : State → State) : State :=
  if (s.entry e).check then act s else (s.loseEntry e).settle

end Sys2Proof.Machine
end

