-- ==== Sys2Proof/Machine/Reception.lean ====
section
/-! DEFINITION. Frames read from the line (06, 07 and 08): the judgement every received frame meets, the response cells, and
what each kind but the commands does to a station that takes or snoops it. -/

namespace Sys2Proof.Machine

/-- What a station that has read a frame of a kind it checks makes of it at the VOID cell (R99, R100). -/
inductive Reading where
  | conflict | voided | discarded | valid
deriving DecidableEq, Repr

/-- A number conflict comes before everything else: it is recognised at the check field (R99). Then a check error, a
length error or an abandonment by this station drives VOID, and a VOID of another receiver discards the frame (R100). -/
def State.judge (s : State) (kind : FrameKind) (f : RxFrame) : Reading :=
  if f.sender == s.straps.station && !checkError kind f then .conflict
  else if checkError kind f || lengthError kind f || s.abandoned then .voided
  else if f.voidedByOther then .discarded
  else .valid

def ackCell : Cells := { noCells with ack := true }

def voidCell : Cells := { noCells with void := true }

/-- Response cells are driven by a station in LISTEN_IN or ACTIVE alone (R110). -/
def State.drive (s : State) (c : Cells) : State := if s.running then { s with cells := c } else s

/-- A frame of a checked kind read to its end: discarded, a conflict, or handed to `act` with no cell driven yet. -/
def State.receive (s : State) (kind : FrameKind) (f : RxFrame) (act : State → State) : State :=
  if !s.running then s
  else
    match s.judge kind f with
    | .conflict => s.enterFailed
    | .voided => { s with abandoned := false, cells := voidCell }
    | .discarded => { s with abandoned := false, cells := noCells }
    | .valid => act { s with abandoned := false, cells := noCells }

/-- `settle` where something it looks at may have changed. -/
def State.settleIf (s : State) (changed : Bool) : State := if changed then s.settle else s

/-! ### LOCK, UNLOCK and the snooped test-bus frames (R133, R134) -/

def State.setView (s : State) (v : BusHolder) : State := { s with bus := { s.bus with view := v } }

/-- A LOCK taken: the holder answers OWN; any other station follows the OWN cell (R133). -/
def State.takeLock (f : RxFrame) (ownSeen : Bool) (s : State) : State :=
  if s.bus.view == .mine then s.drive { ackCell with own := true }
  else
    let s := s.drive ackCell
    if ownSeen then s else (s.setView (.held f.sender s.now)).settle

/-- An UNLOCK taken (R134): the view becomes FREE, and a holder has lost the lock. -/
def State.takeUnlock (s : State) : State :=
  let s := s.drive ackCell
  (if s.bus.view == .mine then s.loseLock .free else s.setView .free).settle

/-- What a QUIET, RELEASE or TEST RESULT does to the view of a station that reads it (R134). -/
def State.noteTestFrame (s : State) (kind : TestBusFrame) (sender : StationNo) : State :=
  match kind with
  | .testResult =>
    match s.bus.view with
    | .held h _ => if h == sender then s.setView (.held h s.now) else s
    | .free => s
    | .mine => s
  | .quiet => if s.bus.view == .mine then s.loseLock (.held sender s.now) else s.setView (.held sender s.now)
  | .release => if s.bus.view == .mine then s.loseLock (.held sender s.now) else s.setView (.held sender s.now)

/-- The conditions of R138 under which a pair answers STALL to a QUIET. -/
def State.stalls (s : State) (p : Pair) (confirmation : Bool) (cls : FaultClass) : Bool :=
  s.untestable p || (confirmation &&
    match (s.pair p).claim with
    | .linked k _ => k != cls
    | _ => true)

/-- The target's answer to a QUIET (R138, R139). -/
def State.answerQuiet (s : State) (sender : StationNo) (pair : PairNo) (confirmation : Bool) (cls : FaultClass) : State :=
  match toPair pair with
  | none => s
  | some p =>
    if s.service p == .absent then s
    else if s.stalls p confirmation cls then s.drive { noCells with stall := true }
    else (s.beginAccess p sender).drive ackCell

/-- The target's answer to a RELEASE: always ACK, and the access of the pair it names ends (R140). -/
def State.answerRelease (s : State) (pair : PairNo) : State :=
  let s := s.drive ackCell
  match toPair pair with
  | none => s
  | some p => s.cutAccess p

/-- The target's answer to a test-bus frame by its body; a TEST RESULT is not answered (R134, R159). -/
def State.answerTestFrame (s : State) (sender : StationNo) (body : Option Body) : State :=
  match body with
  | some (.quiet pair confirmation cls) => s.answerQuiet sender pair confirmation cls
  | some (.release pair) => s.answerRelease pair
  | _ => s

def testFrameKind : TestBusFrame → LongKind
  | .quiet => .quiet | .release => .release | .testResult => .testResult

/-- A QUIET, RELEASE or TEST RESULT at any station that reads it: the view first, then the answer of the target named
(R134). A holder that loses the lock can find its run's entry lost and be FAILED by it, and then answers nothing. -/
def State.takeTestFrame (kind : TestBusFrame) (f : RxFrame) (s : State) : State :=
  let s := s.noteTestFrame kind f.sender
  let s := if s.running && f.target == s.straps.station then
      s.answerTestFrame f.sender (bodyOf (.long (testFrameKind kind)) f.body)
    else s
  s.settle

/-! ### FAULT CLAIM, LEAVE, DEFERRED REPLY and INCIDENT -/

/-- The cells that go with the answer of a CONFIRMING entry (R118). -/
def deferCells : DeferAnswer → Cells
  | .listed => { ackCell with own := true }
  | .deferred => { ackCell with own := true, defer := true }
  | .stalled => { ackCell with own := true, stall := true }

/-- The owner's answer to a FAULT CLAIM, by the state of its entry (R117, R118). -/
def State.answerClaim (s : State) (e : EntryNo) (st : StationNo) (pr : PairNo) (tag : BitVec 5) (renew : Bool) : State :=
  let x := s.entry e
  if x.state == .confirming then
    match x.deferClaim s.now st pr tag renew with
    | (_, .stalled) => s.drive (deferCells .stalled)
    | (y, a) => (s.writeEntry e y).drive (deferCells a)
  else (s.joinEntry e st pr renew).drive { ackCell with own := true }

/-- A FAULT CLAIM taken: ACK always, and the owner's answer where the key is held (R101, R117, R118, R131). -/
def State.takeClaim (st : StationNo) (key : Key) (pr : PairNo) (tag : BitVec 5) (renew : Bool) (s : State) : State :=
  let s := s.drive ackCell
  match s.ownedEntry key with
  | none => s
  | some e =>
    let t := s.readEntry e
    if !t.running then t
    else if (t.entry e).state == .free then t.settle
    else (t.answerClaim e st pr tag renew).settle

/-- A LEAVE taken: ACK always, and the owner's leave where the key is held (R101, R119, R131). -/
def State.takeLeave (st : StationNo) (key : Key) (pr : PairNo) (s : State) : State :=
  let s := s.drive ackCell
  match s.ownedEntry key with
  | none => s
  | some e =>
    let t := s.readEntry e
    if !t.running then t
    else if (t.entry e).state == .free then t.settle
    else t.leaveEntry e st pr

/-- The token of a DEFERRED REPLY is outstanding: the pair named is DEFERRED with the reply's tag, which is held for the
reply's class under the pair's own cable and binder (R126). -/
def State.tokenOutstanding (s : State) (p : Pair) (tag : BitVec 5) (key : Key) : Bool :=
  (s.pair p).claim == .deferred tag.toFin && s.tagOf p == some (tag.toFin, key.cls) && s.pairKey p key.cls == key

/-- A DEFERRED REPLY at its target (R126). -/
def State.takeDeferredReply (tag : BitVec 5) (pr : PairNo) (key : Key) (joined : Bool) (s : State) : State :=
  match toPair pr with
  | none => s
  | some p =>
    if s.tokenOutstanding p tag key then
      let s := (s.retireTag p).drive ackCell
      if joined then s.setClaim p (.linked key.cls false) (some (s.now + 60000)) else s.holdOff p
    else s

/-- What a CLOSED report of a key does to one pair (R129). -/
def State.hearClosed (key : Key) (forced : Bool) (s : State) (p : Pair) : State :=
  if !s.running || s.pairKey p key.cls != key then s
  else
    match (s.pair p).claim with
    | .linked cls false =>
      if cls == key.cls then
        let s := s.withdrawClaim p
        if forced then s.holdOff p else (s.setClaim p .unclaimed none).claimMake p cls
      else s
    | .deferred _ =>
      if (s.tagOf p).map Prod.snd == some key.cls then
        let s := s.retireTag p
        if forced then s.holdOff p else (s.setClaim p .unclaimed none).claimMake p key.cls
      else s
    | _ => s

/-- An INCIDENT report snooped: only a CLOSED one acts, on the pairs in ascending order (R129). -/
def State.takeIncident (key : Key) (state : ReportedState) (forced : Bool) (s : State) : State :=
  if state == .closed then (allPairs.foldl (State.hearClosed key forced) s).settle else s

/-! ### The commands of reception -/

/-- FRAME_CHECKED_ONLY: checked, voided or a conflict, and otherwise nothing (R102). -/
def frameCheckedOnly (kind : LongKind) (f : RxFrame) (s : State) : State := s.receive (.long kind) f id

/-- UNHANDLED_KIND_FRAME: read to its end and nothing done with it; no response cell, not even VOID (R102). -/
def unhandledKindFrame (s : State) : State := if s.running then { s with abandoned := false, cells := noCells } else s

def lockReceived (f : RxFrame) (ownSeen : Bool) (s : State) : State :=
  s.receive (.short .lock) f (State.takeLock f ownSeen)

def unlockReceived (f : RxFrame) (s : State) : State := s.receive (.short .unlock) f State.takeUnlock

def faultClaimReceived (f : RxFrame) (s : State) : State :=
  s.receive (.short .faultClaim) f fun s =>
    match bodyOf (.short .faultClaim) f.body with
    | some (.faultClaim key pair tag renew) => s.takeClaim f.sender key pair tag renew
    | _ => s

def leaveReceived (f : RxFrame) (s : State) : State :=
  s.receive (.short .leave) f fun s =>
    match bodyOf (.short .leave) f.body with
    | some (.leave key pair) => s.takeLeave f.sender key pair
    | _ => s

def testFrameReceived (kind : TestBusFrame) (f : RxFrame) (s : State) : State :=
  s.receive (.long (testFrameKind kind)) f (State.takeTestFrame kind f)

def deferredReplyReceived (f : RxFrame) (s : State) : State :=
  s.receive (.long .deferredReply) f fun s =>
    if f.target != s.straps.station then s
    else
      match bodyOf (.long .deferredReply) f.body with
      | some (.deferredReply tag pair key joined) => s.takeDeferredReply tag pair key joined
      | _ => s

def incidentSnooped (f : RxFrame) (s : State) : State :=
  s.receive (.long .incident) f fun s =>
    match bodyOf (.long .incident) f.body with
    | some (.incident key state _ forced _ _) => s.takeIncident key state forced
    | _ => s

/-- The meaning of FRAME_CHECKED_ONLY. -/
def execFrameCheckedOnly (kind : LongKind) (f : RxFrame) (s : State) : Host.Outcome State Fault Refusal :=
  .next (frameCheckedOnly kind f s)

/-- The meaning of UNHANDLED_KIND_FRAME. -/
def execUnhandledKindFrame (_long : Bool) (_kind : BitVec 4) (s : State) : Host.Outcome State Fault Refusal :=
  .next (unhandledKindFrame s)

/-- The meaning of LOCK_RECEIVED. -/
def execLockReceived (f : RxFrame) (ownSeen : Bool) (s : State) : Host.Outcome State Fault Refusal :=
  .next (lockReceived f ownSeen s)

/-- The meaning of UNLOCK_RECEIVED. -/
def execUnlockReceived (f : RxFrame) (s : State) : Host.Outcome State Fault Refusal := .next (unlockReceived f s)

/-- The meaning of FAULT_CLAIM_RECEIVED. -/
def execFaultClaimReceived (f : RxFrame) (s : State) : Host.Outcome State Fault Refusal := .next (faultClaimReceived f s)

/-- The meaning of LEAVE_RECEIVED. -/
def execLeaveReceived (f : RxFrame) (s : State) : Host.Outcome State Fault Refusal := .next (leaveReceived f s)

/-- The meaning of QUIET_RECEIVED. -/
def execQuietReceived (f : RxFrame) (s : State) : Host.Outcome State Fault Refusal := .next (testFrameReceived .quiet f s)

/-- The meaning of RELEASE_RECEIVED. -/
def execReleaseReceived (f : RxFrame) (s : State) : Host.Outcome State Fault Refusal :=
  .next (testFrameReceived .release f s)

/-- The meaning of TEST_FRAME_SNOOPED. -/
def execTestFrameSnooped (kind : TestBusFrame) (f : RxFrame) (s : State) : Host.Outcome State Fault Refusal :=
  .next (testFrameReceived kind f s)

/-- The meaning of DEFERRED_REPLY_RECEIVED. -/
def execDeferredReplyReceived (f : RxFrame) (s : State) : Host.Outcome State Fault Refusal :=
  .next (deferredReplyReceived f s)

/-- The meaning of INCIDENT_SNOOPED. -/
def execIncidentSnooped (f : RxFrame) (s : State) : Host.Outcome State Fault Refusal := .next (incidentSnooped f s)

end Sys2Proof.Machine
end

