-- ==== Sys2Proof/Machine/Commands.lean ====
section
/-! DEFINITION. The command handler (10_commands_and_replies.md): authority, the reply slots, the service word, and what each
command does at its taking. What a REPLY carries is in Views.lean. -/

namespace Sys2Proof.Machine

/-- The service word (R4). -/
def serviceWord (service : Service) (claim : ClaimState) : Int :=
  match service, claim with
  | .absent, _ => -2
  | .parked, _ => -1
  | .equipped, .linked cls false => classCode cls + 1
  | .equipped, .linked cls true => classCode cls + 5
  | .equipped, .unclaimed => 0
  | .equipped, .pending => 0
  | .equipped, .deferred _ => 0
  | .equipped, .heldOff => 0

def State.serviceWordOf (s : State) (p : Pair) : Int := serviceWord (s.service p) (s.pair p).claim

/-- The level a command needs (R161). -/
def neededAuthority : Command → Nat
  | .queryPair _ _ => 2 | .queryIncident _ _ => 2 | .testPair _ => 1 | .park _ => 0 | .unpark _ => 0
  | .clearIncident _ => 0 | .restart => 0

/-- A sender's ceiling (R161). -/
def ceilingOf (sender : StationNo) : Nat :=
  if sender = uplinkUnit then 0 else if sender = craftTerminal then 1 else 2

/-- The command is carried out: its effective authority is no larger than the level it needs (R161). -/
def authorised (sender : StationNo) (field : BitVec 2) (c : Command) : Bool :=
  decide (max field.toNat (ceilingOf sender) ≤ neededAuthority c)

/-- The lowest-numbered free reply slot (R160). -/
def State.freeSlot (s : State) : Option (Fin 4) := (List.finRange 4).find? fun i => (s.slot i).isNone

/-- What carrying out a command hands back: the state, the status recorded at taking (absent for a query) and the
previous service word of PARK and UNPARK. -/
structure Effect where
  state : State
  status : Option Status
  previousWord : Option Int

/-- TEST PAIR at its taking (R167). -/
def State.doTestPair (s : State) (pr : PairNo) : Effect :=
  match toPair pr with
  | none => { state := s, status := some .absent, previousWord := none }
  | some p =>
    if s.service p == .absent then { state := s, status := some .absent, previousWord := none }
    else if s.unit.failed then { state := s, status := some .unitFailed, previousWord := none }
    else if s.bus.test.isSome then { state := s, status := some .busy, previousWord := none }
    else
      let job : UplinkTest := { pair := p, phase := .waiting (s.now + 30000) }
      { state := { s with bus := { s.bus with test := some job } }
        status := some .accepted, previousWord := none }

/-- The record as PARK and UNPARK leave it (R8): reinitialised, the list, its numbering and two of its flags kept. -/
def PairRecord.reserviced (r : PairRecord) : PairRecord :=
  { PairRecord.initial with events := r.events, nextSeq := r.nextSeq, gap := r.gap, discard := r.discard }

/-- The steps of a PARK that is carried out, in order (R168); an entry found lost on the way can fail the station, and
nothing follows then. -/
def State.parkPair (s : State) (p : Pair) : State :=
  let s := s.endStanding p
  if !s.running then s
  else (((s.dropReceiver p).modPair p PairRecord.reserviced).setService p .parked).settle

/-- PARK at its taking (R168). -/
def State.doPark (s : State) (pr : PairNo) : Effect :=
  match toPair pr with
  | none => { state := s, status := some .absent, previousWord := none }
  | some p =>
    match s.service p with
    | .absent => { state := s, status := some .absent, previousWord := none }
    | .parked => { state := s, status := some .done, previousWord := some (s.serviceWordOf p) }
    | .equipped =>
      if s.inAccess p then { state := s, status := some .busy, previousWord := none }
      else { state := s.parkPair p, status := some .done, previousWord := some (s.serviceWordOf p) }

/-- The steps of an UNPARK that is carried out (R169). -/
def State.unparkPair (s : State) (p : Pair) : State :=
  (((s.cutAccess p).modPair p PairRecord.reserviced).setService p .equipped).settleIf (s.inAccess p)

/-- UNPARK at its taking (R169). -/
def State.doUnpark (s : State) (pr : PairNo) : Effect :=
  match toPair pr with
  | none => { state := s, status := some .absent, previousWord := none }
  | some p =>
    match s.service p with
    | .absent => { state := s, status := some .absent, previousWord := none }
    | .equipped => { state := s, status := some .done, previousWord := some (s.serviceWordOf p) }
    | .parked => { state := s.unparkPair p, status := some .done, previousWord := some (s.serviceWordOf p) }

/-- CLEAR INCIDENT at its taking (R130, R170). -/
def State.doClearIncident (s : State) (key : Key) : Effect :=
  match s.entryHolding key with
  | none => { state := s, status := some .noSuch, previousWord := none }
  | some e =>
    if !(s.entry e).check then { state := (s.loseEntry e).settle, status := some .noSuch, previousWord := none }
    else if (s.entry e).state == .free then { state := s, status := some .noSuch, previousWord := none }
    else { state := (s.closeEntry e (s.entry e).verdict true).settle, status := some .done, previousWord := none }

/-- A command carried out at its taking, its authority sufficient; a query does nothing yet (R160, R162). -/
def State.carryOut (s : State) : Command → Effect
  | .queryPair _ _ => { state := s, status := none, previousWord := none }
  | .queryIncident _ _ => { state := s, status := none, previousWord := none }
  | .testPair pr => s.doTestPair pr
  | .park pr => s.doPark pr
  | .unpark pr => s.doUnpark pr
  | .clearIncident key => s.doClearIncident key
  | .restart => { state := s, status := some .done, previousWord := none }

/-- The station state a slot keeps: for QUERY PAIR of index 25 alone (R160). -/
def keptStation (s : State) : Command → Option StationState
  | .queryPair index _ => if index.toNat = 25 then some s.station else none
  | _ => none

/-- A command takes a slot, draws ACK and gets its REPLY item (R160, R162). -/
def State.occupy (s : State) (i : Fin 4) (r : ReplySlot) : State :=
  ((s.setSlot i (some r)).drive ackCell).place (.reply i)

/-- The slot of a command whose authority does not suffice (R161). R160 lists the station state at taking for QUERY PAIR of
index 25 and does not say whether a DENIED one keeps it: DESIGN CHOICE, it keeps none (log entry 62). -/
def deniedSlot (c : Command) (sender : StationNo) : ReplySlot :=
  { command := c, sender := sender, status := some .denied, previousWord := none, stationAtTaking := none
    restartMark := false }

/-- A command frame at its target (R160, R161): not taken when all slots are occupied; otherwise carried out or DENIED,
and answered. A command that found the station's second integrity error leaves it FAILED, with its slots freed. -/
def State.takeCommand (sender : StationNo) (field : BitVec 2) (c : Command) (s : State) : State :=
  match s.freeSlot with
  | none => s
  | some i =>
    if authorised sender field c then
      let x := s.carryOut c
      if !x.state.running then x.state
      else
        let y := x.state.occupy i
          { command := c, sender := sender, status := x.status, previousWord := x.previousWord
            stationAtTaking := keptStation s c, restartMark := c == .restart }
        y.settleIf (x.status == some .accepted)
    else s.occupy i (deniedSlot c sender)

/-- A command frame read: only its target hands it to the command handler (R102, R160). -/
def commandReceived (kind : LongKind) (f : RxFrame) (s : State) : State :=
  s.receive (.long kind) f fun s =>
    if f.target != s.straps.station then s
    else
      match bodyOf (.long kind) f.body with
      | some (.command c) => s.takeCommand f.sender f.authority c
      | _ => s

/-- The meaning of QUERY_PAIR. -/
def execQueryPair (f : RxFrame) (s : State) : Host.Outcome State Fault Refusal := .next (commandReceived .queryPair f s)

/-- The meaning of QUERY_INCIDENT. -/
def execQueryIncident (f : RxFrame) (s : State) : Host.Outcome State Fault Refusal :=
  .next (commandReceived .queryIncident f s)

/-- The meaning of TEST_PAIR. -/
def execTestPair (f : RxFrame) (s : State) : Host.Outcome State Fault Refusal := .next (commandReceived .testPair f s)

/-- The meaning of PARK. -/
def execPark (f : RxFrame) (s : State) : Host.Outcome State Fault Refusal := .next (commandReceived .park f s)

/-- The meaning of UNPARK. -/
def execUnpark (f : RxFrame) (s : State) : Host.Outcome State Fault Refusal := .next (commandReceived .unpark f s)

/-- The meaning of CLEAR_INCIDENT. -/
def execClearIncident (f : RxFrame) (s : State) : Host.Outcome State Fault Refusal :=
  .next (commandReceived .clearIncident f s)

/-- The meaning of RESTART. -/
def execRestart (f : RxFrame) (s : State) : Host.Outcome State Fault Refusal := .next (commandReceived .restart f s)

end Sys2Proof.Machine
end

