-- ==== Sys2Proof/Machine/Views.lean ====
section
/-! DEFINITION. What the frames this station builds carry (R14, R128, R158, R162 to R166): the views of a REPLY and the
contents of LINE EVENTS, INCIDENT and TEST RESULT. -/

namespace Sys2Proof.Machine

/-! ### Views (R163 to R166) -/

/-- Whole seconds from a moment to the present, capped (R165). -/
def State.secondsSince (s : State) (t cap : Nat) : Nat := min cap ((s.now - t) / 1000)

/-- Part 0 of a pair's view (R163). -/
def State.lineView (s : State) (p : Pair) : LineView :=
  let r := s.pair p
  { serviceWord := s.serviceWordOf p, loop := r.loop, freeze := r.freeze, ringingHold := r.ringingHold, dialled := r.dialled
    pulseCount := r.pulseCount, loopRun := if r.loop == .inBreak then r.breakLength else r.closedRun
    lockoutSeconds := r.lockoutTimer / 1000, receiver := r.receiver, inAccess := s.inAccess p
    vTip := r.vTip, vRing := r.vRing, eventCount := r.events.length, nextSeq := r.nextSeq, gap := r.gap, stale := r.stale }

/-- The tag that a pair's view reports: in PENDING and DEFERRED alone (R163). -/
def State.reportedTag (s : State) (p : Pair) : Option (Tag × FaultClass) :=
  match (s.pair p).claim with
  | .pending => s.tagOf p
  | .deferred _ => s.tagOf p
  | _ => none

/-- Part 1 of a pair's view (R163). -/
def State.faultView (s : State) (p : Pair) : FaultView :=
  let r := s.pair p
  { serviceWord := s.serviceWordOf p, fault := r.fault, recovery := r.recovery, latched := r.latched, feedLoss := r.feedLoss
    foreign := r.foreign, groundLeak := r.groundLeak, dref16 := r.dref16, claim := r.claim, tag := s.reportedTag p
    timerSeconds := r.claimTimer.map fun t => min 63 ((t - s.now) / 1000) }

/-- The integrity mark: an error recorded less than 10 s ago (R164). -/
def State.integrityMark (s : State) : Bool :=
  match s.integrityAt with
  | some t => decide (s.now - t < 10000)
  | none => false

/-- How many incident entries are not FREE (R164). -/
def State.incidentsHeld (s : State) : Nat := (allEntries.filter fun e => (s.entry e).state != .free).length

/-- Part 0 of the TEST BUS VIEW (R165). -/
def State.busView (s : State) : BusView :=
  let b := s.bus
  { view := match b.view with
      | .free => .free
      | .held h t => .held h (s.secondsSince t 15)
      | .mine => .mine (s.secondsSince (b.lastAccepted.getD s.now) 15)
    restraint := b.restraint.isSome, releaseWait := b.releaseWait.isSome
    access := b.access.map fun a => (a.pair, a.holder)
    run := match b.run with
      | none => .absent
      | some r => if r.deadline.isSome then .waiting r.key else .running r.key
    tested := b.tested, faulted := b.faulted
    slot := match b.test with
      | none => .empty
      | some t => match t.phase with
        | .waiting _ => .waiting t.pair
        | .running => .running t.pair
        | .ended outcome _ => .ended t.pair outcome
    vCal := s.unit.vCal, calibrationPassed := s.unit.calibrationPassed }

/-- The TONE POOL view (R73, R165). -/
def State.poolView (s : State) : View :=
  .tonePool (s.receivers.toList.map fun r => (r.state, r.pair)) s.waitList.length
    ((s.waitList.take 6).map fun w => (w.pair, s.secondsSince w.since 15))

/-- Status and view of a QUERY PAIR at a build (R163 to R165); `kept` is the station state at the taking. -/
def State.pairQuery (s : State) (index : BitVec 5) (part : BitVec 2) (kept : Option StationState) : Status × View :=
  match toPair index with
  | some p =>
    if s.service p == .absent then (.absent, .nothing)
    else if part = 0 then (.done, .line (s.lineView p))
    else if part = 1 then (.done, .fault (s.faultView p))
    else (.noSuch, .nothing)
  | none =>
    match index.toNat, part.toNat with
    | 24, 0 => (.done, .identity s.straps)
    | 25, 0 => (.done, .condition (kept == some .active) s.unit.failed s.integrityMark s.incidentsHeld)
    | 26, 0 => (.done, .testBus s.busView)
    | 26, 1 => (.done, .lastMeasured s.unit.last)
    | 27, 0 => (.done, s.poolView)
    | _, _ => (.noSuch, .nothing)

/-- A member as frames carry it. -/
def wireMember (m : Member) : WireMember := { station := m.station, pair := m.pair, leaving := m.leaving }

/-- The state a report gives an entry (R128, R182). -/
def reportedState : EntryState → ReportedState
  | .free => .closed | .opened => .opened | .confirming => .confirming | .confirmed => .confirmed | .clearing => .clearing

/-- The view of a QUERY INCIDENT on an entry the station holds (R166). -/
def incidentView (x : Entry) (page : BitVec 3) : View :=
  .incident (reportedState x.state) x.verdict x.members.length x.overflow x.defers.length
    (((x.members.drop (6 * page.toNat)).take 6).map wireMember)

/-- Status and view of a QUERY INCIDENT at a build, with the state after the entry's check was tested (R131, R166). -/
def State.incidentQuery (s : State) (key : Key) (page : BitVec 3) : State × Status × View :=
  match s.entryHolding key with
  | none => (s, .noSuch, .nothing)
  | some e =>
    if !(s.entry e).check then ((s.loseEntry e).settle, .noSuch, .nothing)
    else if (s.entry e).state == .free then (s, .noSuch, .nothing)
    else (s, .done, incidentView (s.entry e) page)

/-- What PARK and UNPARK add to a REPLY with status DONE (R181). -/
def slotView (r : ReplySlot) : View :=
  match r.previousWord with
  | some w => .previousWord w
  | none => .nothing

/-- The content of a REPLY, with the state after its build (R162). -/
def State.buildReply (s : State) (r : ReplySlot) : State × Body :=
  match r.status with
  | some status => (s, .reply r.command status (slotView r))
  | none =>
    match r.command with
    | .queryPair index part =>
      let x := s.pairQuery index part r.stationAtTaking
      (s, .reply r.command x.1 x.2)
    | .queryIncident key page =>
      let x := s.incidentQuery key page
      (x.1, .reply r.command x.2.1 x.2.2)
    | c => (s, .reply c .done .nothing)

/-! ### LINE EVENTS (R14) -/

/-- An event's age in units of 10 ms, saturating at 255. -/
def eventAge (now time : Nat) : Nat := min 255 ((now - time) / 10)

def wireEvent (now : Nat) (e : Event) : WireEvent := { type := e.type, value := e.value, age := eventAge now e.time }

/-- The content of a LINE EVENTS frame: up to the 6 oldest events; none on an empty list, which holds no item (R14). -/
def lineEventsBody (now : Nat) (p : Pair) (r : PairRecord) : Option Body :=
  match r.events with
  | [] => none
  | e :: _ => some (.lineEvents (pairNo p) e.seq r.gap r.stale ((r.events.take 6).map (wireEvent now)))

/-! ### INCIDENT (R128) and TEST RESULT (R158) -/

/-- The content of an INCIDENT frame on an entry (R128). -/
def incidentBody (x : Entry) : Option Body :=
  match x.key, x.state, x.closing with
  | some k, .free, some c => some (.incident k .closed c.verdict c.forced 0 [])
  | _, .free, _ => none
  | some k, st, _ =>
    some (.incident k (reportedState st) x.verdict false (min 255 (x.members.length + x.overflow))
      ((x.members.take 5).map wireMember))
  | none, _, _ => none

/-- A leg as a TEST RESULT carries it (R158). -/
def wireLeg (l : LegRecord) : WireLeg := { vOff := l.vOff, resistance := l.measured.map LegMeasure.resistance }

/-- The content of a TEST RESULT from the stored result (R158). -/
def testResultBody (t : UplinkTest) : Option Body :=
  match t.phase with
  | .ended outcome legs =>
    some (.testResult (pairNo t.pair) outcome (if outcome == .done then legs.map wireLeg else []))
  | _ => none

end Sys2Proof.Machine
end

