-- ==== Sys2Proof/Machine/Bus.lean ====
section
/-! DEFINITION. Contention (R94, R97, R105): the first eligible item, the build of its content at the START, and a lost
arbitration. -/

namespace Sys2Proof.Machine

/-- An item is eligible: backoff stopped and not withdrawn; a FAULT CLAIM's backoff is its pair's claim timer (R103,
R105). That the station may transmit is asked apart. -/
def State.eligible (s : State) (x : Item) : Bool :=
  !x.withdrawn &&
    match x.kind with
    | .faultClaim p => (s.pair p).claimTimer.isNone
    | _ => x.backoff.isNone

/-- A FAULT CLAIM renews when its pair is LINKED with the owned-here flag clear (R116). -/
def isRenewal : ClaimState → Bool
  | .linked _ false => true
  | _ => false

/-- The content an item's producer builds, with the state after the build (R105). It is absent only where the producer
has nothing to send, which no reachable state shows (log entry 31), or where reading an incident entry has found it lost
with nothing to report (log entry 59) or has put the station into FAILED. -/
def State.buildContent (s : State) : ItemKind → State × Option Body
  | .lock _ => (s, some .lock)
  | .unlock => (s, some .unlock)
  | .quiet _ pr cls => (s, some (.quiet pr true cls))
  | .release _ pr => (s, some (.release pr))
  | .faultClaim p =>
    (s, (s.tagOf p).map fun t =>
      .faultClaim (s.pairKey p t.2) (pairNo p) (BitVec.ofFin t.1) (isRenewal (s.pair p).claim))
  | .leave p key => (s, some (.leave key (pairNo p)))
  | .deferredReply e st pr =>
    let x := s.entry e
    (s, match x.defers.find? (Defer.isOf st pr), x.key with
      | some d, some k => some (.deferredReply d.tag d.pair k (x.state != .free))
      | _, _ => none)
  | .reply i =>
    match s.slot i with
    | some r =>
      let x := s.buildReply r
      (x.1, some x.2)
    | none => (s, none)
  | .lineEvents p =>
    (s.modPair p fun r => { r with discard := false }, lineEventsBody s.now p (s.pair p))
  | .incident e =>
    let t := if (s.entry e).check then s else (s.loseEntry e).settle
    if !t.running then (t, none)
    else (t.writeEntry e { t.entry e with changed := false }, incidentBody (t.entry e))
  | .testResult => (s, s.bus.test.bind testResultBody)

/-- The station a long frame is addressed to (R13, R125, R128, R141, R143, R162); a short one is read by all. -/
def State.targetOf (s : State) : ItemKind → StationNo
  | .quiet st _ _ => st
  | .release st _ => st
  | .deferredReply _ st _ => st
  | .reply i => ((s.slot i).map ReplySlot.sender).getD uplinkUnit
  | _ => uplinkUnit

/-- The frame now in contention or on the bus: this station's own number as sender, the item's target, authority 2, and
the form, kind, length and check of the body built (R95, R179, R180). -/
def State.outgoing (s : State) : Option SentFrame :=
  match s.inFlight with
  | none => none
  | some x => x.content.map fun b => sentFrame s.straps.station (s.targetOf x.kind) 2 b

/-- The first eligible item is offered: its content is built and fixed (R105). -/
def State.offer (s : State) (x : Item) : State :=
  let y := s.buildContent x.kind
  if !y.1.running then y.1
  else
    match y.2 with
    | none => y.1
    | some b => y.1.updateItem (itemRef x.kind) fun i => { i with content := some b }

/-- CONTENTION_START (R94, R105): only an ACTIVE station contends, and only with nothing of its own on the bus. -/
def contentionStart (s : State) : State :=
  if s.station != .active || s.inFlight.isSome then s
  else
    let s := { s with abandoned := false }
    match s.queue.find? s.eligible with
    | none => s
    | some x => s.offer x

/-- ARBITRATION_LOST (R97, R108): the content is discarded and the item keeps its place, unless it is withdrawn. -/
def arbitrationLost (s : State) : State :=
  if !s.running then s
  else
    match s.inFlight with
    | none => s
    | some x =>
      if x.withdrawn then (s.removeItem (itemRef x.kind)).settle else s.updateItem (itemRef x.kind) clearBuild

/-- The meaning of CONTENTION_START. -/
def execContentionStart (s : State) : Host.Outcome State Fault Refusal := .next (contentionStart s)

/-- The meaning of ARBITRATION_LOST. -/
def execArbitrationLost (s : State) : Host.Outcome State Fault Refusal := .next (arbitrationLost s)

end Sys2Proof.Machine
end

