-- ==== Sys2Proof/Machine/Outcomes.lean ====
section
/-! DEFINITION. The outcomes of this station's own frames (R106, R107, R109): the classification, the attempt count, the
backoff and the drop, and what each producer does with each outcome. -/

namespace Sys2Proof.Machine

/-- The three outcomes (R106). -/
inductive Outcome where
  | failed | busy | delivered
deriving DecidableEq, Repr

def isShort : ItemKind → Bool
  | .lock _ => true | .unlock => true | .faultClaim _ => true | .leave _ _ => true
  | _ => false

def isLock : ItemKind → Bool
  | .lock _ => true
  | _ => false

/-- The classification of a frame's end, of every kind (R106). A LINE EVENTS frame is no exception: R15 and R16 are the
pair table's side of an outcome that is classified here, and say nothing of STALL (DEDUCED, log entry 60). -/
def classifyOutcome (k : ItemKind) : TxResult → Outcome
  | .collision => .failed
  | .sent c =>
    if c.void then .failed
    else if c.stall || (isLock k && c.own) then .busy
    else if isShort k || c.ack then .delivered
    else .failed

/-- The item after a failed outcome: one attempt more, round 0, content discarded (R105 to R107). -/
def failedItem (x : Item) : Item := { clearBuild x with attempts := x.attempts + 1, round := 0 }

/-- The item after a busy or STALL outcome its producer keeps it through (R109). -/
def State.busyItem (s : State) (x : Item) : Item :=
  let r := nextRound x.round
  { clearBuild x with round := r, backoff := some (s.now + backoffDelay s.straps.station r) }

/-- What an outcome leaves its producer to do, once the item has been dealt with (R106, R107): nothing while the item
stays, or the consequence of its delivery or of its drop. -/
inductive Fate where
  | kept | delivered | dropped
deriving DecidableEq, Repr

/-- The item's own part of an outcome. A withdrawn item leaves whatever the outcome (R108). -/
def State.dispose (s : State) (x : Item) (o : Outcome) : State × Fate :=
  let ref := itemRef x.kind
  match o with
  | .delivered => (s.removeItem ref, .delivered)
  | .busy => if x.withdrawn then (s.removeItem ref, .dropped) else (s.updateItem ref s.busyItem, .kept)
  | .failed =>
    if x.withdrawn || decide (x.attempts + 1 ≥ 4) then (s.removeItem ref, .dropped)
    else (s.updateItem ref failedItem, .kept)

/-! ### LINE EVENTS (R15 to R17) -/

/-- The number of events and the gap flag noted against a LINE EVENTS frame (R14). -/
def carried : Option Body → Nat × Bool
  | some (.lineEvents _ _ gap _ events) => (events.length, gap)
  | _ => (0, false)

/-- The list after an accepted frame (R15). -/
def PairRecord.accept (r : PairRecord) (n : Nat) (gap : Bool) : PairRecord :=
  { r with events := r.events.drop n, gap := if gap && !r.discard then false else r.gap }

/-- The list after a dropped frame (R17). -/
def PairRecord.lose (r : PairRecord) (n : Nat) : PairRecord :=
  { r with events := r.events.drop n, gap := true, discard := true }

/-- The outcome of a LINE EVENTS frame of a pair; an orphaned one leaves the list alone (R7, R15 to R17). One that is busy
keeps its item, in backoff, and the list as it is (R106, R109). -/
def State.lineEventsDone (s : State) (x : Item) (p : Pair) (o : Outcome) : State :=
  let n := carried x.content
  match s.dispose x o with
  | (t, .kept) => t
  | (t, .delivered) => (if x.orphaned then t else t.modPair p fun r => r.accept n.1 n.2).placeLineEvents p
  | (t, .dropped) => (if x.orphaned then t else t.modPair p fun r => r.lose n.1).placeLineEvents p

/-! ### FAULT CLAIM (R91, R107, R114, R116) -/

/-- A frame taken under an owner's OWN alone (R91). -/
def ownAlone : TxResult → Bool
  | .collision => false
  | .sent c => !c.void && c.own && !c.defer && !c.stall

/-- The item after an outcome that is no attempt: it leaves if it is withdrawn, and contends again otherwise (R91). -/
def State.noAttempt (s : State) (x : Item) : State :=
  if x.withdrawn then s.removeItem (itemRef x.kind) else s.updateItem (itemRef x.kind) clearBuild

/-- A superseded outcome (R91). -/
def State.supersededDone (s : State) (x : Item) (p : Pair) (r : TxResult) : State :=
  let s := s.noAttempt x
  match x.content with
  | some (.faultClaim key _ _ _) => if ownAlone r then s.place (.leave p key) else s
  | _ => s

/-- A failed FAULT CLAIM: one attempt more, and at the fourth a backoff of 1 s with the counts at 0 (R107). -/
def State.claimFailed (s : State) (x : Item) (p : Pair) : State :=
  if x.attempts + 1 ≥ 4 then
    (s.updateItem (itemRef x.kind) fun i => { clearBuild i with attempts := 0, round := 0 }).modPair p fun r =>
      { r with claimTimer := some (s.now + 1000) }
  else s.updateItem (itemRef x.kind) failedItem

/-- A FAULT CLAIM that met STALL: its backoff runs in the pair's claim timer (R103, R109, R114). -/
def State.claimStalled (s : State) (x : Item) (p : Pair) : State :=
  (s.updateItem (itemRef x.kind) fun i => { clearBuild i with round := nextRound i.round }).modPair p fun r =>
    { r with claimTimer := some (s.now + backoffDelay s.straps.station (nextRound x.round)) }

/-- A delivered FAULT CLAIM (R114, R115, R116). -/
def State.claimAnswered (s : State) (x : Item) (p : Pair) (key : Key) (tag : BitVec 5) (own defer : Bool) : State :=
  let s := s.removeItem (itemRef x.kind)
  if own then
    if defer then s.setClaim p (.deferred tag.toFin) (some (s.now + 10000))
    else (s.retireTag p).setClaim p (.linked key.cls false) (some (s.now + 60000))
  else (s.becomeOwner key p).settle

/-- The outcome of a FAULT CLAIM frame. -/
def State.faultClaimDone (s : State) (x : Item) (p : Pair) (r : TxResult) : State :=
  if x.orphaned then s.noAttempt x
  else if x.superseded || x.withdrawn then s.supersededDone x p r
  else
    match classifyOutcome x.kind r, r, x.content with
    | .failed, _, _ => s.claimFailed x p
    | .busy, _, _ => s.claimStalled x p
    | .delivered, .sent c, some (.faultClaim key _ tag _) => s.claimAnswered x p key tag c.own c.defer
    | .delivered, _, _ => s

/-! ### Test-bus items (R135 to R137, R141, R144, R147) -/

/-- A frame of a holder has been answered: its last accepted time is the present (R135). -/
def State.accepted (s : State) : State :=
  if s.bus.view == .mine then { s with bus := { s.bus with lastAccepted := some s.now } } else s

/-- The view becomes MINE by a delivered LOCK that is not a keep-alive, the unit joins the bus and calibration begins
(R136, R137, R146, R147). -/
def State.becomeHolder (s : State) : State :=
  { s with
    bus := { s.bus with
      view := .mine, lastAccepted := some s.now, releaseWait := none, remote := none, unlockDue := false }
    unit := { s.unit with
      connected := true, selector := .cal, source := true, vCal := none, calibrationPassed := false
      measurement := none, readingDue := some (s.now + 200) } }

/-- The outcome of a LOCK frame: of a keep-alive, whose busy answer or drop is the loss of the lock (R135), or of one
that asks for the bus (R136). -/
def State.lockDone (s : State) (x : Item) (keepAlive : Bool) (o : Outcome) : State :=
  if x.orphaned then (s.removeItem (itemRef x.kind)).settle
  else if keepAlive then
    match o with
    | .delivered => (s.removeItem (itemRef x.kind)).accepted.settle
    | .busy => ((s.removeItem (itemRef x.kind)).loseLock .free).settle
    | .failed =>
      match s.dispose x o with
      | (t, .kept) => t
      | (t, _) => (t.loseLock .free).settle
  else
    match s.dispose x o with
    | (t, .kept) => t
    | (t, .delivered) => t.becomeHolder.settle
    | (t, .dropped) => t.settle

/-- The outcome of an UNLOCK frame: delivered or dropped, the bus is given back (R107, R137). One that meets STALL
stays, and the last accepted time is not refreshed (log entry 18). -/
def State.unlockDone (s : State) (x : Item) (o : Outcome) : State :=
  if x.orphaned then (s.removeItem (itemRef x.kind)).settle
  else
    match s.dispose x o with
    | (t, .kept) => t
    | (t, _) => (t.leaveMine .free).settle

/-- The run goes on to its next member, unless the QUIET was withdrawn with its run. -/
def State.passMember (s : State) (x : Item) : State :=
  if x.withdrawn then s else { s with bus := { s.bus with position := s.bus.position + 1 } }

/-- The outcome of a QUIET frame (R141): ACK begins the access and the measurement; STALL or the drop passes the member
over. Where the run was abandoned meanwhile (withdrawn), an ACK still leaves a pair to be released. -/
def State.quietDone (s : State) (x : Item) (st : StationNo) (pr : PairNo) (o : Outcome) : State :=
  let ref := itemRef x.kind
  if x.orphaned then (s.removeItem ref).settle
  else
    match o with
    | .delivered =>
      let s := (s.removeItem ref).accepted
      let s := { s with bus := { s.bus with remote := some (st, pr) } }
      (if x.withdrawn then s else s.beginMeasurement st pr true).settle
    | .busy => ((s.removeItem ref).accepted.passMember x).settle
    | .failed =>
      match s.dispose x o with
      | (t, .kept) => t
      | (t, _) => (t.passMember x).settle

/-- The outcome of a RELEASE frame (R107, R141). -/
def State.releaseDone (s : State) (x : Item) (o : Outcome) : State :=
  if x.orphaned then (s.removeItem (itemRef x.kind)).settle
  else
    match s.dispose x o with
    | (t, .kept) => t
    | (t, .delivered) => ({ t with bus := { t.bus with remote := none } } : State).accepted.settle
    | (t, .dropped) =>
      ({ t with bus := { t.bus with remote := none, releaseWait := some (t.now + 3000) } } : State).settle

/-! ### DEFERRED REPLY, INCIDENT, REPLY and TEST RESULT (R125, R128, R143, R162) -/

/-- The reply carried JOINED for a key. -/
def joinedKey : Option Body → Option Key
  | some (.deferredReply _ _ key true) => some key
  | _ => none

/-- A defer entry is done with: it leaves the list, and a key that nothing keeps any longer is released (R112, R125). -/
def Entry.answered (x : Entry) (st : StationNo) (pr : PairNo) : Entry :=
  ({ x with defers := x.defers.filter fun d => !Defer.isOf st pr d }).releaseKey

/-- The claimant of a delivered JOINED reply is added, when the entry still holds the key (R125). -/
def State.addReplied (s : State) (e : EntryNo) (st : StationNo) (pr : PairNo) (body : Option Body) : State :=
  let x := s.entry e
  match x.defers.find? (Defer.isOf st pr), joinedKey body with
  | some d, some k => if x.state != .free && x.key == some k then s.joinEntry e st pr d.renew else s
  | _, _ => s

/-- The outcome of a DEFERRED REPLY frame, the entry's check tested first (R125, R131). -/
def State.deferredReplyDone (s : State) (x : Item) (e : EntryNo) (st : StationNo) (pr : PairNo) (o : Outcome) : State :=
  let ref := itemRef x.kind
  if !(s.entry e).check then
    let s := s.loseEntry e
    (s.removeItem ref).settle
  else if x.withdrawn then (s.removeItem ref).settle
  else
    match s.dispose x o with
    | (t, .kept) => t
    | (t, .delivered) =>
      let t := t.addReplied e st pr x.content
      (t.writeEntry e ((t.entry e).answered st pr)).settle
    | (t, .dropped) => (t.writeEntry e ((t.entry e).answered st pr)).settle

/-- An INCIDENT item has left the queue (R128): a new one follows a change made meanwhile, and otherwise a FREE entry
discards its closing report. The entry's check is tested first (R131; log entry 50). -/
def State.incidentLeft (s : State) (e : EntryNo) : State :=
  s.onEntry e fun s =>
    let x := s.entry e
    if x.changed then s.place (.incident e)
    else if x.state == .free then s.writeEntry e ({ x with closing := none }).releaseKey
    else s

def State.incidentDone (s : State) (x : Item) (e : EntryNo) (o : Outcome) : State :=
  match s.dispose x o with
  | (t, .kept) => t
  | (t, _) => t.incidentLeft e

/-- A REPLY item has left the queue (R162, R171): its slot is freed, and the station restarts where the slot carries the
restart mark. -/
def State.replyLeft (s : State) (i : Fin 4) : State :=
  match s.slot i with
  | some r => if r.restartMark then s.restartStation else s.setSlot i none
  | none => s

def State.replyDone (s : State) (x : Item) (i : Fin 4) (o : Outcome) : State :=
  match s.dispose x o with
  | (t, .kept) => t
  | (t, _) => t.replyLeft i

/-- The outcome of a TEST RESULT frame (R135, R143): the slot is freed when the item leaves, and a delivered one refreshes
a holder; one that meets STALL does not (log entry 18). -/
def State.testResultDone (s : State) (x : Item) (o : Outcome) : State :=
  match s.dispose x o with
  | (t, .kept) => t
  | (t, fate) =>
    let t := { t with bus := { t.bus with test := none } }
    if fate == .delivered then t.accepted else t

/-! ### The outcome commands -/

/-- The kind of frame an outcome command is about. -/
inductive SentKind where
  | lineEvents | faultClaim | leave | lock | unlock | quiet | release | deferredReply | incident | reply | testResult
deriving DecidableEq, Repr

def sentKind : ItemKind → SentKind
  | .lock _ => .lock | .unlock => .unlock | .quiet _ _ _ => .quiet | .release _ _ => .release
  | .faultClaim _ => .faultClaim | .leave _ _ => .leave | .deferredReply _ _ _ => .deferredReply
  | .reply _ => .reply | .lineEvents _ => .lineEvents | .incident _ => .incident | .testResult => .testResult

/-- The producer's part, by the item's kind. -/
def State.produce (s : State) (x : Item) (r : TxResult) : State :=
  let o := classifyOutcome x.kind r
  match x.kind with
  | .lineEvents p => s.lineEventsDone x p o
  | .faultClaim p => s.faultClaimDone x p r
  | .leave _ _ => (s.dispose x o).1
  | .lock keepAlive => s.lockDone x keepAlive o
  | .unlock => s.unlockDone x o
  | .quiet st pr _ => s.quietDone x st pr o
  | .release _ _ => s.releaseDone x o
  | .deferredReply e st pr => s.deferredReplyDone x e st pr o
  | .incident e => s.incidentDone x e o
  | .reply i => s.replyDone x i o
  | .testResult => s.testResultDone x o

/-- An abandonment on a collision is remembered until the frame on the bus has ended (R98). -/
def State.noteEnd (s : State) (r : TxResult) : State :=
  match r with
  | .collision => if s.running then { s with abandoned := true } else s
  | .sent _ => { s with abandoned := false }

/-- The outcome of the frame in flight; an outcome of a kind that is not in flight has nothing to act on (log entry 29). -/
def frameOutcome (kind : SentKind) (r : TxResult) (s : State) : State :=
  if !s.running then s
  else
    match s.inFlight with
    | none => s
    | some x => if sentKind x.kind == kind then (s.noteEnd r).produce x r else s

/-- FRAME_TRUNCATED (R94, R98): what was being received is discarded and no cell driven; a frame of this station that
has not had its outcome ends as a collision does. -/
def frameTruncated (s : State) : State :=
  if !s.running then s
  else
    let s := { s with abandoned := false, cells := noCells }
    match s.inFlight with
    | none => s
    | some x => s.produce x .collision

/-- The meaning of FRAME_TRUNCATED. -/
def execFrameTruncated (s : State) : Host.Outcome State Fault Refusal := .next (frameTruncated s)

/-- The meaning of LINE_EVENTS_OUTCOME. -/
def execLineEventsOutcome (r : TxResult) (s : State) : Host.Outcome State Fault Refusal :=
  .next (frameOutcome .lineEvents r s)

/-- The meaning of FAULT_CLAIM_OUTCOME. -/
def execFaultClaimOutcome (r : TxResult) (s : State) : Host.Outcome State Fault Refusal :=
  .next (frameOutcome .faultClaim r s)

/-- The meaning of LEAVE_OUTCOME. -/
def execLeaveOutcome (r : TxResult) (s : State) : Host.Outcome State Fault Refusal := .next (frameOutcome .leave r s)

/-- The meaning of LOCK_OUTCOME. -/
def execLockOutcome (r : TxResult) (s : State) : Host.Outcome State Fault Refusal := .next (frameOutcome .lock r s)

/-- The meaning of UNLOCK_OUTCOME. -/
def execUnlockOutcome (r : TxResult) (s : State) : Host.Outcome State Fault Refusal := .next (frameOutcome .unlock r s)

/-- The meaning of QUIET_OUTCOME. -/
def execQuietOutcome (r : TxResult) (s : State) : Host.Outcome State Fault Refusal := .next (frameOutcome .quiet r s)

/-- The meaning of RELEASE_OUTCOME. -/
def execReleaseOutcome (r : TxResult) (s : State) : Host.Outcome State Fault Refusal := .next (frameOutcome .release r s)

/-- The meaning of DEFERRED_REPLY_OUTCOME. -/
def execDeferredReplyOutcome (r : TxResult) (s : State) : Host.Outcome State Fault Refusal :=
  .next (frameOutcome .deferredReply r s)

/-- The meaning of INCIDENT_OUTCOME. -/
def execIncidentOutcome (r : TxResult) (s : State) : Host.Outcome State Fault Refusal := .next (frameOutcome .incident r s)

/-- The meaning of REPLY_OUTCOME. -/
def execReplyOutcome (r : TxResult) (s : State) : Host.Outcome State Fault Refusal := .next (frameOutcome .reply r s)

/-- The meaning of TEST_RESULT_OUTCOME. -/
def execTestResultOutcome (r : TxResult) (s : State) : Host.Outcome State Fault Refusal :=
  .next (frameOutcome .testResult r s)

end Sys2Proof.Machine
end

