-- ==== Sys2Proof/Machine/Measure.lean ====
section
/-! DEFINITION. The test unit at work (09_metallic_measurement_and_confirmation_results.md): calibration, the two readings of
a leg, resistance, class, judgement, and the end of a measurement. -/

namespace Sys2Proof.Machine

/-- The resistance of a leg in kilohms, by the first case of R152 that holds. -/
def resistanceOf (vCal delta : Int) : Nat :=
  if delta ≤ 0 then 0
  else if vCal - delta ≤ 0 then 65535
  else min 65535 ((100 * delta) / (vCal - delta)).toNat

/-- The class of a measured leg (R153). -/
def legClassOf (r : Nat) : LegClass :=
  if r < 20 then .severe else if r < 150 then .low else if r < 1000 then .marginal else .good

/-- V_off stands so high that the leg is refused (R150). -/
def refused (vOff : Int) : Bool := decide (vOff.natAbs > 1600)

/-- The record of a refused leg (R150). -/
def refusedLeg (leg : Leg) (vOff : Int) : LegRecord := { leg := leg, vOff := vOff, measured := none }

/-- The record of a measured leg (R151). -/
def measuredLeg (leg : Leg) (vCal vOff vOn : Int) : LegRecord :=
  let delta := vOn - vOff
  let r := resistanceOf vCal delta
  { leg := leg, vOff := vOff, measured := some { vOn := vOn, delta := delta, resistance := r, cls := legClassOf r } }

/-- A leg is measured and its resistance lies below a limit (R156). -/
def belowLimit (leg : Leg) (limit : Nat) (l : LegRecord) : Bool :=
  l.leg == leg &&
    match l.measured with
    | some m => decide (m.resistance < limit)
    | none => false

/-- The judgement of a member by the class of the incident (R156); FEED_LOSS incidents have no run (R123). -/
def judgeMember (cls : FaultClass) (legs : List LegRecord) : Bool :=
  match cls with
  | .foreign => legs.any fun l => decide (l.vOff.natAbs > 320)
  | .groundLeak => legs.any fun l => belowLimit .tip 150 l || belowLimit .ring 150 l
  | .permanentLoop => legs.any (belowLimit .loop 2)
  | .feedLoss => false

/-- Calibration passes within 10 % of 4000 test counts (R147). -/
def calibrationOk (v : Int) : Bool := decide (3600 ≤ v) && decide (v ≤ 4400)

/-- The leg after a leg; none after LOOP (R149). -/
def nextLeg : Leg → Option Leg
  | .tip => some .ring | .ring => some .loop | .loop => none

/-- The result of a completed measurement reaches the confirmation run with its judgement, or the uplink test (R142,
R154, R157, R158). -/
def State.handOver (s : State) (m : Measurement) (legs : List LegRecord) : State :=
  if m.forRun then
    match s.bus.run with
    | none => s
    | some run =>
      { s with bus := { s.bus with
          tested := s.bus.tested + 1
          faulted := s.bus.faulted + (judgeMember run.key.cls legs).toNat
          position := s.bus.position + 1 } }
  else s.endTest .done legs

/-- A measurement is complete (R154): the selector returns to none, the result is kept as the last completed one (R159)
and handed over, and the holder ends a local access (R141). -/
def State.completeMeasurement (s : State) (m : Measurement) (legs : List LegRecord) : State :=
  let s := s.stopUnit
  let s := { s with unit := { s.unit with last := some { pair := m.pair, forRun := m.forRun, legs := legs } } }
  let s := s.handOver m legs
  (if m.station == s.straps.station then s.endAccess else s).settle

/-- A leg's record is complete: the off reading of the next leg begins, or the measurement is complete (R150, R151,
R154). -/
def State.legDone (s : State) (m : Measurement) (l : LegRecord) : State :=
  match nextLeg m.leg with
  | some leg =>
    { s with unit := { s.unit with
        measurement := some { m with leg := leg, vOff := none, records := m.records ++ [l] }
        selector := .leg leg, source := false, readingDue := some (s.now + 200) } }
  | none => s.completeMeasurement m (m.records ++ [l])

/-- CALIBRATION_DONE (R137, R147, R148). Where a failure ends both a waiting run and a waiting uplink test, the order is the
model's, DESIGN CHOICE: the run concludes first, so the INCIDENT of its entry is placed before the TEST RESULT (log entry
57). -/
def calibrationDone (volts : Int) (s : State) : State :=
  if !s.running || s.unit.selector != .cal then s
  else
    match s.unit.readingDue with
    | none => s
    | some t =>
      let s := s.elapseTo t
      let v := testReading volts
      let u := { s.unit.stop with vCal := some v }
      if calibrationOk v then ({ s with unit := { u with calibrationPassed := true } } : State).settle
      else
        let s := { s with unit := { u with failed := true } }
        let s := if runWaiting s.bus then s.concludeRun .unitFailed else s
        (if s.running && testWaiting s.bus then s.endTest .unitFailed [] else s).settle

/-- LEG_OFF_READING_DONE (R150). -/
def legOffReadingDone (volts : Int) (s : State) : State :=
  if !s.running then s
  else
    match s.unit.measurement, s.unit.readingDue with
    | some m, some t =>
      if m.vOff.isSome then s
      else
        let s := s.elapseTo t
        let v := testReading volts
        if refused v then s.legDone m (refusedLeg m.leg v)
        else
          { s with unit := { s.unit with
              measurement := some { m with vOff := some v }, source := true, readingDue := some (s.now + 200) } }
    | _, _ => s

/-- LEG_ON_READING_DONE (R151 to R153). A V_cal is present in every measurement (R149). -/
def legOnReadingDone (volts : Int) (s : State) : State :=
  if !s.running then s
  else
    match s.unit.measurement, s.unit.readingDue, s.unit.vCal with
    | some m, some t, some vCal =>
      match m.vOff with
      | none => s
      | some vOff => (s.elapseTo t).legDone m (measuredLeg m.leg vCal vOff (testReading volts))
    | _, _, _ => s

/-- The meaning of CALIBRATION_DONE. -/
def execCalibrationDone (volts : Int) (s : State) : Host.Outcome State Fault Refusal := .next (calibrationDone volts s)

/-- The meaning of LEG_OFF_READING_DONE. -/
def execLegOffReadingDone (volts : Int) (s : State) : Host.Outcome State Fault Refusal :=
  .next (legOffReadingDone volts s)

/-- The meaning of LEG_ON_READING_DONE. -/
def execLegOnReadingDone (volts : Int) (s : State) : Host.Outcome State Fault Refusal :=
  .next (legOnReadingDone volts s)

end Sys2Proof.Machine
end

