-- ==== Sys2Proof/Machine/Scan.lean ====
section
/-! DEFINITION. One turn of the scan (01, 02, 03 and 05): the check, the integrity reinitialisation with its consequences, a
sampled turn, a turn in TEST_ACCESS, and the close of the fault interval. -/

namespace Sys2Proof.Machine

/-! ### Integrity reinitialisation (R6, R7) -/

/-- The record as R6 leaves it: RECORD_RESET alone in the list, the gap flag and the discard mark set. -/
def PairRecord.reset (r : PairRecord) (now : Nat) : PairRecord :=
  { ({ PairRecord.initial with nextSeq := r.nextSeq }).append now .recordReset 0 with gap := true, discard := true }

/-- A FAULT CLAIM item that stands, not withdrawn already, is withdrawn with its record: the outcome of a frame that is
out is discarded (R7). -/
def State.orphanClaim (s : State) (p : Pair) : State :=
  match s.item (.faultClaim p) with
  | some x => if x.withdrawn then s else s.withdraw (.faultClaim p) markOrphaned
  | none => s

/-- The claim's part of R7: the item that stands in PENDING or in a renewal is withdrawn, the tag that the pair holds is
retired (R84), no LEAVE goes out, and a pair LINKED here leaves locally. The item and the tag go whatever the claim field
of the failed record says; whether the pair leaves locally, and which incident, is read from that field (log entry 41). -/
def State.dropClaim (s : State) (p : Pair) : State :=
  let t := (s.orphanClaim p).retireTag p
  match (s.pair p).claim with
  | .linked cls true => (t.setClaim p .unclaimed none).localLeave (s.pairKey p cls) p
  | _ => t

/-- A LINE EVENTS frame built before the reinitialisation is orphaned; its item stays (R7). -/
def orphanBuilt (x : Item) : Item := if x.content.isSome then { x with orphaned := true } else x

/-- The integrity reinitialisation of a record with its consequences and the report to station control (R6, R7, R176). R7
gives the consequences no order: DESIGN CHOICE, the pair that gets the receiver has its RECEIVER_LATE and its LINE EVENTS
item before the RECORD_RESET and the item of this pair (log entry 54). -/
def State.reinitialise (s : State) (p : Pair) : State :=
  let s := ((s.dropClaim p).reclaimReceiver p).cutAccess p
  let s := (s.modPair p fun r => r.reset s.now).updateItem (.lineEvents p) orphanBuilt
  ((s.placeLineEvents p).reportIntegrity).settle

/-! ### The close of a fault interval (R29, R30) -/

/-- The close of a pair's interval: the accumulator is emptied, the record goes to the loop supervisor and the fault
integrator, and the claim logic follows the fault state (R30, R48, R75, R87 to R89). Where both append an event, their
order is the free choice of log entry 8. -/
def State.closeInterval (s : State) (p : Pair) : State :=
  let r := s.pair p
  let i := intervalRecord r.acc r.freeze
  let ring := ringingClose { r with acc := .empty } i
  let fault := integrateClose ring.1 i
  let both := ring.2.isSome && (faultEvent fault.2).isSome
  let first := Config.loopEventFirst s.choices
  let s := if both then { s with choices := s.choices + 1 } else s
  let s := (s.setPair p (appendClose s.now first fault.1 ring.2 (faultEvent fault.2))).placeLineEvents p
  (s.faultConsequence p fault.2).settleIf (fault.2 != .quiet)

/-- The interval closes at the turn that brings scans taken to 20 (R29). -/
def State.closeIfFull (s : State) (p : Pair) : State :=
  if s.running && decide ((s.pair p).acc.scans ≥ 20) then s.closeInterval p else s

/-! ### Turns (R18, R19) -/

/-- The evaluation that follows a change of PERMANENT_LOOP by the loop supervisor, in a write of its own (R79, R81). -/
def State.evaluateLoop (s : State) (p : Pair) (before : LatchedSet) : State :=
  let r := s.pair p
  if r.latched == before then s
  else
    let x := evaluateFault r (pairClass before) (pairClass r.latched) false
    let y := match faultEvent x.2 with
      | some e => x.1.append s.now e.1 e.2
      | none => x.1
    (((s.setPair p y).placeLineEvents p).faultConsequence p x.2).settleIf (x.2 != .quiet)

/-- A turn of a sampled pair: readings, class, accumulator, loop supervisor, tone pool, fault state, and the interval's
close (R18, R21 to R30, R36). A confirmation run that starts on a lock held when the turn enters LOCKOUT, and accesses this
very pair, begins before the interval closes, so the record then carries ACCESS (log entry 51). -/
def State.sampleTurn (s : State) (p : Pair) (tip ring : Int) : State :=
  let r := (s.pair p).sample (senseReading tip) (senseReading ring)
  let x := loopSample s.now r r.classMemory
  let s := ((s.setPair p x.1).placeLineEvents p).poolMessage p x.2
  ((s.evaluateLoop p r.latched).closeIfFull p).noteAudio p

/-- A turn of a pair in TEST_ACCESS: scans taken advances and nothing else does, until the interval closes (R19). -/
def State.accessTurn (s : State) (p : Pair) : State :=
  (s.modPair p fun r => { r with acc := { r.acc with scans := r.acc.scans + 1 } }).closeIfFull p

/-- SCAN_TURN (R5, R18). -/
def scanTurn (p : Pair) (tip ring : Int) (s : State) : State :=
  if !s.running then s
  else
    match s.service p with
    | .absent => s
    | .parked => if (s.pair p).check then s else s.reinitialise p
    | .equipped =>
      if !(s.pair p).check then s.reinitialise p
      else if (s.pair p).freeze == .access then s.accessTurn p
      else s.sampleTurn p tip ring

/-- The meaning of SCAN_TURN. -/
def execScanTurn (p : Pair) (tip ring : Int) (s : State) : Host.Outcome State Fault Refusal :=
  .next (scanTurn p tip ring s)

end Sys2Proof.Machine
end

