-- ==== Sys2Proof/Machine/Timers.lean ====
section
/-! DEFINITION. The station's timers but those of the tone receivers and the test unit: each expiry carries the clock to the
timer's deadline (log entry 2) and acts; the expiry of a timer that does not run changes nothing. -/

namespace Sys2Proof.Machine

/-- What a step is when no command waits: one millisecond of station time, which runs in LISTEN_IN and in ACTIVE (log
entry 1). -/
def State.idle (s : State) : State := if s.running then { s with now := s.now + 1 } else s

/-- LISTEN_IN_EXPIRY (R175): the station becomes ACTIVE. -/
def listenInExpiry (s : State) : State :=
  match s.station, s.listenUntil with
  | .listenIn, some t => ({ s.elapseTo t with station := .active, listenUntil := none } : State).settle
  | _, _ => s

/-- A pair's claim timer is its FAULT CLAIM item's backoff: in PENDING, and in LINKED while a renewal item stands
(R103, R116). -/
def State.timerIsBackoff (s : State) (p : Pair) : Bool :=
  s.hasItem (.faultClaim p) && ((s.pair p).claim == .pending || isRenewal (s.pair p).claim)

/-- ITEM_BACKOFF_EXPIRY (R109): the item becomes eligible. -/
def itemBackoffExpiry (ref : ItemRef) (s : State) : State :=
  if !s.running then s
  else
    match ref with
    | .faultClaim p =>
      match (s.pair p).claimTimer with
      | some t =>
        if s.timerIsBackoff p then (s.elapseTo t).modPair p fun r => { r with claimTimer := none } else s
      | none => s
    | _ =>
      match (s.item ref).bind Item.backoff with
      | some t => (s.elapseTo t).updateItem ref fun x => { x with backoff := none }
      | none => s

/-- What a pair's claim does when its defer wait, its renew timer or its hold-off has run out. A deferral's tag is retired,
and a claim for the class it was held for is made at once (R127). A renewal is given a tag and its item, the pair staying
LINKED (R116). A hold-off is followed by a claim for the pair class in FAULTED, and otherwise by NONE (R90). -/
def State.claimWaitEnd (s : State) (p : Pair) : State :=
  match (s.pair p).claim with
  | .deferred _ =>
    match s.tagOf p with
    | some tag => (((s.retireTag p).setClaim p .unclaimed none).claimMake p tag.2).settle
    | none => s
  | .linked cls false =>
    if s.hasItem (.faultClaim p) then s
    else ((s.setClaim p (.linked cls false) none).allocateTag p cls).place (.faultClaim p)
  | .heldOff =>
    let s := s.setClaim p .unclaimed none
    match (s.pair p).fault, pairClass (s.pair p).latched with
    | .faulted, some cls => (s.claimMake p cls).settle
    | _, _ => s
  | _ => s

/-- The turn of one pair among those whose waits end together, if its own wait still ends there (R84). -/
def claimWaitTurn (t : Nat) (s : State) (p : Pair) : State :=
  if s.running && (s.pair p).claimTimer == some t then s.claimWaitEnd p else s

/-- A wait that ends at a station time: the pairs below this one whose waits end with it come first, so that claims made
at one moment take their tags and place their items in ascending pair order (R84; log entry 53). -/
def State.claimWaitsEnd (s : State) (t : Nat) (p : Pair) : State :=
  (allPairs.filter fun q => q ≤ p).foldl (claimWaitTurn t) (s.elapseTo t)

/-- DEFER_WAIT_EXPIRY (R127). -/
def deferWaitExpiry (p : Pair) (s : State) : State :=
  if !s.running then s
  else
    match (s.pair p).claim, (s.pair p).claimTimer, s.tagOf p with
    | .deferred _, some t, some _ => s.claimWaitsEnd t p
    | _, _, _ => s

/-- RENEW_TIMER_EXPIRY (R116). -/
def renewTimerExpiry (p : Pair) (s : State) : State :=
  if !s.running then s
  else
    match (s.pair p).claim, (s.pair p).claimTimer with
    | .linked _ false, some t => if s.hasItem (.faultClaim p) then s else s.claimWaitsEnd t p
    | _, _ => s

/-- HOLD_OFF_EXPIRY (R90). -/
def holdOffExpiry (p : Pair) (s : State) : State :=
  if !s.running then s
  else
    match (s.pair p).claim, (s.pair p).claimTimer with
    | .heldOff, some t => s.claimWaitsEnd t p
    | _, _ => s

/-! ### The incident table's timers (R120, R121, R124, R131) -/

/-- A timer of an entry can expire where the entry's state lets it run. An entry whose check fails is read, and so found
lost, whatever state it shows (R131). -/
def Entry.timed (x : Entry) (runs : Bool) : Bool := runs || !x.check

/-- MEMBER_EXPIRY (R120): a member of another station that has not renewed for 150 s leaves, or is marked leaving. -/
def memberExpiry (e : EntryNo) (st : StationNo) (pr : PairNo) (s : State) : State :=
  if !s.running || st == s.straps.station || !(s.entry e).timed ((s.entry e).state != .free) then s
  else
    match (s.entry e).members.find? (Member.isOf st pr) with
    | none => s
    | some m => (s.elapseTo (m.renewed + 150000)).onEntry e fun s => s.expireEntry e st pr

/-- EMPTY_LIST_EXPIRY (R120, R121): the overflow count goes to 0, and the entry to CLEARING. -/
def emptyListExpiry (e : EntryNo) (s : State) : State :=
  if !s.running || !(s.entry e).timed ((s.entry e).state != .free) then s
  else
    match (s.entry e).emptyTimer with
    | none => s
    | some t =>
      (s.elapseTo t).onEntry e fun s =>
        let x := s.entry e
        s.writeEntry e
          (({ x with emptyTimer := none, overflow := 0, changed := x.changed || x.overflow != 0 }).clearIfEmpty s.now)

/-- CLEAR_HOLD_EXPIRY (R121): the entry is closed, not forced, with its verdict. -/
def clearHoldExpiry (e : EntryNo) (s : State) : State :=
  if !s.running || !(s.entry e).timed ((s.entry e).state == .clearing) then s
  else
    match (s.entry e).clearHold with
    | none => s
    | some t => (s.elapseTo t).onEntry e fun s => s.closeEntry e (s.entry e).verdict false

/-- CONFIRMATION_RETRY_EXPIRY (R122, R124): the retry timer stops, and the entry is tested again. -/
def confirmationRetryExpiry (e : EntryNo) (s : State) : State :=
  if !s.running || !(s.entry e).timed ((s.entry e).state != .free) then s
  else
    match (s.entry e).retryTimer with
    | none => s
    | some t =>
      (s.elapseTo t).onEntry e fun s => (s.writeEntry e { s.entry e with retryTimer := none }).callTest.settle

/-! ### The test bus controller's timers (R135, R136, R140, R141) -/

/-- VIEW_LAPSE (R135): 5 s after the holder's last test-bus frame. -/
def viewLapse (s : State) : State :=
  if !s.running then s
  else
    match s.bus.view with
    | .held _ heard => ((s.elapseTo (heard + 5000)).setView .free).settle
    | .free => s
    | .mine => s

/-- KEEP_ALIVE_DUE (R135): a LOCK item is placed. -/
def keepAliveDue (s : State) : State :=
  if !s.running || s.bus.view != .mine || s.hasItem .testBus then s
  else
    match s.bus.lastAccepted with
    | none => s
    | some t =>
      if jobRunning s.bus || s.bus.releaseWait.isSome then (s.elapseTo (t + 2000)).place (.lock true) else s

/-- SELF_LIMIT_EXPIRY (R135, R144): the holder leaves MINE. -/
def selfLimitExpiry (s : State) : State :=
  if !s.running || s.bus.view != .mine then s
  else
    match s.bus.lastAccepted with
    | none => s
    | some t => ((s.elapseTo (t + 4000)).loseLock .free).settle

/-- RESTRAINT_EXPIRY (R135): the station may place a LOCK again. -/
def restraintExpiry (s : State) : State :=
  if !s.running then s
  else
    match s.bus.restraint with
    | none => s
    | some t =>
      let s := s.elapseTo t
      ({ s with bus := { s.bus with restraint := none } } : State).settle

/-- A deadline applies while the job waits for the lock: not while this station is the holder with no UNLOCK item placed
(R136). So it does not run out between the abandonment of a run and the placing of its UNLOCK (log entry 48). -/
def State.deadlineApplies (s : State) : Bool :=
  s.bus.view != .mine ||
    match s.item .testBus with
    | some x => x.kind == .unlock
    | none => false

/-- The job's deadline while it waits (R136). -/
def jobDeadline (b : TestBus) : Job → Option Nat
  | .confirmation => b.run.bind Run.deadline
  | .uplinkTest =>
    match b.test with
    | some t => match t.phase with
      | .waiting d => some d
      | _ => none
    | none => none

/-- JOB_DEADLINE_EXPIRY (R136): the job ends without the bus. -/
def jobDeadlineExpiry (job : Job) (s : State) : State :=
  if !s.running || !s.deadlineApplies then s
  else
    match jobDeadline s.bus job with
    | none => s
    | some t =>
      let s := s.elapseTo t
      match job with
      | .confirmation => (s.concludeRun .noLock).settle
      | .uplinkTest => (s.endTest .noBus []).settle

/-- RELEASE_WAIT_EXPIRY (R141): the holder goes on. -/
def releaseWaitExpiry (s : State) : State :=
  if !s.running then s
  else
    match s.bus.releaseWait with
    | none => s
    | some t =>
      let s := s.elapseTo t
      ({ s with bus := { s.bus with releaseWait := none } } : State).settle

/-- SELF_RELEASE_EXPIRY (R140): 3 s after the access began. -/
def selfReleaseExpiry (s : State) : State :=
  if !s.running then s
  else
    match s.bus.access with
    | none => s
    | some a => ((s.elapseTo (a.began + 3000)).cutAccess a.pair).settleIf (a.holder == s.straps.station)

/-- The meaning of LISTEN_IN_EXPIRY. -/
def execListenInExpiry (s : State) : Host.Outcome State Fault Refusal := .next (listenInExpiry s)

/-- The meaning of ITEM_BACKOFF_EXPIRY. -/
def execItemBackoffExpiry (ref : ItemRef) (s : State) : Host.Outcome State Fault Refusal := .next (itemBackoffExpiry ref s)

/-- The meaning of DEFER_WAIT_EXPIRY. -/
def execDeferWaitExpiry (p : Pair) (s : State) : Host.Outcome State Fault Refusal := .next (deferWaitExpiry p s)

/-- The meaning of RENEW_TIMER_EXPIRY. -/
def execRenewTimerExpiry (p : Pair) (s : State) : Host.Outcome State Fault Refusal := .next (renewTimerExpiry p s)

/-- The meaning of HOLD_OFF_EXPIRY. -/
def execHoldOffExpiry (p : Pair) (s : State) : Host.Outcome State Fault Refusal := .next (holdOffExpiry p s)

/-- The meaning of MEMBER_EXPIRY. -/
def execMemberExpiry (e : EntryNo) (st : StationNo) (pr : PairNo) (s : State) : Host.Outcome State Fault Refusal :=
  .next (memberExpiry e st pr s)

/-- The meaning of EMPTY_LIST_EXPIRY. -/
def execEmptyListExpiry (e : EntryNo) (s : State) : Host.Outcome State Fault Refusal := .next (emptyListExpiry e s)

/-- The meaning of CLEAR_HOLD_EXPIRY. -/
def execClearHoldExpiry (e : EntryNo) (s : State) : Host.Outcome State Fault Refusal := .next (clearHoldExpiry e s)

/-- The meaning of CONFIRMATION_RETRY_EXPIRY. -/
def execConfirmationRetryExpiry (e : EntryNo) (s : State) : Host.Outcome State Fault Refusal :=
  .next (confirmationRetryExpiry e s)

/-- The meaning of VIEW_LAPSE. -/
def execViewLapse (s : State) : Host.Outcome State Fault Refusal := .next (viewLapse s)

/-- The meaning of KEEP_ALIVE_DUE. -/
def execKeepAliveDue (s : State) : Host.Outcome State Fault Refusal := .next (keepAliveDue s)

/-- The meaning of SELF_LIMIT_EXPIRY. -/
def execSelfLimitExpiry (s : State) : Host.Outcome State Fault Refusal := .next (selfLimitExpiry s)

/-- The meaning of RESTRAINT_EXPIRY. -/
def execRestraintExpiry (s : State) : Host.Outcome State Fault Refusal := .next (restraintExpiry s)

/-- The meaning of JOB_DEADLINE_EXPIRY. -/
def execJobDeadlineExpiry (job : Job) (s : State) : Host.Outcome State Fault Refusal := .next (jobDeadlineExpiry job s)

/-- The meaning of RELEASE_WAIT_EXPIRY. -/
def execReleaseWaitExpiry (s : State) : Host.Outcome State Fault Refusal := .next (releaseWaitExpiry s)

/-- The meaning of SELF_RELEASE_EXPIRY. -/
def execSelfReleaseExpiry (s : State) : Host.Outcome State Fault Refusal := .next (selfReleaseExpiry s)

end Sys2Proof.Machine
end

