-- ==== Sys2Proof/Machine/Dispatch.lean ====
section
/-! DEFINITION. One arm per command: each is a direct call of the command's meaning. -/

namespace Sys2Proof.Machine

def exec (i : Instr) (s : State) : Host.Outcome State Fault Refusal :=
  match i with
  | .resetPinAssert => Sys2Proof.Machine.execResetPinAssert s
  | .resetPinRelease straps => Sys2Proof.Machine.execResetPinRelease straps s
  | .listenInExpiry => Sys2Proof.Machine.execListenInExpiry s
  | .scanTurn pair tip ring => Sys2Proof.Machine.execScanTurn pair tip ring s
  | .toneBlockComplete receiver samples => Sys2Proof.Machine.execToneBlockComplete receiver samples s
  | .digitPauseExpiry receiver => Sys2Proof.Machine.execDigitPauseExpiry receiver s
  | .noDigitExpiry receiver => Sys2Proof.Machine.execNoDigitExpiry receiver s
  | .contentionStart => Sys2Proof.Machine.execContentionStart s
  | .arbitrationLost => Sys2Proof.Machine.execArbitrationLost s
  | .frameTruncated => Sys2Proof.Machine.execFrameTruncated s
  | .frameCheckedOnly kind frame => Sys2Proof.Machine.execFrameCheckedOnly kind frame s
  | .unhandledKindFrame long kind => Sys2Proof.Machine.execUnhandledKindFrame long kind s
  | .lockReceived frame ownSeen => Sys2Proof.Machine.execLockReceived frame ownSeen s
  | .unlockReceived frame => Sys2Proof.Machine.execUnlockReceived frame s
  | .faultClaimReceived frame => Sys2Proof.Machine.execFaultClaimReceived frame s
  | .leaveReceived frame => Sys2Proof.Machine.execLeaveReceived frame s
  | .quietReceived frame => Sys2Proof.Machine.execQuietReceived frame s
  | .releaseReceived frame => Sys2Proof.Machine.execReleaseReceived frame s
  | .testFrameSnooped kind frame => Sys2Proof.Machine.execTestFrameSnooped kind frame s
  | .deferredReplyReceived frame => Sys2Proof.Machine.execDeferredReplyReceived frame s
  | .incidentSnooped frame => Sys2Proof.Machine.execIncidentSnooped frame s
  | .queryPair frame => Sys2Proof.Machine.execQueryPair frame s
  | .queryIncident frame => Sys2Proof.Machine.execQueryIncident frame s
  | .testPair frame => Sys2Proof.Machine.execTestPair frame s
  | .park frame => Sys2Proof.Machine.execPark frame s
  | .unpark frame => Sys2Proof.Machine.execUnpark frame s
  | .clearIncident frame => Sys2Proof.Machine.execClearIncident frame s
  | .restart frame => Sys2Proof.Machine.execRestart frame s
  | .lineEventsOutcome result => Sys2Proof.Machine.execLineEventsOutcome result s
  | .faultClaimOutcome result => Sys2Proof.Machine.execFaultClaimOutcome result s
  | .leaveOutcome result => Sys2Proof.Machine.execLeaveOutcome result s
  | .lockOutcome result => Sys2Proof.Machine.execLockOutcome result s
  | .unlockOutcome result => Sys2Proof.Machine.execUnlockOutcome result s
  | .quietOutcome result => Sys2Proof.Machine.execQuietOutcome result s
  | .releaseOutcome result => Sys2Proof.Machine.execReleaseOutcome result s
  | .deferredReplyOutcome result => Sys2Proof.Machine.execDeferredReplyOutcome result s
  | .incidentOutcome result => Sys2Proof.Machine.execIncidentOutcome result s
  | .replyOutcome result => Sys2Proof.Machine.execReplyOutcome result s
  | .testResultOutcome result => Sys2Proof.Machine.execTestResultOutcome result s
  | .itemBackoffExpiry item => Sys2Proof.Machine.execItemBackoffExpiry item s
  | .deferWaitExpiry pair => Sys2Proof.Machine.execDeferWaitExpiry pair s
  | .renewTimerExpiry pair => Sys2Proof.Machine.execRenewTimerExpiry pair s
  | .holdOffExpiry pair => Sys2Proof.Machine.execHoldOffExpiry pair s
  | .memberExpiry entry station pair => Sys2Proof.Machine.execMemberExpiry entry station pair s
  | .emptyListExpiry entry => Sys2Proof.Machine.execEmptyListExpiry entry s
  | .clearHoldExpiry entry => Sys2Proof.Machine.execClearHoldExpiry entry s
  | .confirmationRetryExpiry entry => Sys2Proof.Machine.execConfirmationRetryExpiry entry s
  | .viewLapse => Sys2Proof.Machine.execViewLapse s
  | .keepAliveDue => Sys2Proof.Machine.execKeepAliveDue s
  | .selfLimitExpiry => Sys2Proof.Machine.execSelfLimitExpiry s
  | .restraintExpiry => Sys2Proof.Machine.execRestraintExpiry s
  | .jobDeadlineExpiry job => Sys2Proof.Machine.execJobDeadlineExpiry job s
  | .releaseWaitExpiry => Sys2Proof.Machine.execReleaseWaitExpiry s
  | .selfReleaseExpiry => Sys2Proof.Machine.execSelfReleaseExpiry s
  | .calibrationDone volts => Sys2Proof.Machine.execCalibrationDone volts s
  | .legOffReadingDone volts => Sys2Proof.Machine.execLegOffReadingDone volts s
  | .legOnReadingDone volts => Sys2Proof.Machine.execLegOnReadingDone volts s

end Sys2Proof.Machine
end

