-- ==== Sys2Proof/Safety.lean ====
section
/-! DEFINITION. What a safe run of the station keeps, in the terms the statements use: the bounds and agreements that the
manual's rules promise of the records, the entries, the queue, the holding, the access, the pool and the service; and the
two premises under which a received frame or a scan turn takes its ordinary course. -/

namespace Sys2Proof.Machine

/-- The sequence numbers of a list run consecutively mod 16 and end just below `next` (R9). -/
def seqsEndAt (next : BitVec 4) : List Event → Bool
  | [] => true
  | e :: rest => (e.seq + BitVec.ofNat 4 (rest.length + 1) == next) && seqsEndAt next rest

/-- The pending event list of a record (R9). -/
abbrev PairRecord.EventsOk (r : PairRecord) : Prop :=
  r.events.length ≤ 8 ∧ seqsEndAt r.nextSeq r.events = true ∧ ∀ e ∈ r.events, e.value ≤ 15

/-- The ranges of a record's counters (R1, R35, R74). -/
abbrev PairRecord.RangesOk (r : PairRecord) : Prop :=
  r.pulseCount ≤ 15 ∧ r.closedRun ≤ 30 ∧ r.breakLength ≤ 160 ∧ r.lockoutTimer ≤ 30000 ∧ r.feedDead ≤ 19 ∧
    r.feedBack ≤ 3 ∧ r.quietCount ≤ 1 ∧ r.feedLoss ≤ 15 ∧ r.foreign ≤ 15 ∧ r.groundLeak ≤ 15 ∧ r.recovery ≤ 19 ∧
    r.dref16 ≤ 65520

/-- A class that has an integrator is latched only while its integrator is at least 1 (R79). -/
abbrev PairRecord.LatchesOk (r : PairRecord) : Prop :=
  (r.latched.feedLoss = true → 1 ≤ r.feedLoss) ∧ (r.latched.foreign = true → 1 ≤ r.foreign) ∧
    (r.latched.groundLeak = true → 1 ≤ r.groundLeak)

/-- What every pair record keeps; its last part is R11: stale exactly while frozen by FEED. -/
abbrev PairRecord.Ok (r : PairRecord) : Prop :=
  r.EventsOk ∧ r.RangesOk ∧ r.LatchesOk ∧ r.stale = (r.freeze == .feed)

abbrev State.RecordsOk (s : State) : Prop := ∀ p : Pair, (s.pair p).Ok

/-- What every incident entry keeps (R111). -/
abbrev Entry.Ok (x : Entry) : Prop :=
  x.members.length ≤ 32 ∧ (x.members.map fun m => (m.station, m.pair)).Nodup ∧ x.overflow ≤ 255 ∧
    x.defers.length ≤ 8 ∧ (x.defers.map fun d => (d.station, d.pair)).Nodup

/-- Every entry is so, and its key stands in the key store too (R111). -/
abbrev State.EntriesOk (s : State) : Prop :=
  ∀ e : EntryNo, (s.entry e).Ok ∧ s.keyStore.get e = (s.entry e).key

/-- The queue is in the order of precedence (R103), holds at most one item of a name (R104), and has at most one frame in
contention or on the bus, in ACTIVE alone (R105, R110). -/
abbrev State.QueueOk (s : State) : Prop :=
  (s.queue.map fun x => itemPrecedence x.kind).Pairwise (· ≤ ·) ∧ (s.queue.map fun x => itemRef x.kind).Nodup ∧
    (s.queue.filter fun x => x.content.isSome).length ≤ 1 ∧
    (s.station ≠ .active → ∀ x ∈ s.queue, x.content = none)

/-- The last accepted time is present and the bus connection closed exactly in MINE, and outside it the source relay is
open and nothing is being measured (R132, R145, R146). -/
abbrev State.HolderOk (s : State) : Prop :=
  s.bus.lastAccepted.isSome = (s.bus.view == .mine) ∧ s.unit.connected = (s.bus.view == .mine) ∧
    (s.bus.view ≠ .mine → s.unit.source = false ∧ s.unit.measurement = none)

/-- The freeze cause of a pair is ACCESS exactly while the pair is in TEST_ACCESS (R54, R139). -/
abbrev State.AccessOk (s : State) : Prop := ∀ p : Pair, ((s.pair p).freeze == .access) = s.inAccess p

/-- A receiver is IDLE exactly when it serves no pair, it serves a pair exactly when the pair's record names it, no pair
waits twice or holds a receiver while it waits, while any pair waits every receiver is lent, and a pair that is not
EQUIPPED neither holds a receiver nor waits (R56 to R60). -/
abbrev State.PoolOk (s : State) : Prop :=
  (∀ r : ReceiverNo, ((s.receiver r).state == .idle) = (s.receiver r).pair.isNone) ∧
    (∀ (r : ReceiverNo) (p : Pair), (s.receiver r).pair = some p ↔ (s.pair p).receiver = some r) ∧
    (s.waitList.map Waiting.pair).Nodup ∧ (∀ w ∈ s.waitList, (s.pair w.pair).receiver = none) ∧
    (s.waitList ≠ [] → ∀ r : ReceiverNo, (s.receiver r).state ≠ .idle) ∧
    ∀ p : Pair, s.service p ≠ .equipped → (s.pair p).receiver = none ∧ ∀ w ∈ s.waitList, w.pair ≠ p

/-- A FAULT CLAIM item of a pair that is not withdrawn stands in the queue. -/
def State.claimStands (s : State) (p : Pair) : Bool :=
  s.queue.any fun x => itemRef x.kind == .faultClaim p && !x.withdrawn

/-- What a pair's claim state says of its tag and of its FAULT CLAIM item (R84, R85, R89, R114, R116). -/
def State.claimOk (s : State) (p : Pair) : Bool :=
  match (s.pair p).claim with
  | .pending => (s.tagOf p).isSome && s.claimStands p
  | .deferred t => (s.tagOf p).map Prod.fst == some t && !s.claimStands p
  | .linked _ false => (s.tagOf p).isSome == s.claimStands p
  | .linked _ true => (s.tagOf p).isNone && !s.claimStands p
  | .unclaimed => (s.tagOf p).isNone && !s.claimStands p
  | .heldOff => (s.tagOf p).isNone && !s.claimStands p

/-- A FAULT CLAIM frame that is out and not superseded carries the tag its pair holds (R84, R85). -/
def State.carriesTag (s : State) (x : Item) : Bool :=
  match x.kind, x.content with
  | .faultClaim p, some (.faultClaim key _ tag _) =>
    x.superseded || x.withdrawn || s.tagOf p == some (tag.toFin, key.cls)
  | _, _ => true

/-- While the station runs, no pair holds two claim tags, tags, items and claim states agree, a frame carries the tag its
pair holds, and a pair that is not EQUIPPED has no claim (R84, R85, R168). -/
abbrev State.ClaimsOk (s : State) : Prop :=
  s.running = true →
    (∀ p : Pair, s.service p ≠ .equipped → (s.pair p).claim = .unclaimed) ∧ (∀ x ∈ s.queue, s.carriesTag x = true) ∧
    (∀ t u : Tag, (s.tags.get t).isSome = true → (s.tags.get t).map TagHolder.pair = (s.tags.get u).map TagHolder.pair →
      t = u) ∧
    ∀ p : Pair, s.claimOk p = true

/-- While the station runs, an entry is CONFIRMING exactly when the confirmation run stands for it, so at most one is, and
the run holds its key (R122, R123, R156). -/
abbrev State.RunOk (s : State) : Prop :=
  s.running = true →
    (∀ e : EntryNo, (s.entry e).state = .confirming ↔ s.bus.run.map Run.entry = some e) ∧
    ∀ e : EntryNo, s.bus.run.map Run.entry = some e → (s.entry e).key = s.bus.run.map Run.key

/-- The two copies of the service agree (R1). -/
abbrev State.ServicesOk (s : State) : Prop := s.serviceA = s.serviceB

/-! ### Commands by what they carry -/

/-- The commands by which a frame of a checked kind reaches the station, with that kind (R102). -/
def receives : Instr → Option (FrameKind × RxFrame)
  | .frameCheckedOnly kind f => some (.long kind, f)
  | .lockReceived f _ => some (.short .lock, f)
  | .unlockReceived f => some (.short .unlock, f)
  | .faultClaimReceived f => some (.short .faultClaim, f)
  | .leaveReceived f => some (.short .leave, f)
  | .quietReceived f => some (.long .quiet, f)
  | .releaseReceived f => some (.long .release, f)
  | .testFrameSnooped .quiet f => some (.long .quiet, f)
  | .testFrameSnooped .release f => some (.long .release, f)
  | .testFrameSnooped .testResult f => some (.long .testResult, f)
  | .deferredReplyReceived f => some (.long .deferredReply, f)
  | .incidentSnooped f => some (.long .incident, f)
  | .queryPair f => some (.long .queryPair, f)
  | .queryIncident f => some (.long .queryIncident, f)
  | .testPair f => some (.long .testPair, f)
  | .park f => some (.long .park, f)
  | .unpark f => some (.long .unpark, f)
  | .clearIncident f => some (.long .clearIncident, f)
  | .restart f => some (.long .restart, f)
  | _ => none

/-- The seven commands by which a command frame reaches the station, with the frame's kind (R102, R160). -/
def commandFrame : Instr → Option (LongKind × RxFrame)
  | .queryPair f => some (.queryPair, f)
  | .queryIncident f => some (.queryIncident, f)
  | .testPair f => some (.testPair, f)
  | .park f => some (.park, f)
  | .unpark f => some (.unpark, f)
  | .clearIncident f => some (.clearIncident, f)
  | .restart f => some (.restart, f)
  | _ => none

/-- The command that reports the end of the frame of an item of a kind. -/
def outcomeOf : ItemKind → TxResult → Instr
  | .lock _, r => .lockOutcome r
  | .unlock, r => .unlockOutcome r
  | .quiet _ _ _, r => .quietOutcome r
  | .release _ _, r => .releaseOutcome r
  | .faultClaim _, r => .faultClaimOutcome r
  | .leave _ _, r => .leaveOutcome r
  | .deferredReply _ _ _, r => .deferredReplyOutcome r
  | .reply _, r => .replyOutcome r
  | .lineEvents _, r => .lineEventsOutcome r
  | .incident _, r => .incidentOutcome r
  | .testResult, r => .testResultOutcome r

/-! ### Bodies -/

/-- Whether every field of a body is in the range that its place in the frame carries (R181): the counts, and the values
the widths do not bound. -/
def Body.fits : Body → Prop
  | .lineEvents _ _ _ _ events => 1 ≤ events.length ∧ events.length ≤ 6 ∧ ∀ v ∈ events, v.value ≤ 15 ∧ v.age ≤ 255
  | .incident _ _ _ _ count members => count ≤ 255 ∧ members.length ≤ 5
  | .testResult _ outcome legs =>
    (if outcome = .done then legs.length = 3 else legs = []) ∧
      ∀ l ∈ legs, -8191 ≤ l.vOff ∧ l.vOff ≤ 8191 ∧ ∀ r, l.resistance = some r → r ≤ 65535
  | .quiet _ confirmation cls => confirmation = false → cls = .feedLoss
  | .reply _ _ _ => False
  | _ => True

/-- Which view a REPLY to a command carries with a status (R163 to R166, R181). -/
def View.answers (cmd : Command) (status : Status) : View → Prop
  | .nothing => status ≠ .done ∨ (∃ pr, cmd = .testPair pr) ∨ (∃ key, cmd = .clearIncident key) ∨ cmd = .restart
  | .previousWord _ => status = .done ∧ ∃ pr, cmd = .park pr ∨ cmd = .unpark pr
  | .line _ => status = .done ∧ ∃ index : BitVec 5, index.toNat < 24 ∧ cmd = .queryPair index 0
  | .fault _ => status = .done ∧ ∃ index : BitVec 5, index.toNat < 24 ∧ cmd = .queryPair index 1
  | .identity _ => status = .done ∧ cmd = .queryPair 24 0
  | .condition _ _ _ _ => status = .done ∧ cmd = .queryPair 25 0
  | .testBus _ => status = .done ∧ cmd = .queryPair 26 0
  | .lastMeasured _ => status = .done ∧ cmd = .queryPair 26 1
  | .tonePool _ _ _ => status = .done ∧ cmd = .queryPair 27 0
  | .incident _ _ _ _ _ _ => status = .done ∧ ∃ key page, cmd = .queryIncident key page

/-- Whether every field of a view is in the range of its place (R181). -/
def View.fits : View → Prop
  | .nothing => True
  | .previousWord word => -128 ≤ word ∧ word ≤ 127
  | .line v => -128 ≤ v.serviceWord ∧ v.serviceWord ≤ 127 ∧ v.pulseCount ≤ 15 ∧ v.loopRun ≤ 161 ∧
      v.lockoutSeconds ≤ 30 ∧ -2048 ≤ v.vTip ∧ v.vTip ≤ 2047 ∧ -2048 ≤ v.vRing ∧ v.vRing ≤ 2047 ∧ v.eventCount ≤ 15
  | .fault v => -128 ≤ v.serviceWord ∧ v.serviceWord ≤ 127 ∧ v.recovery ≤ 31 ∧ v.feedLoss ≤ 15 ∧ v.foreign ≤ 15 ∧
      v.groundLeak ≤ 15 ∧ v.dref16 ≤ 65535 ∧ ∀ n, v.timerSeconds = some n → n ≤ 63
  | .identity _ => True
  | .condition _ _ _ held => held ≤ 15
  | .testBus v => (∀ holder age, v.view = .held holder age → age ≤ 15) ∧ (∀ age, v.view = .mine age → age ≤ 15) ∧
      v.tested ≤ 3 ∧ v.faulted ≤ 3 ∧ ∀ x, v.vCal = some x → -8192 ≤ x ∧ x ≤ 8191
  | .lastMeasured last => ∀ m, last = some m → m.legs.length = 3 ∧ ∀ l ∈ m.legs, -8192 ≤ l.vOff ∧ l.vOff ≤ 8191 ∧
      ∀ y, l.measured = some y → y.resistance ≤ 65535
  | .tonePool receivers waiting head =>
      receivers.length = 4 ∧ waiting ≤ 31 ∧ head.length ≤ 6 ∧ ∀ w ∈ head, w.2 ≤ 15
  | .incident _ _ listed overflow deferred members =>
      listed ≤ 63 ∧ overflow ≤ 255 ∧ deferred ≤ 15 ∧ members.length ≤ 6

/-! ### Premises -/

/-- A frame of a kind reaches a running station undisturbed: from another station, right in check and length, voided by
no one (R96, R99, R100). -/
abbrev State.hears (s : State) (kind : FrameKind) (f : RxFrame) : Prop :=
  s.running = true ∧ f.sender ≠ s.straps.station ∧ checkError kind f = false ∧ lengthError kind f = false ∧
    s.abandoned = false ∧ f.voidedByOther = false

/-- A turn at which an EQUIPPED pair with a sound record is sampled, its interval not closing (R18, R29). -/
abbrev State.samples (s : State) (p : Pair) : Prop :=
  s.running = true ∧ s.service p = .equipped ∧ (s.pair p).check = true ∧ (s.pair p).freeze ≠ .access ∧
    (s.pair p).acc.scans < 19

/-- The frame in flight is this item's, and a command about its kind reaches a running station. -/
abbrev State.sending (s : State) (x : Item) : Prop := s.running = true ∧ s.inFlight = some x

end Sys2Proof.Machine
end

