-- ==== Sys2Proof/Certificates/Slice0/Obligations.lean ====
section
/-! DEFINITION. The statements for the provers. Each docstring names the rule or section of the manual that the statement is
taken from. Where a statement ends in `settle`, that is the station's own next work after the command (a test of R122 that
is called for, the test bus controller's next action), of which statements of their own say what it does. -/

open Sys2Proof Sys2Proof.Machine

/-! ### The machine -/

/-- A step takes the command at the front of the queue of commands that wait, which is the model's own (log entry 1,
DESIGN CHOICE), and carries it out on the rest. -/
def Obligations.StepRunsFrontCommand : Prop :=
  ∀ (c : Instr) (rest : List Instr) (s : State), s.pending = c :: rest → step s = exec c { s with pending := rest }

/-- The reset pin: taken low it opens every relay, releases the line and ends the access; let go it samples the straps
once and sets everything to the values of R174, in LISTEN_IN, or in STRAP_ERROR on straps that cannot be used (R140,
R154, R172 to R174); at the end of its 5 s the station enters ACTIVE (R175). The model's own choices in it: that the
view, the queue, the access and the LISTEN_IN timer go at the pin taken low, not at its release (log entry 32); that a
release is taken in any state (log entry 7); that pair-count code 3, which R172 gives no count, equips no pair (log
entry 25); and the clock of the third clause (log entry 2). -/
def Obligations.ResetToActive : Prop :=
  (∀ s : State, ∃ t : State, exec .resetPinAssert s = .next t ∧
     t = { s with
       station := .inReset, listenUntil := none, queue := [], abandoned := false, cells := noCells, pairs := t.pairs
       bus := { s.bus with view := .free, lastAccepted := none, access := none }
       unit := { s.unit with
         connected := false, source := false, selector := .none, measurement := none, readingDue := none } } ∧
     ∀ p : Pair, t.pair p =
       if s.bus.access.map Access.pair = some p then
         { s.pair p with freeze := .unfrozen, closedRun := 0, breakLength := 0, feedDead := 0, check := true }
       else s.pair p) ∧
  (∀ (straps : Straps) (s : State),
     let bad := straps.station = 14 ∨ straps.station = 15 ∨ straps.pairCount = 3
     let equipped := if straps.pairCount = 0 then 8 else if straps.pairCount = 1 then 16
       else if straps.pairCount = 2 then 24 else 0
     let service : Vector Service 24 := Vector.ofFn fun p => if p.val < equipped then .equipped else .absent
     exec (.resetPinRelease straps) s = .next
       { station := if bad then .strapError else .listenIn, now := 0
         listenUntil := if bad then none else some 5000, straps := straps, integrityAt := none
         pairs := Vector.replicate 24 PairRecord.initial, serviceA := service, serviceB := service
         receivers := Vector.replicate 4 Receiver.idle, waitList := []
         tags := Vector.replicate 32 none, tagPointer := 0
         entries := Vector.replicate 8 Entry.empty, keyStore := Vector.replicate 8 none
         bus := TestBus.initial, unit := TestUnit.initial, slots := Vector.replicate 4 none
         queue := [], abandoned := false, cells := noCells, dueTest := false, choices := s.choices, pending := s.pending }) ∧
  (∀ (s : State) (t : Nat), s.station = .listenIn → s.listenUntil = some t →
     exec .listenInExpiry s =
       .next (State.settle { s with now := max s.now t, station := .active, listenUntil := none }))

/-- In reset, in STRAP_ERROR and in FAILED no command but the reset pin's has any effect (R110, R172, R173, R177; that
the timers and pins of the other blocks do nothing there is the model's reading, log entry 6). -/
def Obligations.NothingRunsOutsideListenInAndActive : Prop :=
  ∀ (c : Instr) (s : State), s.station ≠ .listenIn → s.station ≠ .active →
    c ≠ .resetPinAssert → (∀ straps, c ≠ .resetPinRelease straps) → exec c s = .next s

/-! ### Sensing -/

/-- The class of a sample: the class in memory when clipped, else DEAD, CLOSED, OPEN or the class in memory by |D| and |C|
(R22, R24). A sample's readings, class and indicators, and what each adds to the interval accumulator (R26 to R28); the
interval record of an accumulator (R29, R31); when the close learns (R32), and that learning keeps D_ref16 in 1280 to
65488 and moves it toward 16·M without passing it (R33). -/
def Obligations.SensingAndLearning : Prop :=
  (∀ (memory : SampleClass) (tip ring : Int),
    let d := (tip - ring).natAbs
    let c := ((tip + ring).tdiv 2).natAbs
    if tip = -2048 ∨ tip = 2047 ∨ ring = -2048 ∨ ring = 2047 then sampleClass memory tip ring = memory
    else
      (d < 24 → c < 24 → sampleClass memory tip ring = .dead) ∧
      (d < 24 → 24 ≤ c → sampleClass memory tip ring = .closed) ∧
      (24 ≤ d → d < 80 → sampleClass memory tip ring = .closed) ∧
      (80 ≤ d → d ≤ 112 → sampleClass memory tip ring = memory) ∧
      (112 < d → sampleClass memory tip ring = .openLoop)) ∧
  (∀ (r : PairRecord) (tip ring : Int),
    let t := r.sample tip ring
    let a := r.acc
    let d := tip - ring
    let c := (tip + ring).tdiv 2
    let clipped := tip = -2048 ∨ tip = 2047 ∨ ring = -2048 ∨ ring = 2047
    let isOpen := ¬clipped ∧ t.classMemory = .openLoop
    let sag := isOpen ∧ ((r.dref16 ≠ 0 ∧ 16 * d.natAbs + 384 < r.dref16) ∨ d.natAbs < 140)
    t = { r with vTip := tip, vRing := ring, classMemory := sampleClass r.classMemory tip ring, acc := t.acc } ∧
    t.acc.scans = a.scans + 1 ∧
    (clipped → t.acc.clipped = a.clipped + 1) ∧ (¬clipped → t.acc.clipped = a.clipped) ∧
    (32 < tip ∨ 32 < ring → t.acc.positive = a.positive + 1) ∧
    (tip ≤ 32 → ring ≤ 32 → t.acc.positive = a.positive) ∧
    (¬clipped → t.classMemory = .dead → t.acc.dead = a.dead + 1) ∧
    (clipped ∨ t.classMemory ≠ .dead → t.acc.dead = a.dead) ∧
    (isOpen → t.acc.opened = a.opened + 1 ∧ t.acc.sum = a.sum + d.natAbs) ∧
    (¬isOpen → t.acc.opened = a.opened ∧ t.acc.sum = a.sum) ∧
    (sag → t.acc.sag = a.sag + 1) ∧ (¬sag → t.acc.sag = a.sag) ∧
    (clipped → t.acc.extremes = a.extremes) ∧
    (¬clipped → a.extremes = none → t.acc.extremes = some { minD := d, maxD := d, minC := c, maxC := c }) ∧
    (∀ x, ¬clipped → a.extremes = some x → t.acc.extremes = some
      { minD := min x.minD d, maxD := max x.maxD d, minC := min x.minC c, maxC := max x.maxC c })) ∧
  (∀ (a : Accumulator) (f : FreezeCause),
    let i := intervalRecord a f
    i.dead = a.dead ∧ i.opened = a.opened ∧ i.positive = a.positive ∧ i.clipped = a.clipped ∧ i.sag = a.sag ∧
    i.freeze = f ∧ (a.extremes = none → i.swingD = 0 ∧ i.swingC = 0) ∧
    (∀ x, a.extremes = some x → i.swingD = x.maxD - x.minD ∧ i.swingC = x.maxC - x.minC) ∧
    (i.ringing = true ↔ 400 < i.swingD) ∧ (11 ≤ a.opened → i.mean = some (a.sum / a.opened)) ∧
    (a.opened < 11 → i.mean = none)) ∧
  (∀ (dref groundLeak : Nat) (i : IntervalRecord),
    (∀ m, i.mean = some m → i.ringing = false → groundLeak = 0 → i.freeze = .unfrozen →
      learn dref groundLeak i = learned dref m) ∧
    (i.mean = none ∨ i.ringing = true ∨ groundLeak ≠ 0 ∨ i.freeze ≠ .unfrozen → learn dref groundLeak i = dref)) ∧
  (∀ dref mean : Nat, 80 ≤ mean → mean ≤ 4093 →
    (dref = 0 → learned dref mean = 16 * mean) ∧
    (1280 ≤ dref → dref ≤ 65488 →
      1280 ≤ learned dref mean ∧ learned dref mean ≤ 65488 ∧
      (dref ≤ 16 * mean → learned dref mean = dref + (16 * mean - dref) / 64) ∧
      (16 * mean ≤ dref → learned dref mean = dref - (dref - 16 * mean) / 64)))

/-- A turn of an ABSENT pair, or of a PARKED one whose check matches, changes nothing; one of a pair in TEST_ACCESS
advances its scans taken and nothing else, and at the twentieth closes an interval that is not weighed (R5, R18, R19,
R75). -/
def Obligations.UnsampledTurns : Prop :=
  ∀ (s : State) (p : Pair) (tip ring : Int), s.running = true →
    (s.service p = .absent → exec (.scanTurn p tip ring) s = .next s) ∧
    (s.service p = .parked → (s.pair p).check = true → exec (.scanTurn p tip ring) s = .next s) ∧
    (s.service p = .equipped → (s.pair p).check = true → (s.pair p).freeze = .access →
      ((s.pair p).acc.scans < 19 →
        exec (.scanTurn p tip ring) s = .next (s.setPair p
          { s.pair p with acc := { (s.pair p).acc with scans := (s.pair p).acc.scans + 1 } })) ∧
      (19 ≤ (s.pair p).acc.scans →
        exec (.scanTurn p tip ring) s =
          .next ((s.setPair p { s.pair p with acc := Accumulator.empty }).placeLineEvents p)))

/-- A sampled turn away from an interval close, on a pair that is not frozen, with no receiver to tell and no feed
freeze beginning: the record by the loop table of section 3.9 (R37, R38, R40 to R43, R46), the feed-dead run by R52,
and nothing else but the pair's LINE EVENTS item and its receiver's note of the audio. -/
def Obligations.LoopTurns : Prop :=
  ∀ (s : State) (p : Pair) (tip ring : Int), s.samples p → (s.pair p).freeze = .unfrozen →
    let r := (s.pair p).sample (senseReading tip) (senseReading ring)
    let closed := r.classMemory = .closed ∧ ¬(r.loop = .onHook ∧ r.ringingHold = true)
    let after := fun r' : PairRecord => (Host.Outcome.next
      (((s.setPair p { r' with feedDead := if r.classMemory = .dead then r.feedDead + 1 else 0 }).placeLineEvents
        p).noteAudio p) : Host.Outcome State Fault Refusal)
    (r.classMemory = .dead → r.feedDead < 19) →
    (r.loop = .onHook → closed → exec (.scanTurn p tip ring) s = after { r with loop := .seizePending, closedRun := 1 }) ∧
    (r.loop = .onHook → ¬closed → exec (.scanTurn p tip ring) s = after { r with closedRun := 0 }) ∧
    (r.loop = .seizePending → closed → r.closedRun < 7 →
      exec (.scanTurn p tip ring) s = after { r with closedRun := r.closedRun + 1 }) ∧
    (r.loop = .seizePending → ¬closed →
      exec (.scanTurn p tip ring) s = after { r with loop := .onHook, closedRun := 0 }) ∧
    (r.loop = .offHook → ¬closed →
      exec (.scanTurn p tip ring) s = after { r with loop := .inBreak, breakLength := 1, beforeBreak := .offHook }) ∧
    (r.loop = .inBreak → ¬closed → r.breakLength < 160 →
      exec (.scanTurn p tip ring) s = after { r with breakLength := r.breakLength + 1 }) ∧
    (r.loop = .inBreak → closed → r.beforeBreak = .offHook → 4 ≤ r.breakLength → r.breakLength ≤ 24 →
      exec (.scanTurn p tip ring) s = after { r with
        loop := .offHook, breakLength := 0, pulseCount := min 15 (r.pulseCount + 1), dialled := true, closedRun := 1 }) ∧
    (r.loop = .inBreak → closed → r.beforeBreak = .offHook → 25 ≤ r.breakLength →
      exec (.scanTurn p tip ring) s = after { r.append s.now .flash r.pulseCount with
        loop := .offHook, breakLength := 0, pulseCount := 0, lockoutTimer := 0, closedRun := 1 }) ∧
    (r.loop = .inBreak → closed → r.beforeBreak = .lockout →
      exec (.scanTurn p tip ring) s = after { r with loop := .lockout, breakLength := 0 }) ∧
    (r.loop = .lockout → closed → exec (.scanTurn p tip ring) s = after r) ∧
    (r.loop = .lockout → ¬closed →
      exec (.scanTurn p tip ring) s = after { r with loop := .inBreak, breakLength := 1, beforeBreak := .lockout })

/-- A CLOSED sample of an OFF_HOOK pair, away from an interval close: where it neither completes a digit nor brings
lockout, the closed run rises to at most 30 and the lockout timer by 5 ms unless a digit has been dialled, a break of
at most 3 samples being a hit (R39, R42, R45). The thirtieth with pulses pending completes the digit, DIGIT_PULSE with
the count, 0 for ten, or DIGIT_ERROR above ten. A lockout timer that reaches 30 s brings LOCKOUT with PERMANENT_LOOP
latched (R46, R47), and the fault state is evaluated on that change alone (R82): FAULT 3 with a claim from CLEAR or
RECOVERING, nothing while another class keeps the pair FAULTED. The claim is told for a pair with none where this
station does not own the key. A completed digit and the entry to LOCKOUT end the pair's business with the tone pool: a
pair that holds no receiver leaves the wait list, if it stands on it (R59); a receiver it holds goes IDLE when no pair
waits, and otherwise to the pair at the head of the list with RECEIVER_LATE and its wait in whole seconds up to 15
(R60, R62). -/
def Obligations.OffHookTurnsAndDigits : Prop :=
  (∀ (s : State) (p : Pair),
     ((s.pair p).receiver = none →
       s.dropReceiver p = { s with waitList := s.waitList.filter fun w => w.pair != p }) ∧
     (∀ i : ReceiverNo, (s.pair p).receiver = some i → (s.receiver i).pair = some p →
       let freed := s.modPair p fun x => { x with receiver := none }
       (s.waitList = [] → s.dropReceiver p = freed.setReceiver i
         { state := .idle, pair := none, candidate := none, run := 0, assigned := none, lastDigit := none
           spoiled := false }) ∧
       (∀ (q : Pair) (since : Nat) (rest : List Waiting), q ≠ p →
         s.waitList = { pair := q, since := since } :: rest →
         s.dropReceiver p =
           ((({ freed with waitList := rest }.modPair q fun x =>
             ({ x with receiver := some i } : PairRecord).append s.now .receiverLate
               (min 15 ((s.now - since) / 1000))).setReceiver i
             { state := .listen, pair := some q, candidate := none, run := 0, assigned := some s.now, lastDigit := none
               spoiled := (s.pair q).loop == LoopState.inBreak || (s.pair q).freeze != FreezeCause.unfrozen
               }).placeLineEvents q)))) ∧
  (∀ (s : State) (p : Pair) (tip ring : Int), s.samples p → (s.pair p).freeze = .unfrozen →
     let r := (s.pair p).sample (senseReading tip) (senseReading ring)
     let timer := if r.dialled = true then r.lockoutTimer else r.lockoutTimer + 5
     r.classMemory = .closed →
     (r.loop = .offHook ∨ (r.loop = .inBreak ∧ r.beforeBreak = .offHook ∧ r.breakLength ≤ 3)) →
     ¬(0 < r.pulseCount ∧ r.closedRun = 29) → timer < 30000 →
     exec (.scanTurn p tip ring) s = .next
       (((s.setPair p { r with
           loop := .offHook, breakLength := if r.loop = .inBreak then 0 else r.breakLength
           closedRun := min 30 (r.closedRun + 1), lockoutTimer := timer, feedDead := 0 }).placeLineEvents p).noteAudio p)) ∧
  (∀ (s : State) (p : Pair) (tip ring : Int), s.samples p → (s.pair p).freeze = .unfrozen →
     let r := (s.pair p).sample (senseReading tip) (senseReading ring)
     r.classMemory = .closed → r.loop = .offHook → r.closedRun = 29 → 0 < r.pulseCount →
     (∀ i, r.receiver = some i → (s.receiver i).pair = some p ∧ ∀ w ∈ s.waitList, w.pair ≠ p) →
     exec (.scanTurn p tip ring) s = .next
       (((s.setPair p
         { (if r.pulseCount ≤ 9 then r.append s.now .digitPulse r.pulseCount
             else if r.pulseCount = 10 then r.append s.now .digitPulse 0
             else r.append s.now .digitError r.pulseCount) with
           closedRun := 30, pulseCount := 0, dialled := true, feedDead := 0 }).placeLineEvents p).dropReceiver p)) ∧
  (∀ (s : State) (p : Pair) (tip ring : Int), s.samples p → (s.pair p).freeze = .unfrozen →
     let r := (s.pair p).sample (senseReading tip) (senseReading ring)
     let locked := { r.append s.now .lockout 0 with
       loop := .lockout, breakLength := if r.loop = .inBreak then 0 else r.breakLength, closedRun := 0, pulseCount := 0
       lockoutTimer := 30000, latched := { r.latched with permanentLoop := true }, feedDead := 0 }
     let out := ((s.setPair p locked).placeLineEvents p).dropReceiver p
     r.classMemory = .closed →
     (r.loop = .offHook ∨ (r.loop = .inBreak ∧ r.beforeBreak = .offHook ∧ r.breakLength ≤ 3)) →
     ¬(0 < r.pulseCount ∧ r.closedRun = 29) → r.dialled = false → 29995 ≤ r.lockoutTimer →
     r.latched.permanentLoop = false →
     (∀ i, r.receiver = some i → (s.receiver i).pair = some p ∧ ∀ w ∈ s.waitList, w.pair ≠ p) →
     (pairClass r.latched = none → (r.fault = .clear ∨ r.fault = .recovering) → r.claim = .unclaimed →
       s.ownedEntry (s.pairKey p .permanentLoop) = none →
       exec (.scanTurn p tip ring) s = .next
         ((((out.setPair p (({ out.pair p with
             fault := .faulted, recovery := if r.fault = .recovering then 0 else r.recovery } : PairRecord).append s.now
               .fault 3)).placeLineEvents p).claimPending p .permanentLoop).settle)) ∧
     (∀ k, pairClass r.latched = some k → r.fault = .faulted → exec (.scanTurn p tip ring) s = .next out))

/-- The eighth consecutive CLOSED sample seizes the pair, and it is lent the lowest-numbered IDLE receiver, or waits at
the tail of the list when none is IDLE; the 161st sample of an open loop hangs the pair up, and its receiver goes IDLE
or to the head of the wait list, or its own place on the list is given up (R38, R41, R58 to R60, R62). A break begun in
LOCKOUT that reaches 161 also unlatches PERMANENT_LOOP, and the fault state is evaluated on that change alone: FAULTED
goes to RECOVERING where no other class is latched (R47, R82). -/
def Obligations.SeizureAndHangUp : Prop :=
  (∀ (s : State) (p : Pair) (tip ring : Int), s.samples p → (s.pair p).freeze = .unfrozen →
     let r := (s.pair p).sample (senseReading tip) (senseReading ring)
     let seized := ((s.setPair p { r.append s.now .offhook 0 with
       loop := .offHook, closedRun := 8, lockoutTimer := 0, dialled := false, pulseCount := 0, breakLength := 0
       feedDead := 0 }).placeLineEvents p)
     r.classMemory = .closed → r.loop = .seizePending → r.closedRun = 7 → r.receiver = none →
     (∀ w ∈ s.waitList, w.pair ≠ p) →
     (∀ i : ReceiverNo, (s.receiver i).state = .idle → (∀ j : ReceiverNo, j < i → (s.receiver j).state ≠ .idle) →
       exec (.scanTurn p tip ring) s = .next
         ((seized.modPair p fun x => { x with receiver := some i }).setReceiver i
           { state := .listen, pair := some p, candidate := none, run := 0, assigned := some s.now, lastDigit := none
             spoiled := false })) ∧
     ((∀ i : ReceiverNo, (s.receiver i).state ≠ .idle) →
       exec (.scanTurn p tip ring) s = .next
         { seized with waitList := s.waitList ++ [{ pair := p, since := s.now }] })) ∧
  (∀ (s : State) (p : Pair) (tip ring : Int), s.samples p → (s.pair p).freeze = .unfrozen →
     let r := (s.pair p).sample (senseReading tip) (senseReading ring)
     let hung := ((s.setPair p { r.append s.now .onhook 0 with
       loop := .onHook, breakLength := 0, closedRun := 0, pulseCount := 0, feedDead := 0 }).placeLineEvents p)
     let idle : Receiver := {
       state := .idle, pair := none, candidate := none, run := 0, assigned := none, lastDigit := none, spoiled := false }
     r.classMemory = .openLoop → r.loop = .inBreak → r.beforeBreak = .offHook → r.breakLength = 160 →
     (∀ i, r.receiver = some i → (s.receiver i).pair = some p ∧ ∀ w ∈ s.waitList, w.pair ≠ p) →
     exec (.scanTurn p tip ring) s = .next (hung.dropReceiver p) ∧
     (∀ i, r.receiver = some i → s.waitList = [] →
       exec (.scanTurn p tip ring) s =
         .next ((hung.modPair p fun x => { x with receiver := none }).setReceiver i idle))) ∧
  (∀ (s : State) (p : Pair) (tip ring : Int), s.samples p → (s.pair p).freeze = .unfrozen →
     let r := (s.pair p).sample (senseReading tip) (senseReading ring)
     let rest := { r.latched with permanentLoop := false }
     let hung := { r.append s.now .onhook 0 with
       loop := .onHook, breakLength := 0, closedRun := 0, pulseCount := 0, latched := rest, feedDead := 0 }
     r.classMemory = .openLoop → r.loop = .inBreak → r.beforeBreak = .lockout → r.breakLength = 160 →
     (∀ i, r.receiver = some i → (s.receiver i).pair = some p ∧ ∀ w ∈ s.waitList, w.pair ≠ p) →
     r.latched.permanentLoop = true → r.fault = .faulted →
     let out := ((s.setPair p hung).placeLineEvents p).dropReceiver p
     (pairClass rest = none →
       exec (.scanTurn p tip ring) s = .next
         ((out.setPair p { out.pair p with fault := .recovering, recovery := 0 }).placeLineEvents p)) ∧
     (∀ k, pairClass rest = some k → exec (.scanTurn p tip ring) s = .next out))

/-- The twentieth consecutive DEAD sample of a pair in OFF_HOOK's break freezes it in OFF_HOOK; the fourth sample that
is not DEAD under the freeze brings feed back, with the runs at 0 and the loop state kept (R11, R52, R53). -/
def Obligations.FeedFreezeAndReturn : Prop :=
  ∀ (s : State) (p : Pair) (tip ring : Int), s.samples p →
    let r := (s.pair p).sample (senseReading tip) (senseReading ring)
    ((s.pair p).freeze = .unfrozen → r.classMemory = .dead → r.feedDead = 19 → r.loop = .inBreak → r.breakLength < 160 →
      exec (.scanTurn p tip ring) s = .next
        (((s.setPair p { r.append s.now .feedLost 0 with
          loop := r.beforeBreak, breakLength := 0, freeze := .feed, stale := true, feedDead := 0
          feedBack := 0 }).placeLineEvents p).noteAudio p)) ∧
    ((s.pair p).freeze = .unfrozen → r.classMemory = .dead → r.feedDead = 19 → r.loop = .onHook ∨ r.loop = .seizePending →
      exec (.scanTurn p tip ring) s = .next
        (((s.setPair p { r.append s.now .feedLost 0 with
          loop := .onHook, closedRun := 0, freeze := .feed, stale := true, feedDead := 0
          feedBack := 0 }).placeLineEvents p).noteAudio p)) ∧
    ((s.pair p).freeze = .feed → r.classMemory = .dead →
      exec (.scanTurn p tip ring) s = .next
        (((s.setPair p { r with feedBack := 0 }).placeLineEvents p).noteAudio p)) ∧
    ((s.pair p).freeze = .feed → r.classMemory ≠ .dead → r.feedBack < 3 →
      exec (.scanTurn p tip ring) s = .next
        (((s.setPair p { r with feedBack := r.feedBack + 1 }).placeLineEvents p).noteAudio p)) ∧
    ((s.pair p).freeze = .feed → r.classMemory ≠ .dead → r.feedBack = 3 →
      exec (.scanTurn p tip ring) s = .next
        (((s.setPair p { r.append s.now .feedBack 0 with
          freeze := .unfrozen, stale := false, closedRun := 0, breakLength := 0, feedBack := 0
          feedDead := 0 }).placeLineEvents p).noteAudio p))

/-! ### The close of an interval -/

/-- The ringing hold at a close (R48 to R50): a frozen pair's is left alone; a ringing interval sets it with RING_ON
and returns SEIZE_PENDING to ON_HOOK; the second quiet one clears it with RING_OFF. The fault integrator learns D_ref16
at a weighed close by R32, and does nothing at one in ACCESS (R75). The turn whose sample is the twentieth carries both
out, appends RING_ON or RING_OFF, and empties the accumulator (R29, R30), told for an ON_HOOK pair with no receiver
whose fault state asks nothing of the claim logic at this close. -/
def Obligations.RingingHoldAtClose : Prop :=
  (∀ (r : PairRecord) (i : IntervalRecord),
    (i.freeze ≠ .unfrozen → ringingClose r i = (r, none)) ∧
    (i.freeze = .unfrozen → i.ringing = true → r.ringingHold = true →
      ringingClose r i = ({ r with quietCount := 0 }, none)) ∧
    (i.freeze = .unfrozen → i.ringing = true → r.ringingHold = false → r.loop = .seizePending →
      ringingClose r i =
        ({ r with loop := .onHook, closedRun := 0, ringingHold := true, quietCount := 0 }, some .ringOn)) ∧
    (i.freeze = .unfrozen → i.ringing = true → r.ringingHold = false → r.loop ≠ .seizePending →
      ringingClose r i = ({ r with ringingHold := true, quietCount := 0 }, some .ringOn)) ∧
    (i.freeze = .unfrozen → i.ringing = false → r.ringingHold = false → ringingClose r i = (r, none)) ∧
    (i.freeze = .unfrozen → i.ringing = false → r.ringingHold = true → r.quietCount = 0 →
      ringingClose r i = ({ r with quietCount := 1 }, none)) ∧
    (i.freeze = .unfrozen → i.ringing = false → r.ringingHold = true → r.quietCount = 1 →
      ringingClose r i = ({ r with ringingHold := false, quietCount := 0 }, some .ringOff))) ∧
  (∀ (r : PairRecord) (i : IntervalRecord),
    (i.freeze = .access → integrateClose r i = (r, .quiet)) ∧
    (i.freeze ≠ .access →
      (integrateClose r i).1.dref16 = learn r.dref16 (integrateClose r i).1.groundLeak i)) ∧
  (∀ (s : State) (p : Pair) (tip ring : Int), s.running = true → s.service p = .equipped → (s.pair p).check = true →
    (s.pair p).freeze = .unfrozen → (s.pair p).acc.scans = 19 → (s.pair p).receiver = none → (s.pair p).loop = .onHook →
    let r := (s.pair p).sample (senseReading tip) (senseReading ring)
    let i := intervalRecord r.acc .unfrozen
    let close := fun (x : PairRecord) => integrateClose
      { x with closedRun := 0, feedDead := 0, acc := Accumulator.empty } i
    let written := fun (x : PairRecord) =>
      (Host.Outcome.next ((s.setPair p x).placeLineEvents p) : Host.Outcome State Fault Refusal)
    r.classMemory = .openLoop →
    (i.ringing = true → r.ringingHold = false →
      let c := close { r with ringingHold := true, quietCount := 0 }
      c.2 = .quiet → exec (.scanTurn p tip ring) s = written (c.1.append s.now .ringOn 0)) ∧
    (i.ringing = false → r.ringingHold = true → r.quietCount = 1 →
      let c := close { r with ringingHold := false, quietCount := 0 }
      c.2 = .quiet → exec (.scanTurn p tip ring) s = written (c.1.append s.now .ringOff 0)) ∧
    (i.ringing = false → r.ringingHold = false →
      let c := close r
      c.2 = .quiet → exec (.scanTurn p tip ring) s = written c.1))

/-- The three integrators at a weighed close: FEED_LOSS by the DEAD count (R76), FOREIGN by its evidence (R77),
GROUND_LEAK by the first case that holds (R78). -/
def Obligations.IntegratorsAtClose : Prop :=
  (∀ (r : PairRecord) (i : IntervalRecord), r.feedLoss ≤ 15 → (i.freeze = .unfrozen ∨ i.freeze = .feed) →
     let n := (integrateClose r i).1.feedLoss
     (11 ≤ i.dead → r.feedLoss < 15 → n = r.feedLoss + 1) ∧ (11 ≤ i.dead → r.feedLoss = 15 → n = 15) ∧
     (i.dead < 11 → 0 < r.feedLoss → n = r.feedLoss - 1) ∧ (i.dead < 11 → r.feedLoss = 0 → n = 0)) ∧
  (∀ (r : PairRecord) (i : IntervalRecord), r.foreign ≤ 15 → (i.freeze = .unfrozen ∨ i.freeze = .feed) →
     let evidence := 11 ≤ i.positive ∨ 1 ≤ i.clipped ∨ (40 < i.swingC ∧ i.ringing = false)
     let n := (integrateClose r i).1.foreign
     (evidence → r.foreign < 15 → n = r.foreign + 1) ∧ (evidence → r.foreign = 15 → n = 15) ∧
     (¬evidence → 0 < r.foreign → n = r.foreign - 1) ∧ (¬evidence → r.foreign = 0 → n = 0)) ∧
  (∀ (r : PairRecord) (i : IntervalRecord), r.groundLeak ≤ 15 → (i.freeze = .unfrozen ∨ i.freeze = .feed) →
     let n := (integrateClose r i).1.groundLeak
     (i.ringing = true → n = r.groundLeak) ∧
     (i.ringing = false → 11 ≤ i.sag → r.groundLeak < 15 → n = r.groundLeak + 1) ∧
     (i.ringing = false → 11 ≤ i.sag → r.groundLeak = 15 → n = 15) ∧
     (i.ringing = false → i.sag < 11 → i.opened < 11 → n = r.groundLeak) ∧
     (i.ringing = false → i.sag < 11 → 11 ≤ i.opened → 0 < r.groundLeak → n = r.groundLeak - 1) ∧
     (i.ringing = false → i.sag < 11 → 11 ≤ i.opened → r.groundLeak = 0 → n = 0))

/-- At a weighed close each class with an integrator is latched at 12, unlatched at 0 and kept between, PERMANENT_LOOP
is left alone, and the pair class is the highest-ranked member (R79, R80). The steps of the fault state (the table of
R81, with R83): what the state and the recovery count become, what is asked of the claim logic, and that nothing else of
the record changes. -/
def Obligations.LatchesPairClassAndFaultState : Prop :=
  (∀ (r : PairRecord) (i : IntervalRecord), (i.freeze = .unfrozen ∨ i.freeze = .feed) →
    let t := (integrateClose r i).1
    (r.latched.foreign = false → t.latched.foreign = decide (12 ≤ t.foreign)) ∧
    (r.latched.foreign = true → t.latched.foreign = decide (t.foreign ≠ 0)) ∧
    (r.latched.feedLoss = false → t.latched.feedLoss = decide (12 ≤ t.feedLoss)) ∧
    (r.latched.feedLoss = true → t.latched.feedLoss = decide (t.feedLoss ≠ 0)) ∧
    (r.latched.groundLeak = false → t.latched.groundLeak = decide (12 ≤ t.groundLeak)) ∧
    (r.latched.groundLeak = true → t.latched.groundLeak = decide (t.groundLeak ≠ 0)) ∧
    t.latched.permanentLoop = r.latched.permanentLoop) ∧
  (∀ l : LatchedSet,
    (l.foreign = true → pairClass l = some .foreign) ∧
    (l.foreign = false → l.feedLoss = true → pairClass l = some .feedLoss) ∧
    (l.foreign = false → l.feedLoss = false → l.groundLeak = true → pairClass l = some .groundLeak) ∧
    (l.foreign = false → l.feedLoss = false → l.groundLeak = false → l.permanentLoop = true →
      pairClass l = some .permanentLoop) ∧
    (l.foreign = false → l.feedLoss = false → l.groundLeak = false → l.permanentLoop = false → pairClass l = none)) ∧
  (∀ (r : PairRecord) (before after : Option FaultClass) (weighed : Bool) (k : FaultClass),
     (r.fault = .clear → after = some k →
       evaluateFault r before after weighed = ({ r with fault := .faulted }, .entered k)) ∧
     (r.fault = .clear → after = none → evaluateFault r before after weighed = (r, .quiet)) ∧
     (r.fault = .faulted → after = some k → before = some k → evaluateFault r before after weighed = (r, .quiet)) ∧
     (r.fault = .faulted → after = some k → before ≠ some k → evaluateFault r before after weighed = (r, .turned k)) ∧
     (r.fault = .faulted → after = none →
       evaluateFault r before after weighed = ({ r with fault := .recovering, recovery := 0 }, .quiet)) ∧
     (r.fault = .recovering → after = some k →
       evaluateFault r before after weighed = ({ r with fault := .faulted, recovery := 0 }, .entered k)) ∧
     (r.fault = .recovering → after = none → weighed = false → evaluateFault r before after weighed = (r, .quiet)) ∧
     (r.fault = .recovering → after = none → weighed = true → r.recovery < 19 →
       evaluateFault r before after weighed = ({ r with recovery := r.recovery + 1 }, .quiet)) ∧
     (r.fault = .recovering → after = none → weighed = true → r.recovery = 19 →
       evaluateFault r before after weighed = ({ r with fault := .clear, recovery := 0 }, .cleared)))

/-- A close that brings the FOREIGN integrator of a healthy pair from 11 to 12, on its twentieth sample: FAULT 1 is
appended, the pair becomes FAULTED, and where this station does not own the key its claim becomes PENDING with the
first free tag from the pointer and one FAULT CLAIM item (R28 to R30, R77, R79, R81, R84, R85, R87). The close that
brings the recovery count to 20 with no class latched: the fault state becomes CLEAR with the count at 0, FAULT_CLEAR is
appended, and the pair's standing with incidents ends (R83, R89), told for an ON_HOOK pair with no receiver and no
ringing. -/
def Obligations.FaultAtCloseClaimsAndClears : Prop :=
  (∀ (s : State) (p : Pair) (tip ring : Int) (tag : Tag), s.running = true → s.service p = .equipped →
     (s.pair p).check = true → (s.pair p).freeze = .unfrozen → (s.pair p).loop = .onHook →
     (s.pair p).acc.scans = 19 → (s.pair p).foreign = 11 → (s.pair p).fault = .clear → (s.pair p).latched = .none →
     (s.pair p).feedLoss < 11 → (s.pair p).groundLeak < 11 → (s.pair p).ringingHold = false →
     (s.pair p).claim = .unclaimed → (s.pair p).receiver = none → (s.pair p).events.length < 8 →
     s.ownedEntry (s.pairKey p .foreign) = none → s.hasItem (.faultClaim p) = false →
     s.tagPointer = tag → s.tags.get tag = none →
     let r := (s.pair p).sample (senseReading tip) (senseReading ring)
     let i := intervalRecord r.acc .unfrozen
     r.classMemory = .openLoop → 1 ≤ i.clipped → i.ringing = false →
     ∃ t : State, exec (.scanTurn p tip ring) s = .next t.settle ∧
       t = { s with pairs := t.pairs, tags := t.tags, tagPointer := tag + 1, queue := t.queue } ∧
       (∀ q : Pair, q ≠ p → t.pair q = s.pair q) ∧
       (let x := t.pair p
        x.foreign = 12 ∧ x.latched = { LatchedSet.none with foreign := true } ∧ x.fault = .faulted ∧
        x.acc = Accumulator.empty ∧ x.claim = .pending ∧ x.claimTimer = none ∧
        x.events = (s.pair p).events ++
         [{ type := .fault, value := 1, seq := (s.pair p).nextSeq, time := s.now }] ∧
        x.nextSeq = (s.pair p).nextSeq + 1 ∧ x.loop = .onHook ∧ x.vTip = senseReading tip ∧
        x.vRing = senseReading ring ∧ x.check = true) ∧
       (∀ i : Tag, t.tags.get i = if i = tag then some { pair := p, cls := .foreign } else s.tags.get i) ∧
       t.item (.faultClaim p) = some (newItem (.faultClaim p)) ∧ t.hasItem (.lineEvents p) = true) ∧
  (∀ (s : State) (p : Pair) (tip ring : Int), s.running = true → s.service p = .equipped → (s.pair p).check = true →
     (s.pair p).freeze = .unfrozen → (s.pair p).acc.scans = 19 → (s.pair p).receiver = none → (s.pair p).loop = .onHook →
     (s.pair p).fault = .recovering → (s.pair p).recovery = 19 → (s.pair p).latched = .none →
     (s.pair p).feedLoss < 11 → (s.pair p).foreign < 11 → (s.pair p).groundLeak < 11 → (s.pair p).ringingHold = false →
     let r := (s.pair p).sample (senseReading tip) (senseReading ring)
     let i := intervalRecord r.acc .unfrozen
     let c := (integrateClose { r with closedRun := 0, feedDead := 0, acc := Accumulator.empty } i).1
     r.classMemory = .openLoop → i.ringing = false →
     c.fault = .clear ∧ c.recovery = 0 ∧ c.latched = .none ∧
     exec (.scanTurn p tip ring) s = .next
       ((((s.setPair p (c.append s.now .faultClear 0)).placeLineEvents p).endStanding p).settle))

/-! ### Tone receivers -/

/-- The energies of a block of 80 samples: of the eight frequencies from the model's tables of the coefficients of R65,
each of 80 entries from -4096 to 4096, and the total of R66. Er and r, Ec and c are the largest of four energies and
the lowest-numbered index that holds it (R67), and a block is valid for (r, c) exactly when level, purity, twist and
share hold on its energies (R68). A receiver at a block's completion: in LISTEN and CANDIDATE (R70), with the digit of
the held row and column at the fourth consecutive valid block (R69); in TONE_ON and ENDING no digit, and three blocks
not valid for the held digit end the tone (R71). -/
def Obligations.ToneDecision : Prop :=
  (∀ xs : List Int, xs.length = 80 →
    let sum := fun cs : List Int => ((List.range 80).map fun n => xs.getD n 0 * cs.getD n 0).sum
    let energy := fun cs sn : List Int => min 65535 ((sum cs * sum cs + sum sn * sum sn).toNat / 2 ^ 38)
    blockEnergies xs = {
      rows := [energy rowCos0 rowSin0, energy rowCos1 rowSin1, energy rowCos2 rowSin2, energy rowCos3 rowSin3]
      columns := [energy columnCos0 columnSin0, energy columnCos1 columnSin1, energy columnCos2 columnSin2,
        energy columnCos3 columnSin3]
      total := min 65535 ((sum xs).toNat * 5 / 2048) }) ∧
  (∀ cs ∈ [rowCos0, rowSin0, rowCos1, rowSin1, rowCos2, rowSin2, rowCos3, rowSin3, columnCos0, columnSin0, columnCos1,
      columnSin1, columnCos2, columnSin2, columnCos3, columnSin3],
    cs.length = 80 ∧ ∀ c ∈ cs, -4096 ≤ c ∧ c ≤ 4096) ∧
  (∀ e0 e1 e2 e3 : Nat,
     let es := [e0, e1, e2, e3]
     let x := strongest es
     (∀ e ∈ es, e ≤ x.1) ∧ es[x.2.val]? = some x.1 ∧ ∀ i : Fin 4, es[i.val]? = some x.1 → x.2 ≤ i) ∧
  (∀ (r0 r1 r2 r3 c0 c1 c2 c3 total : Nat) (r c : Fin 4),
     let rows := [r0, r1, r2, r3]
     let cols := [c0, c1, c2, c3]
     let er := (strongest rows).1
     let ec := (strongest cols).1
     judge { rows := rows, columns := cols, total := total } = some (r, c) ↔
       r = (strongest rows).2 ∧ c = (strongest cols).2 ∧ 24 ≤ er ∧ 24 ≤ ec ∧
       (∀ i : Fin 4, i ≠ r → 8 * rows.getD i.val 0 ≤ er) ∧ (∀ i : Fin 4, i ≠ c → 8 * cols.getD i.val 0 ≤ ec) ∧
       er ≤ 6 * ec ∧ ec ≤ 3 * er ∧ 3 * total ≤ 4 * (er + ec)) ∧
  (∀ (x : Receiver) (rc rc' : Fin 4 × Fin 4), rc' ≠ rc →
     (x.state = .listen → receiverBlock x (some rc) = ({ x with state := .candidate, candidate := some rc, run := 1 }, none)) ∧
     (x.state = .listen → receiverBlock x none = (x, none)) ∧
     (x.state = .candidate → x.candidate = some rc → x.run < 3 →
       receiverBlock x (some rc) = ({ x with run := x.run + 1 }, none)) ∧
     (x.state = .candidate → x.candidate = some rc → x.run = 3 →
       receiverBlock x (some rc) = ({ x with state := .toneOn, run := 0 }, some
         ([[1, 2, 3, 12], [4, 5, 6, 13], [7, 8, 9, 14], [10, 0, 11, 15]].flatten.getD (4 * rc.1.val + rc.2.val) 0))) ∧
     (x.state = .candidate → x.candidate = some rc' →
       receiverBlock x (some rc) = ({ x with candidate := some rc, run := 1 }, none)) ∧
     (x.state = .candidate → receiverBlock x none = ({ x with state := .listen, candidate := none, run := 0 }, none))) ∧
  (∀ (x : Receiver) (rc : Fin 4 × Fin 4) (v : Option (Fin 4 × Fin 4)), x.candidate = some rc →
     (x.state = .toneOn → v = some rc → receiverBlock x v = (x, none)) ∧
     (x.state = .toneOn → v ≠ some rc → receiverBlock x v = ({ x with state := .ending, run := 1 }, none)) ∧
     (x.state = .ending → v = some rc → receiverBlock x v = ({ x with state := .toneOn, run := 0 }, none)) ∧
     (x.state = .ending → v ≠ some rc → x.run < 2 → receiverBlock x v = ({ x with run := x.run + 1 }, none)) ∧
     (x.state = .ending → v ≠ some rc → x.run = 2 →
       receiverBlock x v = ({ x with state := .listen, candidate := none, run := 0 }, none)))

/-- The fourth consecutive block valid for the candidate reports its digit: DIGIT_TONE, the last-digit time and the
dialled flag in one step; a block with a sample from BREAK or a freeze is not valid, and any other completed block
moves the receiver alone (R63, R64, R70 to R72). That the pair's state at the block's end and the receiver's mark decide
what R64 lets go either way, and how the mark goes on, is the model's choice, log entry 12. A block that completes at
the very moment of the receiver's assignment is discarded unjudged (R61); that this is the block of the pair before is
log entry 46. -/
def Obligations.ToneBlocks : Prop :=
  ∀ (s : State) (i : ReceiverNo) (p : Pair) (samples : Vector Int 80), s.running = true →
    (s.receiver i).pair = some p →
    let x := s.receiver i
    let still := (s.pair p).loop ≠ .inBreak ∧ (s.pair p).freeze = .unfrozen
    let verdict := judge (blockEnergies (samples.toList.map audioSample))
    (∀ a, x.assigned = some a → s.now ≤ a → exec (.toneBlockComplete i samples) s = .next s) ∧
    ((∀ a, x.assigned = some a → a < s.now) →
      (∀ rc : Fin 4 × Fin 4, still → x.spoiled = false → verdict = some rc → x.state = .candidate →
        x.candidate = some rc → x.run = 3 →
        exec (.toneBlockComplete i samples) s = .next
          (((s.setReceiver i { x with state := .toneOn, run := 0, lastDigit := some s.now }).modPair p fun r =>
            ({ r with dialled := true } : PairRecord).append s.now .digitTone (toneDigit rc)).placeLineEvents p)) ∧
      (still → x.spoiled = false → (verdict.isNone = true ∨ x.state ≠ .candidate ∨ x.candidate ≠ verdict ∨ x.run < 3) →
        exec (.toneBlockComplete i samples) s = .next (s.setReceiver i (receiverBlock x verdict).1)) ∧
      (still → x.spoiled = true →
        exec (.toneBlockComplete i samples) s =
          .next (s.setReceiver i { (receiverBlock x none).1 with spoiled := false })) ∧
      (¬still →
        exec (.toneBlockComplete i samples) s =
          .next (s.setReceiver i { (receiverBlock x none).1 with spoiled := true })))

/-- Five seconds after its last digit, or 20 s after an assignment with no digit, a receiver is released: it goes IDLE
when no pair waits, and otherwise to the pair at the head of the list with RECEIVER_LATE and its wait in whole seconds
up to 15 (R61, R62). An expiry that meets the digit or the assignment of its own moment does nothing: the pause
restarted with that digit (R61; that the order of the commands stands for the order at one moment is the model's
choice, log entry 46). The clock at the expiry is log entry 2. -/
def Obligations.ReceiverTimersRelease : Prop :=
  ∀ (s : State) (i : ReceiverNo) (p : Pair), s.running = true → (s.receiver i).pair = some p →
    (∀ d, (s.receiver i).lastDigit = some d → s.now ≤ d → exec (.digitPauseExpiry i) s = .next s) ∧
    (∀ a, (s.receiver i).lastDigit = none → (s.receiver i).assigned = some a → s.now ≤ a →
      exec (.noDigitExpiry i) s = .next s) ∧
    (∀ (t : Nat) (c : Instr),
      ((c = .digitPauseExpiry i ∧ ∃ d, (s.receiver i).lastDigit = some d ∧ d < s.now ∧ t = d + 5000) ∨
        (c = .noDigitExpiry i ∧ (s.receiver i).lastDigit = none ∧
          ∃ a, (s.receiver i).assigned = some a ∧ a < s.now ∧ t = a + 20000)) →
      let now := max s.now t
      let freed : State := { (s.modPair p fun x => { x with receiver := none }) with now := now }
      (s.waitList = [] → exec c s = .next (freed.setReceiver i Receiver.idle)) ∧
      (∀ (q : Pair) (since : Nat) (rest : List Waiting), q ≠ p → s.waitList = { pair := q, since := since } :: rest →
        exec c s = .next
          ((({ freed with waitList := rest }.modPair q fun x =>
              ({ x with receiver := some i } : PairRecord).append now .receiverLate (min 15 ((now - since) / 1000))).setReceiver
                i
            { state := .listen, pair := some q, candidate := none, run := 0, assigned := some now, lastDigit := none
              spoiled := (s.pair q).loop == LoopState.inBreak || (s.pair q).freeze != FreezeCause.unfrozen }).placeLineEvents
                q)))

/-! ### The bus -/

/-- A START on the idle bus, in ACTIVE with nothing of this station's on the bus (R94, R105): with no eligible item
nothing is offered; a first eligible item has its content built and fixed. A LOCK, UNLOCK, QUIET, RELEASE, LEAVE and
FAULT CLAIM item carry what names them; a LINE EVENTS item carries the six oldest events with their ages, clearing the
discard mark (R14); a DEFERRED REPLY JOINED or DISSOLVED by the state of the entry (R125); an INCIDENT the entry as it
stands or its closing report, clearing the changed flag (R128); a TEST RESULT the stored outcome, with the legs for
DONE (R158); and a REPLY that is DENIED or to a command that acts the recorded status, with the previous service word
where the slot keeps one (R162). The frame sent bears this station's number as sender, the form and kind of the body
with the precedence it is sent with (R102), the length and the check of the body built, authority 2, and as target the
station that a QUIET, a RELEASE or a DEFERRED REPLY names, the sender of the command that a REPLY answers, and the
uplink unit for LINE EVENTS, INCIDENT and TEST RESULT (R13, R95, R125, R128, R141, R143, R162, R179). A lost
arbitration discards the content built and counts nothing; a withdrawn item leaves (R97, R108). -/
def Obligations.Contention : Prop :=
  (∀ s : State, s.station = .active → s.inFlight = none →
     let quiet : State := { s with abandoned := false }
     (s.queue.find? s.eligible = none → exec .contentionStart s = .next quiet) ∧
     (∀ x : Item, s.queue.find? s.eligible = some x →
       let built := fun (t : State) (b : Body) =>
         (Host.Outcome.next (t.updateItem (itemRef x.kind) fun y => { y with content := some b }) :
           Host.Outcome State Fault Refusal)
       (∀ b : Body,
         ((∃ k, x.kind = .lock k ∧ b = .lock) ∨ (x.kind = .unlock ∧ b = .unlock) ∨
           (∃ st pr cls, x.kind = .quiet st pr cls ∧ b = .quiet pr true cls) ∨
           (∃ st pr, x.kind = .release st pr ∧ b = .release pr) ∨
           (∃ p key, x.kind = .leave p key ∧ b = .leave key (pairNo p)) ∨
           (∃ p tag cls, x.kind = .faultClaim p ∧ s.tagOf p = some (tag, cls) ∧
             b = .faultClaim (s.pairKey p cls) (pairNo p) (BitVec.ofFin tag)
               (match (s.pair p).claim with
                 | .linked _ false => true
                 | _ => false))) →
         exec .contentionStart s = built quiet b) ∧
       (∀ p : Pair, x.kind = .lineEvents p → ∀ (e : Event) (rest : List Event), (s.pair p).events = e :: rest →
         exec .contentionStart s = built (quiet.modPair p fun r => { r with discard := false })
           (.lineEvents (pairNo p) e.seq (s.pair p).gap (s.pair p).stale
             (((s.pair p).events.take 6).map fun v =>
               { type := v.type, value := v.value, age := min 255 ((s.now - v.time) / 10) }))) ∧
       (∀ e st pr d key, x.kind = .deferredReply e st pr → (s.entry e).key = some key →
         ((s.entry e).defers.find? fun y => y.station == st && y.pair == pr) = some d →
         exec .contentionStart s = built quiet (.deferredReply d.tag d.pair key ((s.entry e).state != .free))) ∧
       (∀ e key, x.kind = .incident e → (s.entry e).check = true → (s.entry e).key = some key →
         let y := s.entry e
         let told : State := { quiet with
           entries := s.entries.set e.val { y with changed := false, check := true } e.isLt
           keyStore := s.keyStore.set e.val (some key) e.isLt }
         (∀ st, (y.state = .opened ∧ st = .opened) ∨ (y.state = .confirming ∧ st = .confirming) ∨
             (y.state = .confirmed ∧ st = .confirmed) ∨ (y.state = .clearing ∧ st = .clearing) →
           exec .contentionStart s = built told (.incident key st y.verdict false
             (min 255 (y.members.length + y.overflow))
             ((y.members.take 5).map fun m => { station := m.station, pair := m.pair, leaving := m.leaving }))) ∧
         (∀ c, y.state = .free → y.closing = some c →
           exec .contentionStart s = built told (.incident key .closed c.verdict c.forced 0 []))) ∧
       (∀ p outcome legs, x.kind = .testResult → s.bus.test = some { pair := p, phase := .ended outcome legs } →
         exec .contentionStart s = built quiet (.testResult (pairNo p) outcome
           (if outcome = .done then
             legs.map fun l => { vOff := l.vOff, resistance := l.measured.map LegMeasure.resistance }
           else []))) ∧
       (∀ i slot status, x.kind = .reply i → s.slot i = some slot → slot.status = some status →
         exec .contentionStart s = built quiet (.reply slot.command status
           (match slot.previousWord with
             | some word => .previousWord word
             | none => .nothing))))) ∧
  (∀ (s : State) (x : Item), s.sending x →
     (x.withdrawn = false → exec .arbitrationLost s = .next (s.updateItem (itemRef x.kind) fun y =>
       { y with content := none, withdrawn := false, superseded := false, orphaned := false })) ∧
     (x.withdrawn = true → exec .arbitrationLost s = .next (s.removeItem (itemRef x.kind)).settle)) ∧
  (∀ (s : State) (x : Item) (b : Body), s.inFlight = some x → x.content = some b →
     ∃ f : SentFrame, s.outgoing = some f ∧ f.kind = bodyKind b ∧ f.length = f.frame.body.length ∧
       f.frame.body = bodyBytes b ∧ f.frame.sender = s.straps.station ∧ f.frame.authority = 2 ∧
       f.frame.check = checkOf (rxCells f.kind f.frame) ∧
       ((∀ st pr cls, x.kind = .quiet st pr cls → f.frame.target = st) ∧
         (∀ st pr, x.kind = .release st pr → f.frame.target = st) ∧
         (∀ e st pr, x.kind = .deferredReply e st pr → f.frame.target = st) ∧
         (∀ i slot, x.kind = .reply i → s.slot i = some slot → f.frame.target = slot.sender) ∧
         ((∃ p, x.kind = .lineEvents p) ∨ (∃ e, x.kind = .incident e) ∨ x.kind = .testResult →
           f.frame.target = 15)) ∧
       (f.kind ∈ [FrameKind.short .lock, .short .unlock, .long .quiet, .long .release] → f.frame.precedence = 0) ∧
       (f.kind ∈ [FrameKind.short .faultClaim, .short .leave, .long .deferredReply] → f.frame.precedence = 1) ∧
       (f.kind = .long .reply → f.frame.precedence = 2) ∧ (f.kind = .long .lineEvents → f.frame.precedence = 3) ∧
       (f.kind ∈ [FrameKind.long .incident, .long .testResult] → f.frame.precedence = 4))

/-- What a REPLY to a query carries at its build, from the state as it then stands (R162): the record views of a pair
with its service word (R4, R163), IDENTITY and CONDITION (R164), the TEST BUS VIEW and the TONE POOL (R165), and the
view of an incident with the page asked for, or NO_SUCH (R166). An entry whose check fails at that reading is lost
(R131). That a QUERY INCIDENT finds its entry by the entry's own key and state, also where its check fails, and answers
NO_SUCH where none is found so, is the model's choice, log entry 42. -/
def Obligations.QueryRepliesBuilt : Prop :=
  ∀ (s : State) (x : Item) (i : Fin 4) (slot : ReplySlot), s.station = .active → s.inFlight = none →
    s.queue.find? s.eligible = some x → x.kind = .reply i → s.slot i = some slot → slot.status = none →
    let quiet : State := { s with abandoned := false }
    let built := fun (t : State) (status : Status) (view : View) =>
      (t.updateItem (.reply i) fun y => { y with content := some (.reply slot.command status view) } : State)
    let states := fun (status : Status) (view : View) => exec .contentionStart s = .next (built quiet status view)
    (∀ (index : BitVec 5) (part : BitVec 2), slot.command = .queryPair index part →
      (∀ p : Pair, toPair index = some p →
        let r := s.pair p
        let word : Int := match s.service p, r.claim with
          | .absent, _ => -2
          | .parked, _ => -1
          | .equipped, .linked cls false => classCode cls + 1
          | .equipped, .linked cls true => classCode cls + 5
          | .equipped, _ => 0
        (s.service p = .absent → states .absent .nothing) ∧
        (s.service p ≠ .absent → part = 0 → states .done (.line {
          serviceWord := word, loop := r.loop, freeze := r.freeze, ringingHold := r.ringingHold, dialled := r.dialled
          pulseCount := r.pulseCount, loopRun := if r.loop = .inBreak then r.breakLength else r.closedRun
          lockoutSeconds := r.lockoutTimer / 1000, receiver := r.receiver, inAccess := s.inAccess p
          vTip := r.vTip, vRing := r.vRing, eventCount := r.events.length, nextSeq := r.nextSeq, gap := r.gap
          stale := r.stale })) ∧
        (s.service p ≠ .absent → part = 1 → states .done (.fault {
          serviceWord := word, fault := r.fault, recovery := r.recovery, latched := r.latched, feedLoss := r.feedLoss
          foreign := r.foreign, groundLeak := r.groundLeak, dref16 := r.dref16, claim := r.claim
          tag := match r.claim with
            | .pending => s.tagOf p
            | .deferred _ => s.tagOf p
            | _ => none
          timerSeconds := r.claimTimer.map fun t => min 63 ((t - s.now) / 1000) })) ∧
        (s.service p ≠ .absent → part ≠ 0 → part ≠ 1 → states .noSuch .nothing)) ∧
      (index = 24 → part = 0 → states .done (.identity s.straps)) ∧
      (index = 25 → part = 0 → states .done (.condition (slot.stationAtTaking == some .active) s.unit.failed
        (match s.integrityAt with
          | some t => decide (s.now - t < 10000)
          | none => false)
        ((allEntries.filter fun e => (s.entry e).state != .free).length))) ∧
      (index = 26 → part = 0 → states .done (.testBus {
        view := match s.bus.view with
          | .free => .free
          | .held h t => .held h (min 15 ((s.now - t) / 1000))
          | .mine => .mine (min 15 ((s.now - s.bus.lastAccepted.getD s.now) / 1000))
        restraint := s.bus.restraint.isSome, releaseWait := s.bus.releaseWait.isSome
        access := s.bus.access.map fun a => (a.pair, a.holder)
        run := match s.bus.run with
          | none => .absent
          | some { entry := _, key := k, deadline := none } => .running k
          | some { entry := _, key := k, deadline := some _ } => .waiting k
        tested := s.bus.tested, faulted := s.bus.faulted
        slot := match s.bus.test with
          | none => .empty
          | some { pair := p, phase := .waiting _ } => .waiting p
          | some { pair := p, phase := .running } => .running p
          | some { pair := p, phase := .ended outcome _ } => .ended p outcome
        vCal := s.unit.vCal, calibrationPassed := s.unit.calibrationPassed })) ∧
      (index = 26 → part = 1 → states .done (.lastMeasured s.unit.last)) ∧
      (index = 27 → part = 0 → states .done (.tonePool (s.receivers.toList.map fun z => (z.state, z.pair))
        s.waitList.length ((s.waitList.take 6).map fun w => (w.pair, min 15 ((s.now - w.since) / 1000))))) ∧
      ((28 ≤ index.toNat ∨ (24 ≤ index.toNat ∧ index ≠ 26 ∧ part ≠ 0) ∨ (index = 26 ∧ part ≠ 0 ∧ part ≠ 1)) →
        states .noSuch .nothing)) ∧
    (∀ (key : Key) (page : BitVec 3), slot.command = .queryIncident key page →
      ((∀ e : EntryNo, (s.entry e).key = some key → (s.entry e).state = .free ∧ (s.entry e).check = true) →
        states .noSuch .nothing) ∧
      (∀ e : EntryNo, s.ownedEntry key = some e →
        let y := s.entry e
        (y.check = true →
          ∀ st, (y.state = .opened ∧ st = .opened) ∨ (y.state = .confirming ∧ st = .confirming) ∨
              (y.state = .confirmed ∧ st = .confirmed) ∨ (y.state = .clearing ∧ st = .clearing) →
            states .done (.incident st y.verdict y.members.length y.overflow y.defers.length
              (((y.members.drop (6 * page.toNat)).take 6).map fun m =>
                { station := m.station, pair := m.pair, leaving := m.leaving }))) ∧
        (y.check = false →
          let t := (quiet.loseEntry e).settle
          t.running = true → exec .contentionStart s = .next (built t .noSuch .nothing))))

/-- A frame that is truncated while another station sends it, a frame of a kind that is not acted on, and a frame of a
kind that is not handled leave nothing behind but the cells this station drove, none (R94, R102). A frame of any checked
kind with a check error, with a length error or abandoned by this station is answered VOID and nothing else happens, and
one that another receiver voids is discarded with no cell driven (R96, R98, R100). One that bears this station's own
number and a right check puts it into FAILED: the relays open and the access ends, the queue, the incident table and the
reply slots are emptied, the view is FREE, and no cell is driven (R99, R177); that the claim logic's state and the
integrity error time stand, and that the LISTEN_IN timer stops, is the model's choice, log entries 43 and 44. -/
def Obligations.FramesIgnoredVoidedOrInConflict : Prop :=
  (∀ s : State, s.running = true →
     let after : State := { s with abandoned := false, cells := noCells }
     (s.inFlight = none → exec .frameTruncated s = .next after) ∧
     (∀ (kind : LongKind) (f : RxFrame), s.hears (.long kind) f → exec (.frameCheckedOnly kind f) s = .next after) ∧
     (∀ (long : Bool) (kind : BitVec 4), exec (.unhandledKindFrame long kind) s = .next after) ∧
     (∀ (kind : LongKind) (f : RxFrame), s.hears (.long kind) f → f.target ≠ s.straps.station →
       (kind = .deferredReply → exec (.deferredReplyReceived f) s = .next after) ∧
       (kind = .queryPair → exec (.queryPair f) s = .next after) ∧
       (kind = .park → exec (.park f) s = .next after) ∧ (kind = .restart → exec (.restart f) s = .next after))) ∧
  (∀ (c : Instr) (kind : FrameKind) (f : RxFrame) (s : State), receives c = some (kind, f) → s.running = true →
     (checkError kind f = true ∨ (f.sender ≠ s.straps.station ∧ (lengthError kind f = true ∨ s.abandoned = true)) →
       exec c s = .next { s with abandoned := false, cells := { noCells with void := true } }) ∧
     (checkError kind f = false → f.sender ≠ s.straps.station → lengthError kind f = false → s.abandoned = false →
       f.voidedByOther = true → exec c s = .next { s with abandoned := false, cells := noCells })) ∧
  (∀ (c : Instr) (kind : FrameKind) (f : RxFrame) (s : State), receives c = some (kind, f) → s.running = true →
     f.sender = s.straps.station → checkError kind f = false →
     ∃ t : State, exec c s = .next t ∧
       t = { s with
         station := .failed, listenUntil := none, queue := [], abandoned := false, cells := noCells, pairs := t.pairs
         entries := Vector.replicate 8 Entry.empty, keyStore := Vector.replicate 8 none
         slots := Vector.replicate 4 none
         bus := { s.bus with view := .free, lastAccepted := none, access := none }
         unit := { s.unit with
           connected := false, source := false, selector := .none, measurement := none, readingDue := none } } ∧
       ∀ p : Pair, t.pair p =
         if s.bus.access.map Access.pair = some p then
           { s.pair p with freeze := .unfrozen, closedRun := 0, breakLength := 0, feedDead := 0, check := true }
         else s.pair p)

/-! ### The test bus as it is heard -/

/-- What LOCK, UNLOCK and the snooped test-bus frames do to a station that does not hold the bus (R133, R134). -/
def Obligations.TestBusFramesHeard : Prop :=
  ∀ (s : State) (f : RxFrame), s.bus.view ≠ .mine →
    let read : State := { s with abandoned := false, cells := noCells }
    let acked : State := { s with abandoned := false, cells := { noCells with ack := true } }
    (s.hears (.short .lock) f →
      exec (.lockReceived f true) s = .next acked ∧
      exec (.lockReceived f false) s = .next (acked.setView (.held f.sender s.now)).settle) ∧
    (s.hears (.short .unlock) f → exec (.unlockReceived f) s = .next (acked.setView .free).settle) ∧
    (f.target ≠ s.straps.station →
      (s.hears (.long .quiet) f →
        exec (.testFrameSnooped .quiet f) s = .next (read.setView (.held f.sender s.now)).settle) ∧
      (s.hears (.long .release) f →
        exec (.testFrameSnooped .release f) s = .next (read.setView (.held f.sender s.now)).settle) ∧
      (s.hears (.long .testResult) f →
        (∀ t, s.bus.view = .held f.sender t →
          exec (.testFrameSnooped .testResult f) s = .next (read.setView (.held f.sender s.now)).settle) ∧
        ((∀ t, s.bus.view ≠ .held f.sender t) → exec (.testFrameSnooped .testResult f) s = .next read.settle)))

/-- A holder answers a LOCK with OWN and keeps its view; by its self-limit, by an UNLOCK, and by a QUIET or RELEASE of
another station it loses the lock (R133 to R135, R144, R146). Then a local access of its own pair ends; its item is
withdrawn, at once where its frame is not out, and the outcome of one that is out is to be discarded; the restraint
starts, the release wait stops, and the unit leaves the bus, its source open and a measurement discarded; a running
uplink test ends ABANDONED, and a waiting one waits on; a running or waiting confirmation run hands back tested 0 and
faulted 0, and its entry concludes UNTESTED with its retry timer, the leaving members removed and the defer list
answered (R124, R125). The run is told for an entry whose check matches and with a member that stays. R144 gives no
order to the end of a running uplink test and the run's handing back: that the test ends first, so that its TEST RESULT
is placed before the INCIDENT of the entry, is the model's choice, log entry 58. That the conclusion calls for a test
of R122, made by the station's next work, is log entry 20, and the clock at the self-limit log entry 2. -/
def Obligations.HolderHearsAndLosesLock : Prop :=
  ∀ (s : State) (f : RxFrame), s.running = true → s.bus.view = .mine →
    let read : State := { s with abandoned := false, cells := noCells }
    let acked : State := { s with abandoned := false, cells := { noCells with ack := true } }
    (s.hears (.short .lock) f → ∀ ownSeen : Bool,
      exec (.lockReceived f ownSeen) s = .next { acked with cells := { acked.cells with own := true } }) ∧
    ((∀ run, s.bus.run = some run → (s.entry run.entry).state = .confirming ∧ (s.entry run.entry).check = true ∧
        ∃ m ∈ (s.entry run.entry).members, m.leaving = false) →
      let freed := fun x : State =>
        match s.bus.access with
        | some a =>
          if a.holder = s.straps.station then
            ({ x.setPair a.pair
                { s.pair a.pair with freeze := .unfrozen, closedRun := 0, breakLength := 0, feedDead := 0 } with
              bus := { x.bus with access := none } } : State)
          else x
        | none => x
      let unqueued := fun x : State =>
        match s.item .testBus with
        | some y =>
          if y.content = none then x.removeItem .testBus
          else x.updateItem .testBus fun z => { z with withdrawn := true, orphaned := true }
        | none => x
      let left := fun (x : State) (view : BusHolder) => ({ x with
        bus := { x.bus with
          view := view, lastAccepted := none, restraint := some (x.now + 1000), releaseWait := none, remote := none
          unlockDue := false }
        unit := { x.unit with
          connected := false, source := false, selector := .none, measurement := none, readingDue := none } } : State)
      let ended := fun x : State =>
        match s.bus.test with
        | some { pair := p, phase := .running } =>
          ({ x with bus := { x.bus with test := some { pair := p, phase := .ended .abandoned [] } } } : State).place
            .testResult
        | _ => x
      let handed := fun x : State =>
        match s.bus.run with
        | some run =>
          let y := s.entry run.entry
          (({ x with
            dueTest := true
            bus := { x.bus with run := none, tested := 0, faulted := 0, position := 0 } } : State).writeEntry
            run.entry { y with
              verdict := .untested, state := .opened, members := y.members.filter fun m => !m.leaving
              retryTimer := some (x.now + 60000), changed := true }).answerDefers run.entry
        | none => x
      let lost := fun (x : State) (view : BusHolder) => handed (ended (left (unqueued (freed x)) view))
      (∀ view : BusHolder, s.loseLock view = lost s view) ∧
      (∀ t, s.bus.lastAccepted = some t →
        exec .selfLimitExpiry s = .next (lost { s with now := max s.now (t + 4000) } .free).settle) ∧
      (s.hears (.short .unlock) f → exec (.unlockReceived f) s = .next (lost acked .free).settle) ∧
      (f.target ≠ s.straps.station →
        (s.hears (.long .quiet) f →
          exec (.testFrameSnooped .quiet f) s = .next (lost read (.held f.sender s.now)).settle) ∧
        (s.hears (.long .release) f →
          exec (.testFrameSnooped .release f) s = .next (lost read (.held f.sender s.now)).settle)))

/-- A QUIET at its target: the view first, a holder losing the lock by it (R144), then nothing for a pair that is
ABSENT or names none, STALL by the five conditions of R138 as they then stand, and otherwise ACK with the access begun
(R134, R138, R139). A holder that is FAILED by an entry found lost in that loss answers nothing more (R131, R177). A
RELEASE at its target draws ACK whatever it names, and the access of the pair it names ends, the record clear of its
runs and no longer frozen; 3 s after an access began it ends in the same way, and where it was this station's own
access of a pair under measurement, the measurement is discarded, a confirmation run goes on to its next member, and an
uplink test ends ABANDONED (R54, R134, R140, R143, R154; the clock at that expiry is log entry 2). -/
def Obligations.AccessAtTarget : Prop :=
  (∀ (s : State) (f : RxFrame) (pr : PairNo) (confirmation : Bool) (cls : FaultClass), s.hears (.long .quiet) f →
     f.target = s.straps.station → bodyOf (.long .quiet) f.body = some (.quiet pr confirmation cls) →
     let read : State := { s with abandoned := false, cells := noCells }
     let seen : State := if s.bus.view = .mine then read.loseLock (.held f.sender s.now)
       else { read with bus := { s.bus with view := .held f.sender s.now } }
     ((toPair pr = none ∨ seen.running = false) → exec (.quietReceived f) s = .next seen.settle) ∧
     (∀ p : Pair, toPair pr = some p → seen.running = true →
       let r := seen.pair p
       let stalled := r.loop = .seizePending ∨ r.loop = .offHook ∨ r.loop = .inBreak ∨ r.receiver.isSome = true ∨
         r.freeze ≠ .unfrozen ∨ seen.bus.access.isSome = true ∨
         (confirmation = true ∧ ∀ owned : Bool, r.claim ≠ .linked cls owned)
       (s.service p = .absent → exec (.quietReceived f) s = .next seen.settle) ∧
       (s.service p ≠ .absent → stalled →
         exec (.quietReceived f) s = .next ({ seen with cells := { noCells with stall := true } } : State).settle) ∧
       (s.service p ≠ .absent → ¬stalled →
         exec (.quietReceived f) s = .next ({ seen.setPair p { r with freeze := .access } with
           cells := { noCells with ack := true }
           bus := { seen.bus with access := some { pair := p, holder := f.sender, began := s.now } } } : State).settle))) ∧
  (∀ (s : State) (f : RxFrame) (pr : PairNo), s.hears (.long .release) f → f.target = s.straps.station →
     (s.bus.view = .mine ∨ s.unit.measurement = none) → bodyOf (.long .release) f.body = some (.release pr) →
     let read : State := { s with abandoned := false, cells := noCells }
     let viewed : State := if s.bus.view = .mine then read.loseLock (.held f.sender s.now)
       else { read with bus := { s.bus with view := .held f.sender s.now } }
     let seen : State := { viewed with cells := { noCells with ack := true } }
     (viewed.running = false → exec (.releaseReceived f) s = .next viewed) ∧
     (viewed.running = true →
       ((∀ a, seen.bus.access = some a → toPair pr ≠ some a.pair) →
         exec (.releaseReceived f) s = .next seen.settle) ∧
       (∀ a, seen.bus.access = some a → toPair pr = some a.pair →
         exec (.releaseReceived f) s = .next ({ seen.setPair a.pair
             { seen.pair a.pair with freeze := .unfrozen, closedRun := 0, breakLength := 0, feedDead := 0 } with
           bus := { seen.bus with access := none } } : State).settle))) ∧
  (∀ (s : State) (a : Access), s.running = true → s.bus.access = some a →
     let freed : State := { s.setPair a.pair
         { s.pair a.pair with freeze := .unfrozen, closedRun := 0, breakLength := 0, feedDead := 0 } with
       now := max s.now (a.began + 3000), bus := { s.bus with access := none } }
     let stopped : State := { freed with unit := { s.unit with
       source := false, selector := .none, measurement := none, readingDue := none } }
     let elsewhere := ∀ m, s.unit.measurement = some m → ¬(m.station = s.straps.station ∧ m.pair = pairNo a.pair)
     (a.holder ≠ s.straps.station → elsewhere → exec .selfReleaseExpiry s = .next freed) ∧
     (a.holder = s.straps.station → elsewhere → exec .selfReleaseExpiry s = .next freed.settle) ∧
     (∀ m, a.holder = s.straps.station → s.unit.measurement = some m → m.station = s.straps.station →
       m.pair = pairNo a.pair →
       (m.forRun = true → exec .selfReleaseExpiry s =
         .next ({ stopped with bus := { stopped.bus with position := s.bus.position + 1 } } : State).settle) ∧
       (∀ p, m.forRun = false → s.bus.test = some { pair := p, phase := .running } → exec .selfReleaseExpiry s =
         .next (({ stopped with bus := { stopped.bus with
           test := some { pair := p, phase := .ended .abandoned [] } } } : State).place .testResult).settle)))

/-! ### Claims as they are heard -/

/-- A FAULT CLAIM read: ACK alone where the key is not owned; the owner's answer and its entry by R117 outside
CONFIRMING and by R118 in it. Outside CONFIRMING the entry takes the claim by the one operation that takes a local join
too (R85). -/
def Obligations.FaultClaimReceived : Prop :=
  ∀ (s : State) (f : RxFrame) (key : Key) (pr : PairNo) (tag : BitVec 5) (renew : Bool),
    s.hears (.short .faultClaim) f → bodyOf (.short .faultClaim) f.body = some (.faultClaim key pr tag renew) →
    let acked : State := { s with abandoned := false, cells := { noCells with ack := true } }
    let owned : State := { acked with cells := { acked.cells with own := true } }
    (s.ownedEntry key = none → exec (.faultClaimReceived f) s = .next acked) ∧
    (∀ e : EntryNo, s.ownedEntry key = some e → (s.entry e).check = true →
      let x := s.entry e
      let listed := ∃ m ∈ x.members, m.station = f.sender ∧ m.pair = pr
      let waiting := ∃ d ∈ x.defers, d.station = f.sender ∧ d.pair = pr
      let joined := fun y : Entry => (Host.Outcome.next (owned.writeEntry e
        (if y.state = .clearing then
          { y with state := if y.revivesConfirmed then .confirmed else .opened, clearHold := none, changed := true }
        else { y with changed := true })).settle : Host.Outcome State Fault Refusal)
      (x.state ≠ .confirming →
        exec (.faultClaimReceived f) s = .next (owned.joinEntry e f.sender pr renew).settle) ∧
      (x.state ≠ .confirming → listed →
        exec (.faultClaimReceived f) s = joined { x with
          members := x.members.map fun m =>
            if m.station = f.sender ∧ m.pair = pr then { m with renewed := s.now } else m }) ∧
      (x.state ≠ .confirming → ¬listed → x.members.length < 32 →
        exec (.faultClaimReceived f) s = joined { x with
          members := x.members ++ [{ station := f.sender, pair := pr, renewed := s.now, leaving := false }]
          overflow := if renew then x.overflow - 1 else x.overflow
          emptyTimer := none }) ∧
      (x.state ≠ .confirming → ¬listed → 32 ≤ x.members.length →
        exec (.faultClaimReceived f) s = joined { x with
          overflow := if renew then x.overflow else min 255 (x.overflow + 1) }) ∧
      (x.state = .confirming → listed →
        exec (.faultClaimReceived f) s = .next (owned.writeEntry e { x with
          members := x.members.map fun m =>
            if m.station = f.sender ∧ m.pair = pr then { m with renewed := s.now, leaving := false } else m
          changed := true }).settle) ∧
      (x.state = .confirming → ¬listed → waiting →
        exec (.faultClaimReceived f) s =
          .next (({ owned with cells := { owned.cells with defer := true } } : State).writeEntry e { x with
            defers := x.defers.map fun d =>
              if d.station = f.sender ∧ d.pair = pr then { d with tag := tag, renew := renew } else d }).settle) ∧
      (x.state = .confirming → ¬listed → ¬waiting → x.defers.length < 8 →
        exec (.faultClaimReceived f) s =
          .next (({ owned with cells := { owned.cells with defer := true } } : State).writeEntry e { x with
            defers := x.defers ++
              [{ station := f.sender, tag := tag, pair := pr, renew := renew, underAnswer := false }] }).settle) ∧
      (x.state = .confirming → ¬listed → ¬waiting → 8 ≤ x.defers.length →
        exec (.faultClaimReceived f) s =
          .next ({ owned with cells := { owned.cells with stall := true } } : State).settle))

/-- A LEAVE read draws ACK; at the owner a listed member is removed, or marked leaving in CONFIRMING, and an unlisted
one takes 1 from the overflow count; an OPEN or CONFIRMED entry left with nobody goes to CLEARING (R119, R121). The
entry takes the LEAVE by the one operation that takes a local leave too (R86). -/
def Obligations.LeaveReceived : Prop :=
  ∀ (s : State) (f : RxFrame) (key : Key) (pr : PairNo), s.hears (.short .leave) f →
    bodyOf (.short .leave) f.body = some (.leave key pr) →
    let acked : State := { s with abandoned := false, cells := { noCells with ack := true } }
    (s.ownedEntry key = none → exec (.leaveReceived f) s = .next acked) ∧
    (∀ e : EntryNo, s.ownedEntry key = some e → (s.entry e).check = true →
      let x := s.entry e
      let listed := ∃ m ∈ x.members, m.station = f.sender ∧ m.pair = pr
      let rest := x.members.filter fun m => !(m.station == f.sender && m.pair == pr)
      let left := fun y : Entry => (Host.Outcome.next (acked.writeEntry e
        (if (y.state = .opened ∨ y.state = .confirmed) ∧ y.members = [] ∧ y.overflow = 0 then
          { y with
            state := .clearing, revivesConfirmed := y.state == .confirmed, changed := true
            clearHold := some (s.now + 10000) }
        else y)) : Host.Outcome State Fault Refusal)
      exec (.leaveReceived f) s = .next (acked.leaveEntry e f.sender pr) ∧
      (listed → x.state ≠ .confirming →
        exec (.leaveReceived f) s = left { x with
          members := rest, changed := true
          emptyTimer := if rest = [] then some (s.now + 150000) else x.emptyTimer }) ∧
      (x.state = .confirming → (∃ m ∈ x.members, m.station = f.sender ∧ m.pair = pr ∧ m.leaving = false) →
        exec (.leaveReceived f) s = left { x with
          members := x.members.map fun m => if m.station = f.sender ∧ m.pair = pr then { m with leaving := true } else m
          changed := true }) ∧
      (¬listed → 0 < x.overflow →
        exec (.leaveReceived f) s = left { x with overflow := x.overflow - 1, changed := true }) ∧
      (¬listed → x.overflow = 0 → exec (.leaveReceived f) s = .next acked))

/-- A DEFERRED REPLY at its target is taken, with ACK, when its token is outstanding, the pair then LINKED or
HELD_OFF, and is not taken otherwise (R126). An INCIDENT report that is not CLOSED does nothing; a CLOSED one ends the
standing of the pair under its key, to HELD_OFF when forced and to a new claim when not (R129), told where at most one
pair stands under the key and, for the new claim, where this station does not own the key and a tag is free. -/
def Obligations.ClaimLogicFrames : Prop :=
  (∀ (s : State) (f : RxFrame) (tag : BitVec 5) (pr : PairNo) (key : Key) (joined : Bool),
     s.hears (.long .deferredReply) f → f.target = s.straps.station →
     bodyOf (.long .deferredReply) f.body = some (.deferredReply tag pr key joined) →
     let read : State := { s with abandoned := false, cells := noCells }
     (toPair pr = none → exec (.deferredReplyReceived f) s = .next read) ∧
     (∀ p : Pair, toPair pr = some p →
       let outstanding := (s.pair p).claim = .deferred tag.toFin ∧ s.tagOf p = some (tag.toFin, key.cls) ∧
         s.pairKey p key.cls = key
       (¬outstanding → exec (.deferredReplyReceived f) s = .next read) ∧
       (outstanding → exec (.deferredReplyReceived f) s = .next
         ((({ read with cells := { noCells with ack := true } } : State).retireTag p).setClaim p
           (if joined then .linked key.cls false else .heldOff) (some (s.now + 60000)))))) ∧
  (∀ (s : State) (f : RxFrame) (key : Key) (st : ReportedState) (v : Verdict) (forced : Bool) (n : Nat)
     (ms : List WireMember), s.hears (.long .incident) f →
     bodyOf (.long .incident) f.body = some (.incident key st v forced n ms) →
     let read : State := { s with abandoned := false, cells := noCells }
     let linked := fun q : Pair => s.pairKey q key.cls = key ∧ (s.pair q).claim = .linked key.cls false
     let deferred := fun q : Pair => s.pairKey q key.cls = key ∧ (∃ t, (s.pair q).claim = .deferred t) ∧
       (s.tagOf q).map Prod.snd = some key.cls
     (st ≠ .closed → exec (.incidentSnooped f) s = .next read) ∧
     (st = .closed → (∀ q : Pair, ¬linked q ∧ ¬deferred q) → exec (.incidentSnooped f) s = .next read.settle) ∧
     (st = .closed → ∀ p : Pair, (∀ q : Pair, q ≠ p → ¬linked q ∧ ¬deferred q) →
       let unlinked := (read.withdraw (.faultClaim p) markSuperseded).retireTag p
       (linked p → forced = true →
         exec (.incidentSnooped f) s = .next (unlinked.setClaim p .heldOff (some (s.now + 60000))).settle) ∧
       (deferred p → forced = true →
         exec (.incidentSnooped f) s = .next ((read.retireTag p).setClaim p .heldOff (some (s.now + 60000))).settle) ∧
       (linked p → forced = false → s.ownedEntry key = none → (∃ t, s.tags.get t = none) →
         exec (.incidentSnooped f) s =
           .next (((unlinked.setClaim p .unclaimed none).claimPending p key.cls)).settle) ∧
       (deferred p → forced = false → s.ownedEntry key = none → (∃ t, s.tags.get t = none) →
         exec (.incidentSnooped f) s =
           .next ((((read.retireTag p).setClaim p .unclaimed none).claimPending p key.cls)).settle)))

/-! ### Commands -/

/-- A command frame at its target: not taken with every slot occupied; DENIED, with the lowest free slot taken, below
the level it needs; and QUERY PAIR, QUERY INCIDENT and RESTART take the slot with nothing else done (R160 to R162,
R171). That a DENIED QUERY PAIR of index 25 keeps no station state is the model's choice, log entry 62. -/
def Obligations.CommandsTakeASlot : Prop :=
  ∀ (c : Instr) (k : LongKind) (f : RxFrame) (s : State) (cmd : Command), commandFrame c = some (k, f) →
    s.hears (.long k) f → f.target = s.straps.station → bodyOf (.long k) f.body = some (.command cmd) →
    let read : State := { s with abandoned := false, cells := noCells }
    let acked : State := { s with abandoned := false, cells := { noCells with ack := true } }
    let level := max f.authority.toNat (if f.sender = 15 then 0 else if f.sender = 14 then 1 else 2)
    let needed := match cmd with
      | .queryPair _ _ => 2
      | .queryIncident _ _ => 2
      | .testPair _ => 1
      | _ => 0
    ((∀ i : Fin 4, s.slot i ≠ none) → exec c s = .next read) ∧
    (∀ i : Fin 4, s.slot i = none → (∀ j : Fin 4, j < i → s.slot j ≠ none) →
      (needed < level → exec c s = .next ((acked.setSlot i (some
        { command := cmd, sender := f.sender, status := some .denied, previousWord := none, stationAtTaking := none
          restartMark := false })).place (.reply i))) ∧
      (∀ index part, cmd = .queryPair index part → level ≤ 2 →
        exec c s = .next ((acked.setSlot i (some
          { command := cmd, sender := f.sender, status := none, previousWord := none
            stationAtTaking := if index = 25 then some s.station else none, restartMark := false })).place (.reply i))) ∧
      (∀ key page, cmd = .queryIncident key page → level ≤ 2 →
        exec c s = .next ((acked.setSlot i (some
          { command := cmd, sender := f.sender, status := none, previousWord := none, stationAtTaking := none
            restartMark := false })).place (.reply i))) ∧
      (cmd = .restart → level = 0 →
        exec c s = .next ((acked.setSlot i (some
          { command := cmd, sender := f.sender, status := some .done, previousWord := none, stationAtTaking := none
            restartMark := true })).place (.reply i))))

/-- TEST PAIR taken with sufficient authority: ABSENT, UNIT_FAILED or BUSY, or ACCEPTED with the slot of the uplink
test taken and its deadline 30 s away (R136, R167). CLEAR INCIDENT: NO_SUCH where the key is not owned, told where no
FREE entry that still holds it fails its check; otherwise the entry is closed, forced, with its verdict in the closing
report: a confirmation run of it is abandoned, the pairs of this station linked to the key are held off in ascending
order, its defer list is answered, and the status is DONE (R113, R125, R130, R170). -/
def Obligations.TestPairAndClearIncident : Prop :=
  (∀ (f : RxFrame) (s : State) (pr : PairNo) (i : Fin 4), s.hears (.long .testPair) f → f.target = s.straps.station →
     bodyOf (.long .testPair) f.body = some (.command (.testPair pr)) →
     max f.authority.toNat (if f.sender = 15 then 0 else if f.sender = 14 then 1 else 2) ≤ 1 →
     s.slot i = none → (∀ j : Fin 4, j < i → s.slot j ≠ none) →
     let acked : State := { s with abandoned := false, cells := { noCells with ack := true } }
     let answered := fun (x : State) (st : Status) => (x.setSlot i (some
       { command := .testPair pr, sender := f.sender, status := some st, previousWord := none, stationAtTaking := none
         restartMark := false })).place (.reply i)
     (toPair pr = none → exec (.testPair f) s = .next (answered acked .absent)) ∧
     (∀ p : Pair, toPair pr = some p →
       (s.service p = .absent → exec (.testPair f) s = .next (answered acked .absent)) ∧
       (s.service p ≠ .absent → s.unit.failed = true → exec (.testPair f) s = .next (answered acked .unitFailed)) ∧
       (s.service p ≠ .absent → s.unit.failed = false → s.bus.test.isSome = true →
         exec (.testPair f) s = .next (answered acked .busy)) ∧
       (s.service p ≠ .absent → s.unit.failed = false → s.bus.test = none →
         exec (.testPair f) s = .next (answered { acked with
           bus := { s.bus with test := some { pair := p, phase := .waiting (s.now + 30000) } } } .accepted).settle))) ∧
  (∀ (f : RxFrame) (s : State) (key : Key) (i : Fin 4), s.hears (.long .clearIncident) f →
     f.target = s.straps.station → bodyOf (.long .clearIncident) f.body = some (.command (.clearIncident key)) →
     f.authority = 0 → f.sender = 15 → s.slot i = none → (∀ j : Fin 4, j < i → s.slot j ≠ none) →
     let read : State := { s with abandoned := false, cells := noCells }
     let answered := fun (x : State) (st : Status) =>
       (({ x with cells := { noCells with ack := true } } : State).setSlot i (some
         { command := .clearIncident key, sender := f.sender, status := some st, previousWord := none
           stationAtTaking := none, restartMark := false })).place (.reply i)
     (s.ownedEntry key = none → (∀ e : EntryNo, (s.entry e).key = some key → (s.entry e).check = true) →
       exec (.clearIncident f) s = .next (answered read .noSuch)) ∧
     (∀ e : EntryNo, s.ownedEntry key = some e → (s.entry e).check = true →
       let freed := read.writeEntry e { s.entry e with
         state := .free, revivesConfirmed := false, verdict := .unjudged, members := [], overflow := 0
         emptyTimer := none, retryTimer := none, clearHold := none, changed := true
         closing := some { verdict := (s.entry e).verdict, forced := true } }
       let closed := ((allPairs.foldl (State.unlinkOwn key true) (freed.abandonRun e)).answerDefers e).settle
       closed.running = true → exec (.clearIncident f) s = .next (answered closed .done)))

/-- PARK and UNPARK taken with sufficient authority (R8, R168, R169): the reply's status and previous service word (R4),
and, where the service changes, the record as in a fresh one but for its events, their numbering, the gap flag and the
discard mark. A PARK first ends the pair's standing with incidents: a PENDING pair's item is withdrawn and its tag
retired, a DEFERRED pair's tag is retired, a LINKED pair leaves by a LEAVE item or locally, a hold-off ends; and its
receiver is released or its place on the wait list given up (R59, R60). An UNPARK of a pair in access first ends the
access (R140), and where that was under measurement here, the measurement is discarded and an uplink test ends ABANDONED
(R143, R154). The standing is told for a pair with no receiver and on no list, and the receiver for a pair with no
claim; that the pair's record says which receiver is released is the model's choice where that record is disturbed, log
entry 55. -/
def Obligations.ParkAndUnpark : Prop :=
  ∀ (c : Instr) (k : LongKind) (cmd : Command) (f : RxFrame) (s : State) (pr : PairNo) (i : Fin 4),
    ((c = .park f ∧ k = .park ∧ cmd = .park pr) ∨ (c = .unpark f ∧ k = .unpark ∧ cmd = .unpark pr)) →
    s.hears (.long k) f → f.target = s.straps.station → bodyOf (.long k) f.body = some (.command cmd) →
    f.authority = 0 → f.sender = 15 → s.slot i = none → (∀ j : Fin 4, j < i → s.slot j ≠ none) →
    let read : State := { s with abandoned := false, cells := noCells }
    let answered := fun (x : State) (st : Status) (word : Option Int) =>
      (({ x with cells := { noCells with ack := true } } : State).setSlot i (some
        { command := cmd, sender := f.sender, status := some st, previousWord := word, stationAtTaking := none
          restartMark := false })).place (.reply i)
    (toPair pr = none → exec c s = .next (answered read .absent none)) ∧
    (∀ p : Pair, toPair pr = some p →
      let r := s.pair p
      let fresh := { PairRecord.initial with
        events := r.events, nextSeq := r.nextSeq, gap := r.gap, discard := r.discard }
      let parks := fun (ended : State) (word : Int) =>
        let parked := ((ended.setPair p fresh).setService p .parked).settle
        parked.running = true → exec c s = .next (answered parked .done (some word))
      let poolFree := r.receiver = none ∧ ∀ w ∈ s.waitList, w.pair ≠ p
      let unclaimed := r.claim = .unclaimed ∨ r.claim = .heldOff
      (s.service p = .absent → exec c s = .next (answered read .absent none)) ∧
      (s.service p = .parked → k = .park → exec c s = .next (answered read .done (some (-1)))) ∧
      (s.service p = .equipped → k = .unpark →
        (∀ word : Int, (((∀ cls owned, r.claim ≠ .linked cls owned) ∧ word = 0) ∨
            (∃ cls, r.claim = .linked cls false ∧ word = classCode cls + 1) ∨
            (∃ cls, r.claim = .linked cls true ∧ word = classCode cls + 5)) →
          exec c s = .next (answered read .done (some word)))) ∧
      (s.service p = .equipped → k = .park → s.inAccess p = true → exec c s = .next (answered read .busy none)) ∧
      (s.service p = .equipped → k = .park → s.inAccess p = false → poolFree →
        (unclaimed → parks read 0) ∧
        (r.claim = .pending → parks ((read.withdraw (.faultClaim p) markSuperseded).retireTag p) 0) ∧
        (∀ t, r.claim = .deferred t → parks (read.retireTag p) 0) ∧
        (∀ cls, r.claim = .linked cls false →
          parks (((read.withdraw (.faultClaim p) markSuperseded).retireTag p).place (.leave p (s.pairKey p cls)))
            (classCode cls + 1)) ∧
        (∀ cls e, r.claim = .linked cls true → s.ownedEntry (s.pairKey p cls) = some e → (s.entry e).check = true →
          parks (read.leaveEntry e s.straps.station (pairNo p)) (classCode cls + 5))) ∧
      (s.service p = .equipped → k = .park → s.inAccess p = false → unclaimed →
        (r.receiver = none → parks { read with waitList := s.waitList.filter fun w => w.pair != p } 0) ∧
        (∀ j, r.receiver = some j → (s.receiver j).pair = some p → s.waitList = [] →
          parks (read.setReceiver j Receiver.idle) 0) ∧
        (∀ j q since rest, r.receiver = some j → (s.receiver j).pair = some p → q ≠ p →
          s.waitList = { pair := q, since := since } :: rest →
          parks (({ read with waitList := rest }.lend j q).appendEvent q .receiverLate (min 15 ((s.now - since) / 1000)))
            0)) ∧
      (s.service p = .parked → k = .unpark → s.inAccess p = false →
        exec c s = .next (answered ((read.setPair p fresh).setService p .equipped) .done (some (-1)))) ∧
      (s.service p = .parked → k = .unpark → s.inAccess p = true →
        let back := fun x : State =>
          let u := ((x.setPair p fresh).setService p .equipped).settle
          u.running = true → exec c s = .next (answered u .done (some (-1)))
        let freed : State := { read with bus := { s.bus with access := none } }
        let stopped : State := { freed with unit := { s.unit with
          source := false, selector := .none, measurement := none, readingDue := none } }
        ((∀ m, s.unit.measurement = some m → ¬(m.station = s.straps.station ∧ m.pair = pr)) → back freed) ∧
        (∀ m, s.unit.measurement = some m → m.station = s.straps.station → m.pair = pr →
          (m.forRun = true → back { stopped with bus := { stopped.bus with position := s.bus.position + 1 } }) ∧
          (∀ q, m.forRun = false → s.bus.test = some { pair := q, phase := .running } →
            back (({ stopped with bus := { stopped.bus with
              test := some { pair := q, phase := .ended .abandoned [] } } } : State).place .testResult)))))

/-! ### The outcomes of this station's frames -/

/-- A failed outcome, by a collision, a VOID or a long frame with neither ACK nor STALL, of an item that has failed fewer
than three times: one attempt more, round 0, the content discarded, the item in its place, and nothing else changed (R16,
R98, R105 to R107).
A truncation that finds a frame of this station without its outcome is such a failure, and no cell is driven (R94; that
the line held dominant is taken as a collision is the model's reading, log entry 23). -/
def Obligations.FailedAttemptKeepsItem : Prop :=
  ∀ (s : State) (x : Item) (r : TxResult), s.sending x → x.withdrawn = false → x.superseded = false →
    x.orphaned = false → x.attempts < 3 →
    (∀ e st pr, x.kind = .deferredReply e st pr → (s.entry e).check = true) →
    let long := match x.kind with
      | .lock _ => False
      | .unlock => False
      | .faultClaim _ => False
      | .leave _ _ => False
      | _ => True
    let failed := fun t : State => (Host.Outcome.next (t.updateItem (itemRef x.kind) fun y =>
      { y with
        attempts := y.attempts + 1, round := 0, content := none, withdrawn := false, superseded := false
        orphaned := false }) : Host.Outcome State Fault Refusal)
    ((r = .collision ∨ ∃ c, r = .sent c ∧ (c.void = true ∨ (long ∧ c.ack = false ∧ c.stall = false))) →
      exec (outcomeOf x.kind r) s = failed { s with abandoned := r == .collision }) ∧
    exec .frameTruncated s = failed { s with abandoned := false, cells := noCells }

/-- A busy or STALL outcome of an item that its producer keeps: the round rises, 8 to 1, and the backoff runs for (i +
1) × 20 ms with i = (s XOR (r × 5)) mod 8, in the pair's claim timer for a FAULT CLAIM; its expiry leaves the item
eligible (R103, R106, R109, R114, R116, R136). That a busy UNLOCK, RELEASE or TEST RESULT leaves the last accepted time
alone (against R135) is the model's reading, log entry 18; that R106 holds for a LINE EVENTS frame too, beside R15 and
R16, is log entry 60; the clock at the expiry is log entry 2. A QUIET with STALL is told in HolderFrameOutcomes. -/
def Obligations.BackoffAfterBusy : Prop :=
  let next := fun n : Nat => if 8 ≤ n then 1 else n + 1
  let delay := fun (s : State) (n : Nat) => ((s.straps.station.toNat ^^^ (n * 5)) % 8 + 1) * 20
  (∀ (s : State) (x : Item) (c : Cells), s.sending x → x.withdrawn = false → x.superseded = false →
    x.orphaned = false → c.void = false →
    let ended : State := { s with abandoned := false }
    ((c.stall = true ∨ (c.own = true ∧ x.kind = .lock false)) →
      ((∃ b, x.kind = .lock b ∧ b = false) ∨ x.kind = .unlock ∨ (∃ st pr, x.kind = .release st pr) ∨
        (∃ p key, x.kind = .leave p key) ∨ (∃ i, x.kind = .reply i) ∨
        (∃ e, x.kind = .incident e) ∨ x.kind = .testResult ∨ (∃ p, x.kind = .lineEvents p) ∨
        ∃ e st pr, x.kind = .deferredReply e st pr ∧ (s.entry e).check = true) →
      exec (outcomeOf x.kind (.sent c)) s = .next (ended.updateItem (itemRef x.kind) fun y =>
        { y with
          round := next y.round, backoff := some (s.now + delay s (next y.round)), content := none
          withdrawn := false, superseded := false, orphaned := false })) ∧
    (∀ p : Pair, x.kind = .faultClaim p → c.stall = true →
      exec (.faultClaimOutcome (.sent c)) s = .next
        ((ended.updateItem (.faultClaim p) fun y =>
          { y with
            round := next y.round, content := none, withdrawn := false, superseded := false
            orphaned := false }).modPair p fun r =>
              { r with claimTimer := some (s.now + delay s (next x.round)) }))) ∧
  (∀ (s : State) (ref : ItemRef) (x : Item) (t : Nat), s.running = true → (∀ p, ref ≠ .faultClaim p) →
    s.item ref = some x → x.backoff = some t →
    exec (.itemBackoffExpiry ref) s =
      .next (({ s with now := max s.now t } : State).updateItem ref fun y => { y with backoff := none })) ∧
  (∀ (s : State) (p : Pair) (t : Nat), s.running = true → s.hasItem (.faultClaim p) = true →
    ((s.pair p).claim = .pending ∨ ∃ k, (s.pair p).claim = .linked k false) → (s.pair p).claimTimer = some t →
    exec (.itemBackoffExpiry (.faultClaim p)) s =
      .next (({ s with now := max s.now t } : State).setPair p { s.pair p with claimTimer := none }))

/-- A LINE EVENTS frame that drew ACK and neither VOID nor STALL is accepted: it removes the events it carried, and
clears the gap flag it carried unless an event was lost since. One that was voided, or drew neither ACK nor STALL, has
failed: it removes nothing, changes no flag, and counts one attempt, its item standing to contend at once; at its fourth
failure it is dropped, removes the events it carried and sets the gap flag and the discard mark. An item stands again
while events remain (R13, R15 to R17, R106, R107). An orphaned frame, built before the record was reinitialised, changes
neither the list nor the flags, whatever its fate (R7). With STALL seen and no VOID, ACK or none, it is busy: it removes
nothing, changes no flag, counts no attempt and starts the item's backoff (R106, R109; that R106 decides here, beside the
words of R15 and R16, is the model's reading, log entry 60). -/
def Obligations.LineEventsFate : Prop :=
  ∀ (s : State) (x : Item) (p : Pair) (pr : PairNo) (seq : BitVec 4) (gap stale : Bool) (es : List WireEvent) (c : Cells),
    s.sending x → x.kind = .lineEvents p → x.withdrawn = false → x.content = some (.lineEvents pr seq gap stale es) →
    let r := s.pair p
    let ended : State := { s with abandoned := false }
    let gone := ended.removeItem (.lineEvents p)
    let ends := fun t : State => exec (.lineEventsOutcome (.sent c)) s = .next t
    let leaves := fun r : PairRecord => (if x.orphaned = true then gone else gone.setPair p r).placeLineEvents p
    let accepted := leaves { r with
      events := r.events.drop es.length
      gap := if gap = true ∧ r.discard = false then false else r.gap }
    let failed :=
      if 3 ≤ x.attempts then leaves { r with events := r.events.drop es.length, gap := true, discard := true }
      else ended.updateItem (.lineEvents p) fun y =>
        { y with
          attempts := y.attempts + 1, round := 0, content := none, withdrawn := false, superseded := false
          orphaned := false }
    let busy := ended.updateItem (.lineEvents p) fun y =>
      let round := if 8 ≤ y.round then 1 else y.round + 1
      { y with
        round := round, backoff := some (s.now + ((s.straps.station.toNat ^^^ (round * 5)) % 8 + 1) * 20)
        content := none, withdrawn := false, superseded := false, orphaned := false }
    (c.void = true → ends failed) ∧
    (c.void = false → c.stall = false → (c.ack = true → ends accepted) ∧ (c.ack = false → ends failed)) ∧
    (c.void = false → c.stall = true → ends busy)

/-- A FAULT CLAIM frame's outcome at the claimant: OWN and DEFER, OWN alone, the fourth failure, and the outcome of a
frame that was superseded, whose item leaves where it is withdrawn and contends again where its claim was turned or made
anew (R85, R88, R91, R107, R114, R116). The outcome of a frame whose record was reinitialised under it is discarded (R7;
with no LEAVE in any case, log entry 19). -/
def Obligations.FaultClaimAnswered : Prop :=
  ∀ (s : State) (x : Item) (p : Pair) (key : Key) (pr : PairNo) (tag : BitVec 5) (renew : Bool), s.sending x →
    x.kind = .faultClaim p → x.content = some (.faultClaim key pr tag renew) →
    let ended : State := { s with abandoned := false }
    let gone := ended.removeItem (.faultClaim p)
    let again := fun t : State => t.updateItem (.faultClaim p) fun y =>
      { y with content := none, withdrawn := false, superseded := false, orphaned := false }
    let alone := fun c : Cells => c.void = false ∧ c.own = true ∧ c.defer = false ∧ c.stall = false
    (∀ c : Cells, c.void = false → c.stall = false → c.own = true → x.withdrawn = false → x.superseded = false →
      x.orphaned = false →
      (c.defer = true → exec (.faultClaimOutcome (.sent c)) s = .next (gone.setPair p
        { s.pair p with claim := .deferred tag.toFin, claimTimer := some (s.now + 10000) })) ∧
      (c.defer = false → exec (.faultClaimOutcome (.sent c)) s = .next ((gone.retireTag p).setPair p
        { s.pair p with claim := .linked key.cls false, claimTimer := some (s.now + 60000) }))) ∧
    (∀ c : Cells, c.void = true → 3 ≤ x.attempts → x.withdrawn = false → x.superseded = false → x.orphaned = false →
      exec (.faultClaimOutcome (.sent c)) s = .next
        ((ended.updateItem (.faultClaim p) fun y =>
          { y with
            attempts := 0, round := 0, content := none, withdrawn := false, superseded := false
            orphaned := false }).setPair p { s.pair p with claimTimer := some (s.now + 1000) })) ∧
    (∀ c : Cells, x.withdrawn = true → x.orphaned = false →
      (alone c → exec (.faultClaimOutcome (.sent c)) s = .next (gone.place (.leave p key))) ∧
      (¬alone c → exec (.faultClaimOutcome (.sent c)) s = .next gone)) ∧
    (∀ c : Cells, x.withdrawn = false → x.superseded = true → x.orphaned = false →
      (alone c → exec (.faultClaimOutcome (.sent c)) s = .next ((again ended).place (.leave p key))) ∧
      (¬alone c → exec (.faultClaimOutcome (.sent c)) s = .next (again ended))) ∧
    (x.withdrawn = false → x.superseded = true → x.orphaned = false →
      exec (.faultClaimOutcome .collision) s = .next (again { s with abandoned := true })) ∧
    (∀ c : Cells, x.orphaned = true →
      (x.withdrawn = true → exec (.faultClaimOutcome (.sent c)) s = .next gone) ∧
      (x.withdrawn = false → exec (.faultClaimOutcome (.sent c)) s = .next (again ended)))

/-- A delivered FAULT CLAIM that no station answered with OWN makes this station owner (R112, R114, R115): the
lowest-numbered FREE entry that holds no key becomes OPEN with the pair as its one member, the pair's tag is retired
and it is LINKED with the owned-here flag set. Another pair of the station that is PENDING for the key, or LINKED to it
elsewhere, has its item withdrawn and its tag retired, is appended to the member list and is LINKED here too. Told where
at most one other pair stands so, and for an entry whose check matches. -/
def Obligations.ClaimBecomesOwner : Prop :=
  ∀ (s : State) (x : Item) (p : Pair) (key : Key) (pr : PairNo) (tag : BitVec 5) (renew : Bool) (c : Cells)
    (e : EntryNo), s.sending x → x.kind = .faultClaim p → x.content = some (.faultClaim key pr tag renew) →
    x.orphaned = false → x.withdrawn = false → x.superseded = false → c.void = false → c.stall = false → c.own = false →
    (∀ i, (s.entry i).state = .free → (s.entry i).key ≠ some key) → (s.entry e).state = .free → (s.entry e).key = none →
    (s.entry e).check = true → (∀ i, i < e → (s.entry i).state = .free → (s.entry i).key ≠ none) →
    let member := fun q : Pair =>
      ({ station := s.straps.station, pair := pairNo q, renewed := s.now, leaving := false } : Member)
    let first : Entry := {
      key := some key, state := .opened, revivesConfirmed := false, verdict := .unjudged, members := [member p]
      overflow := 0, emptyTimer := none, defers := (s.entry e).defers, retryTimer := none, membersAtAttempt := 0
      clearHold := none, changed := true, closing := none, check := true }
    let owner := ((((({ s with abandoned := false } : State).removeItem (.faultClaim p)).writeEntry e first).retireTag
      p).setClaim p (.linked key.cls true) none)
    let stands := fun q : Pair => s.pairKey q key.cls = key ∧
      ((s.pair q).claim = .linked key.cls false ∨
        ((s.pair q).claim = .pending ∧ (s.tagOf q).map Prod.snd = some key.cls))
    ((∀ q : Pair, q ≠ p → ¬stands q) → exec (.faultClaimOutcome (.sent c)) s = .next owner.settle) ∧
    (∀ q : Pair, q ≠ p → stands q → (∀ z : Pair, z ≠ p → z ≠ q → ¬stands z) →
      exec (.faultClaimOutcome (.sent c)) s = .next
        (((((owner.withdraw (.faultClaim q) markSuperseded).retireTag q).writeEntry e
          { first with members := [member p, member q] }).setClaim q (.linked key.cls true) none).settle))

/-- What the delivery of a LEAVE, an INCIDENT, a REPLY and a TEST RESULT leaves behind, and its drop at the fourth
failure alike: nothing of a LEAVE; after an INCIDENT a new item where a change came meanwhile, and the closing report
of a FREE entry discarded; a freed reply slot, or the restart that its mark asks for; and a freed test slot, the last
accepted time of a holder refreshed by a delivery and not by a drop (R106, R107, R111, R112, R128, R135, R143, R162,
R171, R174). -/
def Obligations.DeliveredItemsLeave : Prop :=
  ∀ (s : State) (x : Item) (r : TxResult), s.sending x →
    let long := ∀ p key, x.kind ≠ .leave p key
    let delivered := ∃ c, r = .sent c ∧ c.void = false ∧ c.stall = false ∧ (long → c.ack = true)
    let failed := r = .collision ∨ ∃ c, r = .sent c ∧ (c.void = true ∨ (long ∧ c.ack = false ∧ c.stall = false))
    let dropped := failed ∧ 3 ≤ x.attempts
    let gone := ({ s with abandoned := r == .collision } : State).removeItem (itemRef x.kind)
    (delivered ∨ dropped →
      (∀ p key, x.kind = .leave p key → exec (.leaveOutcome r) s = .next gone) ∧
      (∀ e, x.kind = .incident e → (s.entry e).check = true →
        ((s.entry e).changed = true → exec (.incidentOutcome r) s = .next (gone.place (.incident e))) ∧
        ((s.entry e).changed = false → (s.entry e).state ≠ .free → exec (.incidentOutcome r) s = .next gone) ∧
        ((s.entry e).changed = false → (s.entry e).state = .free →
          exec (.incidentOutcome r) s = .next (gone.writeEntry e { s.entry e with
            closing := none, key := if (s.entry e).defers = [] then none else (s.entry e).key }))) ∧
      (∀ i slot, x.kind = .reply i → s.slot i = some slot →
        (slot.restartMark = false → exec (.replyOutcome r) s = .next (gone.setSlot i none)) ∧
        (slot.restartMark = true → s.straps.station ≠ 14 → s.straps.station ≠ 15 → s.straps.pairCount ≠ 3 →
          exec (.replyOutcome r) s = exec (.resetPinRelease s.straps) s))) ∧
    (x.kind = .testResult →
      (delivered → exec (.testResultOutcome r) s = .next { gone with bus := { s.bus with
        test := none
        lastAccepted := if s.bus.view = .mine then some s.now else s.bus.lastAccepted } }) ∧
      (dropped → exec (.testResultOutcome r) s = .next { gone with bus := { s.bus with test := none } }))

/-- The outcome of a LOCK: delivered, the view becomes MINE and calibration begins, the selector and the source moved
in one command (log entry 35); failed a fourth time, the item leaves, and a new one may be placed at once, with no
backoff (log entry 38, beside R136's "taken as busy"); a keep-alive delivered refreshes the last accepted time, and one
that is answered busy or fails a fourth time loses the lock (R135, R136, R146, R147). -/
def Obligations.LockOutcome : Prop :=
  ∀ (s : State) (x : Item) (c : Cells), s.sending x → x.orphaned = false → x.withdrawn = false →
    let gone := ({ s with abandoned := false } : State).removeItem .testBus
    (x.kind = .lock false → c.void = false → c.stall = false → c.own = false →
      exec (.lockOutcome (.sent c)) s = .next ({ gone with
        bus := { s.bus with
          view := .mine, lastAccepted := some s.now, releaseWait := none, remote := none, unlockDue := false }
        unit := { s.unit with
          connected := true, selector := .cal, source := true, vCal := none, calibrationPassed := false
          measurement := none, readingDue := some (s.now + 200) } } : State).settle) ∧
    (x.kind = .lock false → c.void = true → 3 ≤ x.attempts →
      exec (.lockOutcome (.sent c)) s = .next gone.settle) ∧
    (x.kind = .lock true → s.bus.view = .mine → c.void = false → c.stall = false → c.own = false →
      exec (.lockOutcome (.sent c)) s =
        .next ({ gone with bus := { s.bus with lastAccepted := some s.now } } : State).settle) ∧
    (x.kind = .lock true → c.void = false → (c.stall = true ∨ c.own = true) →
      exec (.lockOutcome (.sent c)) s = .next (gone.loseLock .free).settle) ∧
    (x.kind = .lock true → c.void = true → 3 ≤ x.attempts →
      exec (.lockOutcome (.sent c)) s = .next (gone.loseLock .free).settle)

/-- The outcome of a holder's UNLOCK, QUIET and RELEASE (R107, R135, R137, R141, R146, R149): the bus given back with
the restraint started; the access of another station's pair begun and its measurement with it, or the member passed
over; the access done with, or the release wait started. -/
def Obligations.HolderFrameOutcomes : Prop :=
  ∀ (s : State) (x : Item) (c : Cells), s.sending x → x.orphaned = false → x.withdrawn = false → s.bus.view = .mine →
    let gone := ({ s with abandoned := false } : State).removeItem .testBus
    (x.kind = .unlock → c.stall = false → (c.void = false ∨ 3 ≤ x.attempts) →
      exec (.unlockOutcome (.sent c)) s = .next ({ gone with
        bus := { s.bus with
          view := .free, lastAccepted := none, restraint := some (s.now + 1000), releaseWait := none, remote := none
          unlockDue := false }
        unit := { s.unit with
          connected := false, source := false, selector := .none, measurement := none, readingDue := none } } :
          State).settle) ∧
    (∀ st pr cls, x.kind = .quiet st pr cls →
      (c.void = false → c.stall = false → c.ack = true → s.unit.calibrationPassed = true →
        exec (.quietOutcome (.sent c)) s = .next ({ gone with
          bus := { s.bus with lastAccepted := some s.now, remote := some (st, pr) }
          unit := { s.unit with
            measurement := some
              { station := st, pair := pr, forRun := true, leg := .tip, vOff := none, records := [] }
            selector := .leg .tip, source := false, readingDue := some (s.now + 200) } } : State).settle) ∧
      (c.void = false → c.stall = true →
        exec (.quietOutcome (.sent c)) s = .next ({ gone with
          bus := { s.bus with lastAccepted := some s.now, position := s.bus.position + 1 } } : State).settle) ∧
      ((c.void = true ∨ (c.ack = false ∧ c.stall = false)) → 3 ≤ x.attempts →
        exec (.quietOutcome (.sent c)) s = .next ({ gone with
          bus := { s.bus with position := s.bus.position + 1 } } : State).settle)) ∧
    (∀ st pr, x.kind = .release st pr →
      (c.void = false → c.stall = false → c.ack = true →
        exec (.releaseOutcome (.sent c)) s = .next ({ gone with
          bus := { s.bus with lastAccepted := some s.now, remote := none } } : State).settle) ∧
      ((c.void = true ∨ (c.ack = false ∧ c.stall = false)) → 3 ≤ x.attempts →
        exec (.releaseOutcome (.sent c)) s = .next ({ gone with
          bus := { s.bus with remote := none, releaseWait := some (s.now + 3000) } } : State).settle))

/-- A DEFERRED REPLY that is delivered: JOINED adds the claimant to an OPEN or CONFIRMED entry that still holds the
key; DISSOLVED, or a drop, only removes the defer entry (R112, R117, R125). -/
def Obligations.DeferredReplyFate : Prop :=
  ∀ (s : State) (x : Item) (e : EntryNo) (st : StationNo) (pr : PairNo) (tag : BitVec 5) (q : PairNo) (key : Key)
    (joined : Bool) (d : Defer), s.sending x → x.kind = .deferredReply e st pr →
    x.content = some (.deferredReply tag q key joined) → x.withdrawn = false → (s.entry e).check = true →
    (s.entry e).defers.find? (Defer.isOf st pr) = some d →
    let gone := ({ s with abandoned := false } : State).removeItem (.deferredReply e st pr)
    let y := s.entry e
    let rest := y.defers.filter fun z => !(z.station == st && z.pair == pr)
    let removed := { y with
      defers := rest
      key := if y.state = .free ∧ y.closing = none ∧ rest = [] then none else y.key }
    (∀ c : Cells, c.void = false → c.stall = false → c.ack = true →
      (joined = true → y.key = some key → (y.state = .opened ∨ y.state = .confirmed) →
        (∀ m ∈ y.members, ¬(m.station = st ∧ m.pair = pr)) → y.members.length < 32 →
        exec (.deferredReplyOutcome (.sent c)) s = .next (gone.writeEntry e { y with
          members := y.members ++ [{ station := st, pair := pr, renewed := s.now, leaving := false }]
          overflow := if d.renew then y.overflow - 1 else y.overflow
          emptyTimer := none, changed := true, defers := rest }).settle) ∧
      (joined = false → exec (.deferredReplyOutcome (.sent c)) s = .next (gone.writeEntry e removed).settle)) ∧
    (3 ≤ x.attempts → ∀ c : Cells, (c.void = true ∨ (c.ack = false ∧ c.stall = false)) →
      exec (.deferredReplyOutcome (.sent c)) s = .next (gone.writeEntry e removed).settle)

/-! ### Timers -/

/-- The claim timer of a pair: the defer wait, the renew timer and the hold-off (R90, R116, R127). The two that claim
anew are told where this station does not own the key. A claim for a key not owned here (R84, R85): the first free tag
from the pointer, upward and round, is held by the pair and class, the pair is PENDING, and one FAULT CLAIM item
stands. The first part is told where no wait of a lower pair ends with the pair's own; of two waits that end together in
claims, hold-offs or defer waits, the lower pair's is taken first, whichever expiry comes first (R84; log entry 53). The
clock at each expiry is log entry 2. -/
def Obligations.ClaimTimersAndPending : Prop :=
  (∀ (s : State) (p : Pair) (t : Nat), s.running = true → (s.pair p).claimTimer = some t →
     (∀ q : Pair, q < p → (s.pair q).claimTimer = some t → (s.pair q).claim = .pending) →
     let then_ : State := { s with now := max s.now t }
     (∀ t' tag cls, (s.pair p).claim = .deferred t' → s.tagOf p = some (tag, cls) →
       s.ownedEntry (s.pairKey p cls) = none →
       exec (.deferWaitExpiry p) s =
         .next (((then_.retireTag p).setClaim p .unclaimed none).claimPending p cls).settle) ∧
     (∀ cls, (s.pair p).claim = .linked cls false → s.hasItem (.faultClaim p) = false →
       exec (.renewTimerExpiry p) s = .next
         (((then_.setClaim p (.linked cls false) none).allocateTag p cls).place (.faultClaim p))) ∧
     ((s.pair p).claim = .heldOff →
       ((s.pair p).fault ≠ .faulted → exec (.holdOffExpiry p) s = .next (then_.setClaim p .unclaimed none)) ∧
       (∀ cls, (s.pair p).fault = .faulted → pairClass (s.pair p).latched = some cls →
         s.ownedEntry (s.pairKey p cls) = none →
         exec (.holdOffExpiry p) s = .next ((then_.setClaim p .unclaimed none).claimPending p cls).settle))) ∧
  (∀ (s : State) (p : Pair) (cls : FaultClass) (n : Fin 32), s.running = true → s.hasItem (.faultClaim p) = false →
     s.tags.get (s.tagPointer + n) = none → (∀ m : Fin 32, m < n → s.tags.get (s.tagPointer + m) ≠ none) →
     let t := s.claimPending p cls
     (∀ i : Tag, t.tags.get i = if i = s.tagPointer + n then some { pair := p, cls := cls } else s.tags.get i) ∧
     t.tagPointer = s.tagPointer + n + 1 ∧
     t.pair p = { s.pair p with claim := .pending, claimTimer := none, check := true } ∧
     (∀ q : Pair, q ≠ p → t.pair q = s.pair q) ∧
     t.item (.faultClaim p) = some
       { kind := .faultClaim p, attempts := 0, round := 0, backoff := none, content := none, withdrawn := false
         superseded := false, orphaned := false } ∧
     t = { s with pairs := t.pairs, tags := t.tags, tagPointer := t.tagPointer, queue := t.queue }) ∧
  (∀ (s : State) (q p : Pair) (t : Nat) (k c : FaultClass), s.running = true → q < p →
     (s.pair q).claimTimer = some t → (s.pair p).claimTimer = some t →
     (∀ r : Pair, r < p → r ≠ q → (s.pair r).claimTimer = some t → (s.pair r).claim = .pending) →
     let ends := fun (r : Pair) (cls : FaultClass) =>
       ((s.pair r).claim = .heldOff ∧ (s.pair r).fault = .faulted ∧ pairClass (s.pair r).latched = some cls) ∨
         (∃ u tag, (s.pair r).claim = .deferred u ∧ s.tagOf r = some (tag, cls))
     let claims := fun (u : State) (r : Pair) (cls : FaultClass) =>
       (((if (u.pair r).claim = .heldOff then u else u.retireTag r).setClaim r .unclaimed none).claimPending r cls).settle
     let first := claims { s with now := max s.now t } q k
     ends q k → ends p c → s.ownedEntry (s.pairKey q k) = none → first.running = true →
     (∀ r : Pair, r ≤ p → r ≠ q → first.pair r = s.pair r) → first.tagOf p = s.tagOf p →
     first.ownedEntry (first.pairKey p c) = none →
     ((s.pair p).claim = .heldOff → exec (.holdOffExpiry p) s = .next (claims first p c)) ∧
     (∀ u, (s.pair p).claim = .deferred u → exec (.deferWaitExpiry p) s = .next (claims first p c)))

/-- What the claim logic does with the claim of a pair of this station. When its fault state becomes FAULTED with a
class, or a FAULTED pair's class changes (R87, R88): nothing where its claim is for that class, or while it is held
off; a claim made from NONE; a PENDING claim turned, its item standing with a new tag and its frame superseded, or,
where this station owns the key, withdrawn for a local join; a DEFERRED pair's tag retired and a claim made; and a pair
LINKED under another class leaves first (R86), by a LEAVE item or locally. When it reaches CLEAR, or is PARKED, its
standing ends (R83, R89). At the closing of an incident owned here (R113) a pair LINKED to it here is held off, or
claims anew. Claims are told where this station does not own the new key, but for the turned one. -/
def Obligations.OwnPairStanding : Prop :=
  (∀ (s : State) (p : Pair) (cls : FaultClass) (step : FaultStep), (step = .entered cls ∨ step = .turned cls) →
     s.running = true →
     let r := s.pair p
     let did := s.faultConsequence p step
     let elsewhere := s.ownedEntry (s.pairKey p cls) = none
     let withdrawn := (s.withdraw (.faultClaim p) fun y => { y with withdrawn := true, superseded := true }).retireTag p
     (r.claim = .unclaimed → elsewhere → did = s.claimPending p cls) ∧
     (r.claim = .heldOff → did = s) ∧
     (∀ owned, r.claim = .linked cls owned → did = s) ∧
     (∀ t, (r.claim = .pending ∨ ∃ u, r.claim = .deferred u) → s.tagOf p = some (t, cls) → did = s) ∧
     (∀ t k, r.claim = .pending → s.tagOf p = some (t, k) → k ≠ cls →
       (elsewhere → s.hasItem (.faultClaim p) = true →
         did = ((((s.retireTag p).allocateTag p cls).setClaim p .pending none).updateItem (.faultClaim p) fun y =>
           { y with
             attempts := 0, round := 0, withdrawn := false, superseded := y.superseded || y.content.isSome })) ∧
       (∀ e, s.ownedEntry (s.pairKey p cls) = some e → (s.entry e).check = true → (s.entry e).state ≠ .confirming →
         did = (withdrawn.joinEntry e s.straps.station (pairNo p) false).setClaim p (.linked cls true) none)) ∧
     (∀ t u k, r.claim = .deferred u → s.tagOf p = some (t, k) → k ≠ cls → elsewhere →
       did = (s.retireTag p).claimPending p cls) ∧
     (∀ k, r.claim = .linked k false → k ≠ cls → elsewhere →
       did = ((withdrawn.setClaim p .unclaimed none).place (.leave p (s.pairKey p k))).claimPending p cls) ∧
     (∀ k e, r.claim = .linked k true → k ≠ cls → elsewhere → s.ownedEntry (s.pairKey p k) = some e →
       (s.entry e).check = true →
       did = ((s.leaveEntry e s.straps.station (pairNo p)).setClaim p .unclaimed none).claimPending p cls)) ∧
  (∀ (s : State) (p : Pair), s.running = true →
     let r := s.pair p
     let withdrawn := (s.withdraw (.faultClaim p) fun y => { y with withdrawn := true, superseded := true }).retireTag p
     s.faultConsequence p .cleared = s.endStanding p ∧
     (r.claim = .unclaimed → s.endStanding p = s) ∧
     (r.claim = .pending → s.endStanding p = withdrawn.setClaim p .unclaimed none) ∧
     (∀ t, r.claim = .deferred t → s.endStanding p = (s.retireTag p).setClaim p .unclaimed none) ∧
     (∀ k, r.claim = .linked k false →
       s.endStanding p = (withdrawn.setClaim p .unclaimed none).place (.leave p (s.pairKey p k))) ∧
     (∀ k e, r.claim = .linked k true → s.ownedEntry (s.pairKey p k) = some e → (s.entry e).check = true →
       s.endStanding p = (s.leaveEntry e s.straps.station (pairNo p)).setClaim p .unclaimed none) ∧
     (r.claim = .heldOff → s.endStanding p = s.setClaim p .unclaimed none)) ∧
  (∀ (s : State) (p : Pair) (k : Key) (forced : Bool),
     let linked := (s.pair p).claim = .linked k.cls true ∧ s.pairKey p k.cls = k
     (¬linked → State.unlinkOwn k forced s p = s) ∧
     (linked → forced = true → State.unlinkOwn k forced s p = s.setClaim p .heldOff (some (s.now + 60000))) ∧
     (linked → forced = false → State.unlinkOwn k forced s p = s.claimPending p k.cls))

/-- A claim for a key that this station owns (R85), told as the claim made at the end of a hold-off (R90): the pair
joins locally and is LINKED with the owned-here flag set; while the entry is CONFIRMING a pair already listed is taken
as listed, and one that is not is DEFERRED with a new tag and the defer wait at 10 s, recorded in the defer list unless
it holds 8 others (R118; the clock at the expiry is log entry 2), told where no wait of a lower pair ends with it
(R84). The answer of the defer list when an entry leaves CONFIRMING (R125), in list order: an entry under answer is
left alone; one of another station is marked and gets its DEFERRED REPLY item; one of this station is removed, and its
pair, if still DEFERRED with that tag, joins, or is held off where the entry is FREE. -/
def Obligations.LocalJoinsAndAnswers : Prop :=
  (∀ (s : State) (p : Pair) (t : Nat) (cls : FaultClass) (e : EntryNo), s.running = true →
     (s.pair p).claim = .heldOff → (s.pair p).claimTimer = some t → (s.pair p).fault = .faulted →
     (∀ q : Pair, q < p → (s.pair q).claimTimer = some t → (s.pair q).claim = .pending) →
     pairClass (s.pair p).latched = some cls → s.ownedEntry (s.pairKey p cls) = some e → (s.entry e).check = true →
     let x := s.entry e
     let now := max s.now t
     let then_ : State := { s with now := now }
     let listed := ∃ m ∈ x.members, m.station = s.straps.station ∧ m.pair = pairNo p
     let recorded := ∃ d ∈ x.defers, d.station = s.straps.station ∧ d.pair = pairNo p
     (x.state ≠ .confirming → exec (.holdOffExpiry p) s = .next
       ((then_.joinEntry e s.straps.station (pairNo p) false).setClaim p (.linked cls true) none).settle) ∧
     (x.state = .confirming → listed → exec (.holdOffExpiry p) s = .next
       ((then_.writeEntry e { x with
         members := x.members.map fun m =>
           if m.station = s.straps.station ∧ m.pair = pairNo p then { m with renewed := now, leaving := false } else m
         changed := true }).setClaim p (.linked cls true) none).settle) ∧
     (x.state = .confirming → ¬listed → ∀ n : Fin 32, s.tags.get (s.tagPointer + n) = none →
       (∀ m : Fin 32, m < n → s.tags.get (s.tagPointer + m) ≠ none) →
       let tag := s.tagPointer + n
       let deferred := ({ then_ with
         tags := s.tags.set tag.val (some { pair := p, cls := cls }) tag.isLt, tagPointer := tag + 1 } : State).setClaim p
           (.deferred tag) (some (now + 10000))
       (recorded → exec (.holdOffExpiry p) s = .next (deferred.writeEntry e { x with
         defers := x.defers.map fun d =>
           if d.station = s.straps.station ∧ d.pair = pairNo p then { d with tag := BitVec.ofFin tag, renew := false }
           else d }).settle) ∧
       (¬recorded → x.defers.length < 8 → exec (.holdOffExpiry p) s = .next (deferred.writeEntry e { x with
         defers := x.defers ++ [{
           station := s.straps.station, tag := BitVec.ofFin tag, pair := pairNo p, renew := false
           underAnswer := false }] }).settle) ∧
       (¬recorded → 8 ≤ x.defers.length → exec (.holdOffExpiry p) s = .next deferred.settle))) ∧
  (∀ (s : State) (e : EntryNo), s.answerDefers e = (s.entry e).defers.foldl (State.answerDefer e) s) ∧
  (∀ (s : State) (e : EntryNo) (d : Defer),
     let x := s.entry e
     let removed := s.writeEntry e { x with
       defers := x.defers.filter fun y => !(y.station == d.station && y.pair == d.pair) }
     (d.underAnswer = true → State.answerDefer e s d = s) ∧
     (d.underAnswer = false → d.station ≠ s.straps.station → State.answerDefer e s d =
       (s.writeEntry e { x with
         defers := x.defers.map fun y =>
           if y.station = d.station ∧ y.pair = d.pair then { y with underAnswer := true } else y }).place
         (.deferredReply e d.station d.pair)) ∧
     (∀ p : Pair, d.underAnswer = false → d.station = s.straps.station → d.pair = pairNo p →
       ((s.pair p).claim ≠ .deferred d.tag.toFin → State.answerDefer e s d = removed) ∧
       ((s.pair p).claim = .deferred d.tag.toFin →
         (∀ k, x.state ≠ .free → x.key = some k → State.answerDefer e s d =
           ((removed.retireTag p).joinEntry e s.straps.station (pairNo p) false).setClaim p (.linked k.cls true) none) ∧
         (x.state = .free → State.answerDefer e s d =
           (removed.retireTag p).setClaim p .heldOff (some (s.now + 60000))))))

/-- The timers of an incident entry whose check matches: a member of another station that has not renewed for 150 s
leaves or is marked; the empty list's overflow goes to 0 and the entry to CLEARING; a CLEARING entry is closed, not
forced, a run that the controller holds for it abandoned (log entry 50), the pairs of this station linked to it claiming
anew in ascending order and its defer list answered; the retry timer stops, and a test of R122 is called for (R113, R119
to R122, R124, R125; the mark that calls for it is log entry 20, and the clock at each expiry log entry 2). -/
def Obligations.EntryTimers : Prop :=
  ∀ (s : State) (e : EntryNo), s.running = true → (s.entry e).check = true →
    let x := s.entry e
    let written := fun (now : Nat) (y : Entry) => ({ s with now := now } : State).writeEntry e
      (if (y.state = .opened ∨ y.state = .confirmed) ∧ y.members = [] ∧ y.overflow = 0 then
        { y with
          state := .clearing, revivesConfirmed := y.state == .confirmed, changed := true
          clearHold := some (now + 10000) }
      else y)
    (∀ (st : StationNo) (pr : PairNo) (m : Member), st ≠ s.straps.station →
      (x.members.find? fun z => z.station == st && z.pair == pr) = some m →
      let now := max s.now (m.renewed + 150000)
      let rest := x.members.filter fun z => !(z.station == st && z.pair == pr)
      (x.state = .opened ∨ x.state = .confirmed ∨ x.state = .clearing →
        exec (.memberExpiry e st pr) s = .next (written now { x with
          members := rest, changed := true
          emptyTimer := if rest = [] then some (now + 150000) else x.emptyTimer })) ∧
      (x.state = .confirming →
        exec (.memberExpiry e st pr) s = .next (written now { x with
          members := x.members.map fun z => if z.station = st ∧ z.pair = pr then { z with leaving := true } else z
          changed := true }))) ∧
    (∀ t, x.emptyTimer = some t → x.state ≠ .free →
      exec (.emptyListExpiry e) s = .next (written (max s.now t) { x with
        emptyTimer := none, overflow := 0, changed := x.changed || x.overflow != 0 })) ∧
    (∀ t k, x.clearHold = some t → x.state = .clearing → x.key = some k →
      exec (.clearHoldExpiry e) s = .next ((allPairs.foldl (State.unlinkOwn k false)
        ((({ s with now := max s.now t } : State).writeEntry e { x with
          state := .free, revivesConfirmed := false, verdict := .unjudged, members := [], overflow := 0
          emptyTimer := none, retryTimer := none, clearHold := none, changed := true
          closing := some { verdict := x.verdict, forced := false } }).abandonRun e)).answerDefers e)) ∧
    (∀ t, x.retryTimer = some t → x.state ≠ .free →
      exec (.confirmationRetryExpiry e) s =
        .next ({ ({ s with now := max s.now t } : State).writeEntry e { x with retryTimer := none } with
          dueTest := true } : State).settle)

/-- The test bus controller's timers: the lapse of a view at 5 s, the keep-alive at 2 s, the restraint, the release
wait, and the deadline of an uplink test that waits for the lock (R135, R136, R141, R143; the clock at each expiry is
log entry 2). -/
def Obligations.BusTimers : Prop :=
  ∀ s : State, s.running = true →
    let at_ := fun t : Nat => ({ s with now := max s.now t } : State)
    (∀ h heard, s.bus.view = .held h heard →
      exec .viewLapse s = .next ((at_ (heard + 5000)).setView .free).settle) ∧
    (∀ t, s.bus.view = .mine → s.bus.lastAccepted = some t → s.hasItem .testBus = false →
      ((∃ e k, s.bus.run = some { entry := e, key := k, deadline := none }) ∨
        (∃ p, s.bus.test = some { pair := p, phase := .running }) ∨ s.bus.releaseWait ≠ none) →
      exec .keepAliveDue s = .next ((at_ (t + 2000)).place (.lock true))) ∧
    (∀ t, s.bus.restraint = some t →
      exec .restraintExpiry s =
        .next ({ at_ t with bus := { s.bus with restraint := none } } : State).settle) ∧
    (∀ t, s.bus.releaseWait = some t →
      exec .releaseWaitExpiry s =
        .next ({ at_ t with bus := { s.bus with releaseWait := none } } : State).settle) ∧
    (∀ p t, s.bus.test = some { pair := p, phase := .waiting t } →
      (s.bus.view ≠ .mine ∨ ∃ x, s.item .testBus = some x ∧ x.kind = .unlock) →
      exec (.jobDeadlineExpiry .uplinkTest) s =
        .next ((({ at_ t with
          bus := { s.bus with test := some { pair := p, phase := .ended .noBus [] } } } : State).place
            .testResult).settle))

/-- How a confirmation run concludes (R124, R142): the verdict of its counts, a missed lock or a failed calibration,
with the leaving members removed, and the retry timer at 60 s where UNTESTED did not come of the unit; NOT_FOUND
closes the entry, forced, the pairs of this station linked to it held off (R113). The defer list is answered in the same
step (R125). A waiting run whose deadline passes hands back that the lock was not obtained (R136; the clock is log entry
2). The end of a confirmation calls for a test of R122, which the model holds as a mark until it is made (log entry 20).
Told for an entry whose check matches and with a member that stays. -/
def Obligations.RunConcludes : Prop :=
  ∀ (s : State) (e : EntryNo) (k : Key) (d : Option Nat), s.bus.run = some { entry := e, key := k, deadline := d } →
    (s.entry e).state = .confirming → (s.entry e).key = some k → (s.entry e).check = true →
    (∃ m ∈ (s.entry e).members, m.leaving = false) →
    let x := s.entry e
    let rest := x.members.filter fun m => !m.leaving
    let free : State := { s with
      dueTest := true, bus := { s.bus with run := none, tested := 0, faulted := 0, position := 0 } }
    let stays := fun (v : Verdict) (st : EntryState) (retry : Option Nat) => (free.writeEntry e
      { x with verdict := v, state := st, members := rest, retryTimer := retry, changed := true }).answerDefers e
    (∀ tested faulted : Nat,
      (2 ≤ faulted ∨ (faulted = 1 ∧ tested = 1) →
        s.concludeRun (.counts tested faulted) = stays .confirmed .confirmed none) ∧
      (faulted = 1 → 2 ≤ tested → s.concludeRun (.counts tested faulted) = stays .partly .opened none) ∧
      (faulted = 0 → 1 ≤ tested →
        s.concludeRun (.counts tested faulted) = (allPairs.foldl (State.unlinkOwn k true) (free.writeEntry e { x with
          state := .free, revivesConfirmed := false, verdict := .unjudged, members := [], overflow := 0
          emptyTimer := none, retryTimer := none, clearHold := none, changed := true
          closing := some { verdict := .notFound, forced := true } })).answerDefers e) ∧
      (faulted = 0 → tested = 0 →
        s.concludeRun (.counts tested faulted) = stays .untested .opened (some (s.now + 60000)))) ∧
    s.concludeRun .noLock = stays .untested .opened (some (s.now + 60000)) ∧
    s.concludeRun .unitFailed = stays .untested .opened none ∧
    (∀ t, s.running = true → s.bus.view ≠ .mine → d = some t →
      exec (.jobDeadlineExpiry .confirmation) s =
        .next (State.concludeRun { s with now := max s.now t } .noLock).settle)

/-! ### Confirmation -/

/-- An entry is due for confirmation exactly when all of R122's conditions hold; at the beginning FEED_LOSS is
confirmed at once, a failed unit leaves the entry UNTESTED, and otherwise the entry becomes CONFIRMING and a run waits
for the bus with a deadline of 30 s (R123, R132, R136). In ACTIVE, where a test is called for and no entry's check
fails, the one entry that is due is begun as the station's next step, and of several that are due together one of them
(R122; which is a free choice, log entry 9); where none is due, the test is over. A write to an entry calls for a test
exactly where the member list grows by it, as at a join, or fewer defer entries stand under answer; the end of a
confirmation calls for one; and where none is called for, the station's next step is the controller's alone and no
entry's check is tested (R122, R131; that a test is made at these and no other occasions, and held as a mark until then,
is the model's reading, log entry 20). -/
def Obligations.ConfirmationDueAndBegun : Prop :=
  (∀ (s : State) (e : EntryNo), s.due e = true ↔
     s.station = .active ∧ (s.entry e).state = .opened ∧ 3 ≤ (s.entry e).members.length ∧
     ((s.entry e).verdict = .unjudged ∨
       ((s.entry e).verdict = .untested ∧ (s.entry e).retryTimer = none ∧ s.unit.failed = false) ∨
       ((s.entry e).verdict = .partly ∧ (s.entry e).membersAtAttempt + 2 ≤ (s.entry e).members.length)) ∧
     (∀ i : EntryNo, (s.entry i).state ≠ .confirming) ∧
     (∀ i : EntryNo, ∀ d ∈ (s.entry i).defers, d.underAnswer = false)) ∧
  (∀ (s : State) (e : EntryNo) (k : Key), (s.entry e).key = some k →
     let x := { s.entry e with membersAtAttempt := (s.entry e).members.length, changed := true }
     (k.cls = .feedLoss →
       s.beginConfirmation e = s.writeEntry e { x with state := .confirmed, verdict := .confirmed }) ∧
     (k.cls ≠ .feedLoss → s.unit.failed = true →
       s.beginConfirmation e = s.writeEntry e { x with verdict := .untested, retryTimer := none }) ∧
     (k.cls ≠ .feedLoss → s.unit.failed = false →
       s.beginConfirmation e = { s.writeEntry e { x with state := .confirming } with
         bus := { s.bus with
           run := some { entry := e, key := k, deadline := some (s.now + 30000) }, tested := 0, faulted := 0
           position := 0 } })) ∧
  (∀ s : State, s.station = .active → s.dueTest = true → (∀ i : EntryNo, (s.entry i).check = true) →
     ((∀ e : EntryNo, s.due e = false) → s.nextStep = some { s with dueTest := false }) ∧
     (∀ e : EntryNo, s.due e = true → (∀ i : EntryNo, s.due i = true → i = e) →
       s.nextStep = some (s.beginConfirmation e)) ∧
     (∀ e i : EntryNo, s.due e = true → s.due i = true → e ≠ i →
       ∃ j : EntryNo, s.due j = true ∧
         s.nextStep = some (State.beginConfirmation { s with choices := s.choices + 1 } j))) ∧
  (∀ (s : State) (e : EntryNo) (y : Entry),
     let answering := fun z : Entry => (z.defers.filter fun d => d.underAnswer).length
     (s.writeEntry e y).dueTest = true ↔ s.dueTest = true ∨ (s.entry e).members.length < y.members.length ∨
       answering y < answering (s.entry e)) ∧
  (∀ (s : State) (run : Run) (result : RunResult), s.bus.run = some run → (s.entry run.entry).check = true →
     (s.concludeRun result).dueTest = true ∧ (s.abandonRun run.entry).dueTest = true) ∧
  (∀ s : State, s.dueTest = false → s.nextStep = s.busStep)

/-! ### The test unit -/

/-- The calibration reading: 3600 to 4400 passes; any other value sets the unit-failed flag, and a waiting uplink test
ends UNIT_FAILED (R137, R147, R148). A confirmation run that waits hands back that the unit failed (R124, R148), and a
test that waits beside it ends too, told where that leaves the station running; R148 gives no order to the two, and that
the run hands back first, so that its INCIDENT is placed before the TEST RESULT, is the model's choice, log entry 57.
The two readings of a leg: an off reading beyond 1600 refuses the leg, any other closes the source for the on reading,
and a leg's record leads to the next leg in the order TIP, RING, LOOP (R149 to R151). The clock at each reading is log
entry 2, and that the selector and the source move in one command is log entry 35. -/
def Obligations.UnitReadings : Prop :=
  (∀ (s : State) (volts : Int) (t : Nat), s.running = true → s.unit.selector = .cal → s.unit.readingDue = some t →
     -8191 ≤ volts → volts ≤ 8191 →
     let unit := { s.unit with
       source := false, selector := .none, measurement := none, readingDue := none, vCal := some volts }
     let at_ : State := { s with now := max s.now t }
     (3600 ≤ volts → volts ≤ 4400 →
       exec (.calibrationDone volts) s =
         .next ({ at_ with unit := { unit with calibrationPassed := true } } : State).settle) ∧
     ((volts < 3600 ∨ 4400 < volts) → runWaiting s.bus = false →
       (testWaiting s.bus = false →
         exec (.calibrationDone volts) s = .next ({ at_ with unit := { unit with failed := true } } : State).settle) ∧
       (∀ p d, s.bus.test = some { pair := p, phase := .waiting d } →
         exec (.calibrationDone volts) s = .next ((({ at_ with
           unit := { unit with failed := true }
           bus := { s.bus with test := some { pair := p, phase := .ended .unitFailed [] } } } : State).place
             .testResult).settle))) ∧
     (∀ e k d, (volts < 3600 ∨ 4400 < volts) → s.bus.run = some { entry := e, key := k, deadline := some d } →
       let ran := State.concludeRun { at_ with unit := { unit with failed := true } } .unitFailed
       ((ran.running = false ∨ testWaiting s.bus = false) → exec (.calibrationDone volts) s = .next ran.settle) ∧
       (∀ p d', ran.running = true → s.bus.test = some { pair := p, phase := .waiting d' } →
         exec (.calibrationDone volts) s = .next ((({ ran with
           bus := { ran.bus with test := some { pair := p, phase := .ended .unitFailed [] } } } : State).place
             .testResult).settle)))) ∧
  (∀ (s : State) (m : Measurement) (volts : Int) (t : Nat), s.running = true → s.unit.measurement = some m →
     s.unit.readingDue = some t → -8191 ≤ volts → volts ≤ 8191 →
     let now := max s.now t
     let next := fun (leg : Leg) (record : LegRecord) => ({ s with
       now := now
       unit := { s.unit with
         measurement := some { m with leg := leg, vOff := none, records := m.records ++ [record] }
         selector := .leg leg, source := false, readingDue := some (now + 200) } } : State)
     (m.vOff = none →
       (-1600 ≤ volts → volts ≤ 1600 →
         exec (.legOffReadingDone volts) s = .next { s with
           now := now
           unit := { s.unit with
             measurement := some { m with vOff := some volts }, source := true, readingDue := some (now + 200) } }) ∧
       (volts < -1600 ∨ 1600 < volts →
         let refusal : LegRecord := { leg := m.leg, vOff := volts, measured := none }
         (m.leg = .tip → exec (.legOffReadingDone volts) s = .next (next .ring refusal)) ∧
         (m.leg = .ring → exec (.legOffReadingDone volts) s = .next (next .loop refusal)))) ∧
     (∀ vOff vCal, m.vOff = some vOff → s.unit.vCal = some vCal →
       let record : LegRecord := {
         leg := m.leg, vOff := vOff
         measured := some {
           vOn := volts, delta := volts - vOff, resistance := resistanceOf vCal (volts - vOff)
           cls := legClassOf (resistanceOf vCal (volts - vOff)) } }
       (m.leg = .tip → exec (.legOnReadingDone volts) s = .next (next .ring record)) ∧
       (m.leg = .ring → exec (.legOnReadingDone volts) s = .next (next .loop record))))

/-- The LOOP leg completes the measurement: it is kept as the last completed one, the unit stops, the holder's access
of its own pair ends, and the result goes to the uplink test as DONE or to the confirmation run, one member tested and
one faulted if it is judged so (R141, R142, R154, R157 to R159; the clock at the reading is log entry 2). -/
def Obligations.MeasurementCompletes : Prop :=
  ∀ (s : State) (c : Instr) (m : Measurement) (l : LegRecord) (volts : Int) (t : Nat), s.running = true →
    s.unit.measurement = some m → s.unit.readingDue = some t → -8191 ≤ volts → volts ≤ 8191 → m.leg = .loop →
    ((c = .legOffReadingDone volts ∧ m.vOff = none ∧ (volts < -1600 ∨ 1600 < volts) ∧
        l = { leg := .loop, vOff := volts, measured := none }) ∨
      (c = .legOnReadingDone volts ∧ ∃ vOff vCal, m.vOff = some vOff ∧ s.unit.vCal = some vCal ∧
        l = {
          leg := .loop, vOff := vOff
          measured := some {
            vOn := volts, delta := volts - vOff, resistance := resistanceOf vCal (volts - vOff)
            cls := legClassOf (resistanceOf vCal (volts - vOff)) } })) →
    let legs := m.records ++ [l]
    let done : State := { s with
      now := max s.now t
      unit := { s.unit with
        source := false, selector := .none, measurement := none, readingDue := none
        last := some { pair := m.pair, forRun := m.forRun, legs := legs } } }
    let counted := fun (x : State) (run : Run) => ({ x with bus := { x.bus with
      tested := s.bus.tested + 1
      faulted := s.bus.faulted + if judgeMember run.key.cls legs = true then 1 else 0
      position := s.bus.position + 1 } } : State)
    let released := fun (x : State) (a : Access) => ({ x.setPair a.pair
        { s.pair a.pair with freeze := .unfrozen, closedRun := 0, breakLength := 0, feedDead := 0 } with
      bus := { x.bus with access := none } } : State)
    (∀ run, m.forRun = true → m.station ≠ s.straps.station → s.bus.run = some run →
      exec c s = .next (counted done run).settle) ∧
    (∀ run a, m.forRun = true → m.station = s.straps.station → s.bus.run = some run → s.bus.access = some a →
      exec c s = .next (released (counted done run) a).settle) ∧
    (∀ p a, m.forRun = false → m.station = s.straps.station → s.bus.test = some { pair := p, phase := .running } →
      s.bus.access = some a →
      exec c s = .next (released (({ done with
        bus := { s.bus with test := some { pair := p, phase := .ended .done legs } } } : State).place .testResult)
          a).settle)

/-- The resistance of a leg in kilohms is by the first case of R152 that holds, a measured leg's class by its resistance
(R153), and a member is judged by the class of the incident (R156). -/
def Obligations.ResistanceAndJudgement : Prop :=
  (∀ vCal delta : Int,
     (delta ≤ 0 → resistanceOf vCal delta = 0) ∧
     (0 < delta → vCal - delta ≤ 0 → resistanceOf vCal delta = 65535) ∧
     (0 < delta → 0 < vCal - delta → ∀ r : Nat,
       (r < 65535 ∧ (r : Int) * (vCal - delta) ≤ 100 * delta ∧ 100 * delta < ((r : Int) + 1) * (vCal - delta) →
         resistanceOf vCal delta = r) ∧
       (65535 * (vCal - delta) ≤ 100 * delta → resistanceOf vCal delta = 65535))) ∧
  (∀ r : Nat,
     (r < 20 → legClassOf r = .severe) ∧ (20 ≤ r → r < 150 → legClassOf r = .low) ∧
     (150 ≤ r → r < 1000 → legClassOf r = .marginal) ∧ (1000 ≤ r → legClassOf r = .good)) ∧
  (∀ legs : List LegRecord,
     (judgeMember .foreign legs = true ↔ ∃ l ∈ legs, l.vOff < -320 ∨ 320 < l.vOff) ∧
     (judgeMember .groundLeak legs = true ↔
       ∃ l ∈ legs, (l.leg = .tip ∨ l.leg = .ring) ∧ ∃ m, l.measured = some m ∧ m.resistance < 150) ∧
     (judgeMember .permanentLoop legs = true ↔
       ∃ l ∈ legs, l.leg = .loop ∧ ∃ m, l.measured = some m ∧ m.resistance < 2))

/-! ### Integrity -/

/-- A turn at which a record's check does not match: the record is reinitialised with RECORD_RESET its one event under
the next sequence number, the gap flag and the discard mark set, and the error time recorded, told for the first error
in 10 s (R5, R6, R176). Its consequences (R7): a FAULT CLAIM item that stands, as in PENDING and in a renewal, is
withdrawn, the outcome of its frame to be discarded, and a tag that the pair holds is retired (R84), whatever the
record's claim field says (log entry 41); a pair LINKED here leaves locally; it leaves the wait list, and the receiver
that serves it by the pool's own record is released, with the reassignment of R62, whatever the failed record says of a
receiver (R56, R59, R60); its access ends, and where that was under measurement here, the measurement is discarded, a
confirmation run goes on to its next member and an uplink test ends ABANDONED (R143, R154). The local leave, the
receiver and the access are each told where the others do not arise. A LINE EVENTS frame of the pair is orphaned, its
item standing. That the item of the pair that gets the receiver is placed before the pair's own is the model's choice,
log entry 54, and that the local leave is the one the failed record's claim field names, log entry 41. At the second
error less than 10 s after the last the station enters FAILED and drives no cell (R110, R176, R177), told for a pair
that is not LINKED here; that the time recorded then stands is the model's choice, log entry 43. -/
def Obligations.IntegrityErrors : Prop :=
  (∀ (s : State) (p : Pair) (tip ring : Int), s.running = true → s.service p ≠ .absent → (s.pair p).check = false →
     (∀ t, s.integrityAt = some t → 10000 ≤ s.now - t) →
     let r := s.pair p
     let turned := fun x : State => exec (.scanTurn p tip ring) s = .next ({ (((x.setPair p { PairRecord.initial with
       events := [{ type := .recordReset, value := 0, seq := r.nextSeq, time := s.now }]
       nextSeq := r.nextSeq + 1, gap := true, discard := true }).updateItem (.lineEvents p) fun y =>
         { y with orphaned := y.orphaned || y.content.isSome }).place (.lineEvents p)) with
         integrityAt := some s.now } : State).settle
     let dropped := (match s.item (.faultClaim p) with
       | some y =>
         if y.withdrawn = true then s
         else if y.content = none then s.removeItem (.faultClaim p)
         else s.updateItem (.faultClaim p) fun z => { z with withdrawn := true, orphaned := true }
       | none => s).retireTag p
     let away := ∀ cls, r.claim ≠ .linked cls true
     let waiting := s.waitList.filter fun w => w.pair != p
     let unserved := ∀ j : ReceiverNo, (s.receiver j).pair ≠ some p
     let poolFree := unserved ∧ ∀ w ∈ s.waitList, w.pair ≠ p
     (away → poolFree → s.inAccess p = false → turned dropped) ∧
     (∀ cls e, poolFree → s.inAccess p = false → r.claim = .linked cls true →
       s.ownedEntry (s.pairKey p cls) = some e → (s.entry e).check = true →
       turned (dropped.leaveEntry e s.straps.station (pairNo p))) ∧
     (away → s.inAccess p = false →
       (unserved → turned { dropped with waitList := waiting }) ∧
       (∀ j : ReceiverNo, (s.receiver j).pair = some p → (∀ i : ReceiverNo, i < j → (s.receiver i).pair ≠ some p) →
         (waiting = [] → turned (({ dropped with waitList := [] } : State).setReceiver j Receiver.idle)) ∧
         (∀ q since rest, waiting = { pair := q, since := since } :: rest →
           turned (({ dropped with waitList := rest }.lend j q).appendEvent q .receiverLate
             (min 15 ((s.now - since) / 1000)))))) ∧
     (away → poolFree → s.inAccess p = true →
       let freed : State := { dropped with bus := { s.bus with access := none } }
       let stopped : State := { freed with unit := { s.unit with
         source := false, selector := .none, measurement := none, readingDue := none } }
       ((∀ m, s.unit.measurement = some m → ¬(m.station = s.straps.station ∧ m.pair = pairNo p)) → turned freed) ∧
       (∀ m, s.unit.measurement = some m → m.station = s.straps.station → m.pair = pairNo p →
         (m.forRun = true → turned { stopped with bus := { stopped.bus with position := s.bus.position + 1 } }) ∧
         (∀ q, m.forRun = false → s.bus.test = some { pair := q, phase := .running } →
           turned (({ stopped with bus := { stopped.bus with
             test := some { pair := q, phase := .ended .abandoned [] } } } : State).place .testResult))))) ∧
  (∀ (s : State) (p : Pair) (tip ring : Int) (t : Nat), s.running = true → s.service p ≠ .absent →
     (s.pair p).check = false → (∀ cls, (s.pair p).claim ≠ .linked cls true) → s.integrityAt = some t →
     s.now - t < 10000 →
     ∃ u : State, exec (.scanTurn p tip ring) s = .next u ∧ u.station = .failed ∧ u.queue = [] ∧ u.cells = noCells ∧
       u.bus.view = .free ∧ u.bus.access = none ∧ u.unit.connected = false ∧ u.unit.source = false ∧
       (∀ e : EntryNo, u.entry e = Entry.empty) ∧ (∀ i : Fin 4, u.slot i = none) ∧ u.integrityAt = some t)

/-- An incident entry whose check fails is lost (R131), told for the first integrity error in 10 s: its DEFERRED REPLY
items are withdrawn and its defer list discarded; one that is not FREE is closed, LOST and not forced, under the key of
the key store, and the pairs of this station linked to it claim anew in ascending order (R113); one that is FREE keeps
a report LOST where it held a closing report, and where it held none is empty, an INCIDENT item that stands for it being
withdrawn (this withdrawal is the model's choice, log entry 59); one for which the key store holds no key is lost in that
last way whatever its state and report (the model's choice, log entry 61); and its confirmation run is abandoned (R144; found by
the controller's run, log entry 50). At the second error less than 10 s after the last the station enters FAILED (R176,
R177). What found the mismatch goes on with the entry as it then stands: a FAULT CLAIM draws no OWN, a LEAVE changes
nothing more, a CLEAR INCIDENT is answered NO_SUCH (R170), a reply's outcome and a timer's expiry, whatever state the
entry shows, do nothing more, and a test of R122, where one is called for, finds it first, and where none is the entry
is not read (that every entry is read at a test, and when one is made, is the model's reading, log entry 20; the key
compared is log entry 42; the clock at the expiries is log entry 2). So too where the model has an entry read beside
R131's own list (log entry 50): an INCIDENT item that leaves does nothing more, a run whose entry is lost has ended and
hands nothing over, and a claim that becomes owner is taken on the entries as they then stand. A START whose first
eligible item is the INCIDENT of such an entry builds it from the entry as it then stands, CLOSED and LOST where the
entry has a closing report, and builds nothing where it has none or the station is FAILED by it (R128, R131; that
nothing is sent then is log entries 59 and 61). -/
def Obligations.IncidentLost : Prop :=
  (∀ (s : State) (e : EntryNo), s.running = true → (∀ t, s.integrityAt = some t → 10000 ≤ s.now - t) →
     let x := s.entry e
     let replies : Item → Bool := fun y => match y.kind with
       | .deferredReply i _ _ => i == e
       | _ => false
     let left := (s.queue.filter fun y => !replies y || y.content.isSome).map fun (y : Item) =>
       if replies y = true then { y with withdrawn := true } else y
     let cut : State := { s with queue := left }
     let told := fun t : State => ({ t with integrityAt := some s.now } : State)
     ((x.state = .free ∧ x.closing = none) ∨ s.keyStore.get e = none → s.loseEntry e =
       told (((cut.writeEntry e Entry.empty).abandonRun e).withdraw (.incident e) fun y => { y with withdrawn := true })) ∧
     (∀ k c, x.state = .free → x.closing = some c → s.keyStore.get e = some k → s.loseEntry e = told ((cut.writeEntry e
       { Entry.empty with
         key := some k, changed := true, closing := some { verdict := .lost, forced := false } }).abandonRun e)) ∧
     (∀ k, x.state ≠ .free → s.keyStore.get e = some k →
       let closed := cut.writeEntry e { x with
         key := some k, state := .free, revivesConfirmed := false, verdict := .unjudged, members := [], overflow := 0
         emptyTimer := none, retryTimer := none, clearHold := none, changed := true, defers := []
         closing := some { verdict := .lost, forced := false } }
       s.loseEntry e = told (allPairs.foldl (State.unlinkOwn k false) (closed.abandonRun e)))) ∧
  (∀ (s : State) (e : EntryNo) (t : Nat), s.running = true → s.integrityAt = some t → s.now - t < 10000 →
     let u := s.loseEntry e
     u.station = .failed ∧ u.queue = [] ∧ u.cells = noCells ∧ u.bus.view = .free ∧ u.bus.access = none ∧
       (∀ i : EntryNo, u.entry i = Entry.empty) ∧ (∀ i : Fin 4, u.slot i = none)) ∧
  (∀ (s : State) (e : EntryNo), s.station = .active → (s.entry e).check = false →
     (∀ i : EntryNo, i < e → (s.entry i).check = true) →
     (s.dueTest = true → s.nextStep = some (s.loseEntry e)) ∧ (s.dueTest = false → s.nextStep = s.busStep)) ∧
  (∀ (s : State) (e : EntryNo) (key : Key) (f : RxFrame), s.ownedEntry key = some e → (s.entry e).check = false →
     let read : State := { s with abandoned := false, cells := noCells }
     let acked : State := { s with abandoned := false, cells := { noCells with ack := true } }
     (s.hears (.short .faultClaim) f →
       (∃ pr tag renew, bodyOf (.short .faultClaim) f.body = some (.faultClaim key pr tag renew)) →
       exec (.faultClaimReceived f) s = .next (acked.loseEntry e).settle) ∧
     (s.hears (.short .leave) f → (∃ pr, bodyOf (.short .leave) f.body = some (.leave key pr)) →
       exec (.leaveReceived f) s = .next (acked.loseEntry e).settle) ∧
     (∀ i : Fin 4, s.hears (.long .clearIncident) f → f.target = s.straps.station →
       bodyOf (.long .clearIncident) f.body = some (.command (.clearIncident key)) → f.authority = 0 → f.sender = 15 →
       s.slot i = none → (∀ j : Fin 4, j < i → s.slot j ≠ none) →
       let lost := (read.loseEntry e).settle
       lost.running = true → exec (.clearIncident f) s = .next
         ((({ lost with cells := { noCells with ack := true } } : State).setSlot i (some
           { command := .clearIncident key, sender := f.sender, status := some .noSuch, previousWord := none
             stationAtTaking := none, restartMark := false })).place (.reply i)))) ∧
  (∀ (s : State) (e : EntryNo) (t : Nat), s.running = true → (s.entry e).check = false →
     let lost := (({ s with now := max s.now t } : State).loseEntry e).settle
     ((s.entry e).emptyTimer = some t → exec (.emptyListExpiry e) s = .next lost) ∧
     ((s.entry e).retryTimer = some t → exec (.confirmationRetryExpiry e) s = .next lost) ∧
     ((s.entry e).clearHold = some t → exec (.clearHoldExpiry e) s = .next lost) ∧
     (∀ m ∈ (s.entry e).members, m.station ≠ s.straps.station → m.renewed + 150000 = t →
       (∀ n ∈ (s.entry e).members, n.station = m.station → n.pair = m.pair → n = m) →
       exec (.memberExpiry e m.station m.pair) s = .next lost)) ∧
  (∀ (s : State) (x : Item) (e : EntryNo) (st : StationNo) (pr : PairNo) (c : Cells), s.sending x →
     x.kind = .deferredReply e st pr → (s.entry e).check = false →
     exec (.deferredReplyOutcome (.sent c)) s = .next
       (((({ s with abandoned := false } : State).loseEntry e).removeItem (.deferredReply e st pr)).settle)) ∧
  (∀ (s : State) (x : Item) (e : EntryNo) (c : Cells), s.sending x → x.kind = .incident e → (s.entry e).check = false →
     c.void = false → c.stall = false → c.ack = true →
     exec (.incidentOutcome (.sent c)) s =
       .next (((({ s with abandoned := false } : State).removeItem (.incident e)).loseEntry e).settle)) ∧
  (∀ (s : State) (run : Run) (result : RunResult), s.bus.run = some run → (s.entry run.entry).check = false →
     s.concludeRun result = State.loseEntry
       { s with
         dueTest := true, bus := { s.bus with run := none, tested := 0, faulted := 0, position := 0 } } run.entry) ∧
  (∀ (s : State) (x : Item) (p : Pair) (key : Key) (pr : PairNo) (tag : BitVec 5) (renew : Bool) (c : Cells)
     (e : EntryNo), s.QueueOk → s.sending x → x.kind = .faultClaim p → x.content = some (.faultClaim key pr tag renew) →
     x.orphaned = false → x.withdrawn = false → x.superseded = false → c.void = false → c.stall = false → c.own = false →
     s.entryToTake key = some e → (s.entry e).check = false → (s.loseEntry e).running = true →
     exec (.faultClaimOutcome (.sent c)) s = exec (.faultClaimOutcome (.sent c)) (s.loseEntry e)) ∧
  (∀ (s : State) (x : Item) (e : EntryNo), s.station = .active → s.inFlight = none →
     s.queue.find? s.eligible = some x → x.kind = .incident e → (s.entry e).check = false →
     let lost := (({ s with abandoned := false } : State).loseEntry e).settle
     let y := lost.entry e
     let told := lost.writeEntry e { y with changed := false }
     (lost.running = false → exec .contentionStart s = .next lost) ∧
     (lost.running = true → y.state = .free →
       (∀ k c, y.key = some k → y.closing = some c →
         exec .contentionStart s = .next (told.updateItem (.incident e) fun z =>
           { z with content := some (.incident k .closed c.verdict c.forced 0 []) })) ∧
       (y.closing = none → exec .contentionStart s = .next told)))

/-! ### What the station does of its own accord -/

/-- What the controller does next (R132, R136, R137, R141, R144), told where no test of R122 is called for (log entry
20): nothing outside ACTIVE, nothing where no next step is left, and a next step that leaves none is all that
is carried out; a LOCK item for a waiting job on a FREE bus, and its withdrawal when the view leaves FREE or no job
waits any longer; and for a holder with nothing being measured: a RELEASE of the pair it has in access elsewhere, the
UNLOCK of an abandoned run, whatever jobs wait, in a calibration too (log entry 17; beside R136 for a job requested
since, log entry 48), an UNLOCK when nothing is left to do, in a calibration too (log entry 15), and, calibrated, the waiting run begun with a QUIET placed
for its first member, one of another station. -/
def Obligations.ControllerActs : Prop :=
  ∀ s : State,
    (s.station ≠ .active → s.settle = s) ∧ (s.nextStep = none → s.settle = s) ∧
    (∀ t : State, s.nextStep = some t → t.nextStep = none → s.settle = t) ∧
    (s.station = .active → s.dueTest = false →
      (∀ x, s.item .testBus = some x → x.kind = .lock false → x.withdrawn = false → s.bus.view ≠ .mine →
        (s.bus.view ≠ .free ∨ (runWaiting s.bus = false ∧ testWaiting s.bus = false)) →
        (x.content = none → s.nextStep = some (s.removeItem .testBus)) ∧
        (x.content ≠ none → s.nextStep = some (s.updateItem .testBus fun y => { y with withdrawn := true }))) ∧
      (s.hasItem .testBus = false →
        (s.bus.view = .free → s.bus.restraint = none → (runWaiting s.bus = true ∨ testWaiting s.bus = true) →
          s.settle = s.place (.lock false)) ∧
        (∀ st pr, s.bus.view = .mine → s.unit.measurement = none → s.bus.remote = some (st, pr) →
          s.settle = s.place (.release st pr)) ∧
        (s.bus.view = .mine → s.unit.measurement = none → s.bus.remote = none → s.bus.releaseWait = none →
          (s.bus.unlockDue = true →
            s.settle = ({ s.place .unlock with bus := { s.bus with unlockDue := false } } : State)) ∧
          (s.bus.unlockDue = false → s.bus.run = none → s.bus.test = none → s.settle = s.place .unlock) ∧
          (∀ e k d m rest, s.unit.selector ≠ .cal → s.bus.unlockDue = false →
            s.bus.run = some { entry := e, key := k, deadline := some d } →
            (∀ p, s.bus.test ≠ some { pair := p, phase := .running }) → s.unit.calibrationPassed = true →
            (s.entry e).members = m :: rest → m.leaving = false → m.station ≠ s.straps.station →
            s.settle = ({ s with bus := { s.bus with
              run := some { entry := e, key := k, deadline := none }, tested := 0, faulted := 0, position := 0 } } :
                State).place (.quiet m.station m.pair k.cls)))))

/-- How a calibrated holder goes on with its jobs, told where no test of R122 is called for (log entry 20) and nothing
is measured, placed or waited for. A running confirmation run at its position (R139, R141, R142): a leaving
member is skipped; a pair of this station is accessed and measured, or skipped where it is not testable; for one of
another station a QUIET is placed; at 3 tested, or at the end of the list, the run concludes with its counts. A waiting
uplink test with no run (R137, R143, R149): UNIT_FAILED with no calibration passed or a failed unit, BUSY where the
pair is not testable, and otherwise the test runs, its pair accessed and measured. And how the run of a closed entry is
abandoned (R113, R144): one that waits is dropped, with an UNLOCK due where the lock is held (log entry 17); of one
that runs the measurement and a local access end, a QUIET item is withdrawn (log entry 14), and an UNLOCK is due; where
the run that stands is another entry's, nothing ends (log entry 50). The end of a run calls for a test of R122. -/
def Obligations.RunAndTestProceed : Prop :=
  (∀ s : State, s.station = .active → s.dueTest = false →
     s.bus.view = .mine → s.unit.measurement = none → s.bus.remote = none → s.bus.releaseWait = none →
     s.unit.selector ≠ .cal → s.bus.unlockDue = false → s.hasItem .testBus = false →
     let untestable := fun p : Pair => (s.pair p).loop = .seizePending ∨ (s.pair p).loop = .offHook ∨
       (s.pair p).loop = .inBreak ∨ (s.pair p).receiver.isSome = true ∨ (s.pair p).freeze ≠ .unfrozen ∨
       s.bus.access.isSome = true
     let accessed := fun (p : Pair) (forRun : Bool) (bus : TestBus) => ({ s.setPair p
         { s.pair p with freeze := .access } with
       bus := { bus with access := some { pair := p, holder := s.straps.station, began := s.now } }
       unit := { s.unit with
         measurement := some { station := s.straps.station, pair := pairNo p, forRun := forRun, leg := .tip, vOff := none
                               records := [] }
         selector := .leg .tip, source := false, readingDue := some (s.now + 200) } } : State)
     let passed : State := { s with bus := { s.bus with position := s.bus.position + 1 } }
     (∀ e k, s.bus.run = some { entry := e, key := k, deadline := none } →
       (∀ m, (s.entry e).members[s.bus.position]? = some m → s.bus.tested < 3 →
         (m.leaving = true → s.nextStep = some passed) ∧
         (m.leaving = false → m.station ≠ s.straps.station → s.settle = s.place (.quiet m.station m.pair k.cls)) ∧
         (∀ p, m.leaving = false → m.station = s.straps.station → m.pair = pairNo p →
           (untestable p → s.nextStep = some passed) ∧
           (¬untestable p → s.unit.calibrationPassed = true → s.settle = accessed p true s.bus))) ∧
       ((3 ≤ s.bus.tested ∨ (s.entry e).members.length ≤ s.bus.position) →
         s.nextStep = some (s.concludeRun (.counts s.bus.tested s.bus.faulted)))) ∧
     (∀ p d, s.bus.run = none → s.bus.test = some { pair := p, phase := .waiting d } →
       let ended := fun outcome : TestOutcome => ((({ s with
         bus := { s.bus with test := some { pair := p, phase := .ended outcome [] } } } : State).place .testResult).place
           .unlock)
       ((s.unit.calibrationPassed = false ∨ s.unit.failed = true) → s.settle = ended .unitFailed) ∧
       (s.unit.calibrationPassed = true → s.unit.failed = false →
         (untestable p ∨ s.service p = .absent → s.settle = ended .busy) ∧
         (¬untestable p → s.service p ≠ .absent →
           s.settle = accessed p false { s.bus with test := some { pair := p, phase := .running } })))) ∧
  (∀ (s : State) (e : EntryNo), s.bus.run = none → s.abandonRun e = s) ∧
  (∀ (s : State) (run : Run), s.bus.run = some run →
     let dropped := { s.bus with run := none, tested := 0, faulted := 0, position := 0 }
     let stopped := { s.unit with source := false, selector := .none, measurement := none, readingDue := none }
     (∀ e, e ≠ run.entry → s.abandonRun e = s) ∧
     (∀ d, run.deadline = some d →
       (s.bus.view ≠ .mine → s.abandonRun run.entry = { s with dueTest := true, bus := dropped }) ∧
       (s.bus.view = .mine →
         s.abandonRun run.entry = { s with dueTest := true, bus := { dropped with unlockDue := true } })) ∧
     (run.deadline = none → (∀ x st pr cls, s.item .testBus = some x → x.kind ≠ .quiet st pr cls) →
       ((∀ a, s.bus.access = some a → a.holder ≠ s.straps.station) →
         s.abandonRun run.entry = { s with
           dueTest := true, bus := { dropped with unlockDue := true }, unit := stopped }) ∧
       (∀ a, s.bus.access = some a → a.holder = s.straps.station →
         s.abandonRun run.entry = { s.setPair a.pair
             { s.pair a.pair with freeze := .unfrozen, closedRun := 0, breakLength := 0, feedDead := 0 } with
           dueTest := true, bus := { dropped with access := none, unlockDue := true }, unit := stopped })) ∧
     (∀ x st pr cls, run.deadline = none → s.item .testBus = some x → x.kind = .quiet st pr cls → s.bus.access = none →
       s.abandonRun run.entry = { (s.withdraw .testBus fun y => { y with withdrawn := true }) with
         dueTest := true, bus := { dropped with unlockDue := true }, unit := stopped }))

/-! ### Invariants -/

/-- Every step keeps the pair records within their bounds: the event list at most 8 long and numbered in one run,
every counter in its range, no integrator's class latched at 0, and stale exactly while frozen by FEED (R1, R9, R11,
R74, R79). -/
def Obligations.StepKeepsRecords : Prop :=
  ∀ s t : State, s.RecordsOk → s.AccessOk → step s = .next t → t.RecordsOk

/-- Every step keeps the incident table within its bounds, and each entry's key in the key store (R111). -/
def Obligations.StepKeepsEntries : Prop :=
  ∀ s t : State, s.EntriesOk → step s = .next t → t.EntriesOk

/-- Every step keeps the transmit queue in the order of precedence, with one item of a name and at most one frame in
contention or on the bus, in ACTIVE alone (R103 to R105, R110). The precedence of an item is that of its kind (R102),
and the four test-bus kinds bear one name (R104). An item placed in a queue in order stands behind every item of its
precedence or a lower value and before the others, new and eligible; none is placed where one of its name stands, nor
outside LISTEN_IN and ACTIVE (R103, R104, R110). -/
def Obligations.StepKeepsQueue : Prop :=
  (∀ s t : State, s.QueueOk → step s = .next t → t.QueueOk) ∧
  (∀ (p : Pair) (key : Key) (e : EntryNo) (st : StationNo) (pr : PairNo) (cls : FaultClass) (keepAlive : Bool)
     (i : Fin 4),
     (∀ k ∈ [ItemKind.lock keepAlive, .unlock, .quiet st pr cls, .release st pr],
       itemPrecedence k = 0 ∧ itemRef k = .testBus) ∧
     (∀ k ∈ [ItemKind.faultClaim p, .leave p key, .deferredReply e st pr], itemPrecedence k = 1) ∧
     itemPrecedence (.reply i) = 2 ∧ itemPrecedence (.lineEvents p) = 3 ∧
     (∀ k ∈ [ItemKind.incident e, .testResult], itemPrecedence k = 4)) ∧
  (∀ (s : State) (k : ItemKind),
     (s.QueueOk → s.running = true → (∀ y ∈ s.queue, itemRef y.kind ≠ itemRef k) →
       let item : Item := { kind := k, attempts := 0, round := 0, backoff := none, content := none, withdrawn := false
                            superseded := false, orphaned := false }
       let before := s.queue.filter fun y => decide (itemPrecedence y.kind ≤ itemPrecedence k)
       let behind := s.queue.filter fun y => decide (itemPrecedence k < itemPrecedence y.kind)
       s.place k = { s with queue := before ++ [item] ++ behind }) ∧
     ((s.running = false ∨ ∃ y ∈ s.queue, itemRef y.kind = itemRef k) → s.place k = s))

/-- Every step keeps the agreements of the test bus and of the tone pool: the last accepted time and the unit's
connection stand exactly in MINE, and nothing is measured and no source is on outside it; a pair's freeze cause is
ACCESS exactly while it is in TEST_ACCESS; a receiver is IDLE exactly when it serves no pair, it names a pair exactly
when the pair's record names it, no pair waits twice or waits with a receiver, while any pair waits every receiver is
lent, and a pair that is not EQUIPPED neither holds a receiver nor waits (R54, R56 to R60, R132, R139, R145, R146). -/
def Obligations.StepKeepsHoldingAccessAndPool : Prop :=
  ∀ s t : State, step s = .next t →
    (s.HolderOk → t.HolderOk) ∧ (s.AccessOk → t.AccessOk) ∧ (s.PoolOk → t.PoolOk)

/-- Every step keeps, while the station runs, what the claim states, the claim tags and the FAULT CLAIM items promise
one another, in a queue in order: no pair holds two tags (R84), a PENDING pair holds a tag and has its item, a DEFERRED
one holds the tag of its deferral, a LINKED one holds a tag exactly while its renewal stands, a pair LINKED here, one
held off and one with no claim hold none; a frame that is not superseded carries the tag its pair holds; and a pair
that is not EQUIPPED has no claim (R84, R85, R89, R114, R116, R168). -/
def Obligations.StepKeepsClaims : Prop :=
  ∀ s t : State, s.QueueOk → s.ClaimsOk → step s = .next t → t.ClaimsOk

/-- Every step keeps, while the station runs, that an entry is CONFIRMING exactly when the confirmation run stands for
it, so that at most one entry is, and that the run holds its entry's key (R122, R123, R156). -/
def Obligations.StepKeepsRun : Prop :=
  ∀ s t : State, s.RunOk → step s = .next t → t.RunOk

/-- Every command keeps the two copies of the service alike (R1), leaves the commands that wait alone (the model's own
queue), and changes the straps at the release of the reset pin alone (R172). -/
def Obligations.CommandsKeepServiceAndStraps : Prop :=
  ∀ (c : Instr) (s t : State), exec c s = .next t →
    (s.ServicesOk → t.ServicesOk) ∧ t.pending = s.pending ∧
    ((∀ straps, c ≠ .resetPinRelease straps) → t.straps = s.straps)

/-- The machine right after reset has every invariant. -/
def Obligations.ResetMeetsInvariants : Prop :=
  State.reset.RecordsOk ∧ State.reset.EntriesOk ∧ State.reset.QueueOk ∧ State.reset.HolderOk ∧ State.reset.AccessOk ∧
    State.reset.PoolOk ∧ State.reset.ClaimsOk ∧ State.reset.RunOk ∧ State.reset.ServicesOk

/-! ### Frames -/

/-- A frame of any kind but REPLY, sent by R95 with the check of R180, is read right in check and length, and its body
is read back as it was sent (R95, R96, R179 to R182). A frame's run of cells is START, the header in the order of its
table, the body, the 16 check cells and the response cells VOID, ACK, OWN, DEFER, STALL, driven as 0, of which a sender
drives none: 34 + 8n cells in the short form and 44 + 8n in the long form, for n body bytes (R95, R100, R179). A REPLY
that answers its command with fields in range is read right in check and length, and its body is of the length that
R181 gives its view; it holds the kind less 8, the status, the command's fields and then the fields of its view, each
of its width in the order of R181, an absent part as 0 (that an IDLE receiver's pair, and a holder's own number, are
sent as 0 is the model's reading, log entries 26 and 49). That a CLOSED INCIDENT with members or a member count other than
0 is read without a length error (log entry 45), and that a REPLY to one of the two queries with status ACCEPTED, BUSY or
UNIT_FAILED adds nothing and is read so too (log entry 52), are the model's choices. Any run of fields is read back from the packed body, each at
its place. The codes are those of R182. -/
def Obligations.BodyRoundTrip : Prop :=
  (∀ (b : Body) (sender target : StationNo) (authority : BitVec 2), b.fits →
     let f := frameOf sender target authority b
     f.body = bodyBytes b ∧ f.body.length ≤ 15 ∧ checkError (bodyKind b) f = false ∧
       lengthError (bodyKind b) f = false ∧ bodyOf (bodyKind b) f.body = some b) ∧
  (∀ (f : RxFrame) (c : Cells) (kind : FrameKind),
     let start := [false] ++ fieldBits 3 f.precedence.toNat ++ fieldBits 4 (~~~f.sender).toNat
     let body := f.body.flatMap fun byte => fieldBits 8 byte.toNat
     let rest := body ++ fieldBits 16 f.check.toNat ++ [!c.void, !c.ack, !c.own, !c.defer, !c.stall]
     (∀ k, kind = .short k →
       frameCells kind f c = start ++ [false] ++ fieldBits 4 (shortKindCode k) ++ rest ∧
       (frameCells kind f c).length = 34 + 8 * f.body.length) ∧
     (∀ k, kind = .long k →
       frameCells kind f c = start ++ [true] ++ fieldBits 4 (longKindCode k) ++ fieldBits 4 f.target.toNat ++
         fieldBits 2 f.authority.toNat ++ fieldBits 4 f.body.length ++ rest ∧
       (frameCells kind f c).length = 44 + 8 * f.body.length)) ∧
  (∀ (b : Body) (sender target : StationNo) (authority : BitVec 2),
     let f := sentFrame sender target authority b
     f.kind = bodyKind b ∧ f.frame = frameOf sender target authority b ∧ f.length = f.frame.body.length ∧
       f.cells = frameCells f.kind f.frame { void := false, ack := false, own := false, defer := false, stall := false }) ∧
  (∀ (cmd : Command) (status : Status) (v : View) (sender target : StationNo) (authority : BitVec 2),
     v.answers cmd status → v.fits →
     let f := frameOf sender target authority (.reply cmd status v)
     checkError (.long .reply) f = false ∧ lengthError (.long .reply) f = false ∧
       f.body.length = match v with
         | .nothing => (match cmd with
           | .queryPair _ _ => 2 | .queryIncident _ _ => 3 | .testPair _ => 2 | .park _ => 2 | .unpark _ => 2
           | .clearIncident _ => 3 | .restart => 1)
         | .previousWord _ => 3 | .line _ => 11 | .fault _ => 10 | .identity _ => 9 | .condition _ _ _ _ => 3
         | .testBus _ => 10 | .lastMeasured _ => 15 | .tonePool _ _ _ => 13
         | .incident _ _ _ _ _ ms => 6 + (10 * ms.length + 6) / 8) ∧
  (∀ (cmd : Command) (status : Status) (v : View),
     let flag := fun b : Bool => (1, if b then 1 else 0)
     let signed := fun (w : Nat) (x : Int) => (w, (x % (2 ^ w : Nat)).toNat)
     let key := fun k : Key => [(4, k.cable.toNat), (5, k.binder.toNat), (2, classCode k.cls)]
     let asked := match cmd with
       | .queryPair index part => [(3, 0), (3, statusCode status), (5, index.toNat), (2, part.toNat)]
       | .queryIncident k page => [(3, 1), (3, statusCode status)] ++ key k ++ [(3, page.toNat)]
       | .testPair pr => [(3, 2), (3, statusCode status), (5, pr.toNat)]
       | .park pr => [(3, 3), (3, statusCode status), (5, pr.toNat)]
       | .unpark pr => [(3, 4), (3, statusCode status), (5, pr.toNat)]
       | .clearIncident k => [(3, 5), (3, statusCode status)] ++ key k
       | .restart => [(3, 6), (3, statusCode status)]
     bodyBytes (.reply cmd status v) = packBytes (bitsOfFields (asked ++ match v with
       | .nothing => []
       | .previousWord word => [signed 8 word]
       | .line l => [signed 8 l.serviceWord, (3, loopCode l.loop), (2, freezeCode l.freeze), flag l.ringingHold,
           flag l.dialled, (4, l.pulseCount), (8, l.loopRun), (5, l.lockoutSeconds),
           (3, match l.receiver with
             | some i => i.val
             | none => 4),
           flag l.inAccess, signed 12 l.vTip, signed 12 l.vRing, (4, l.eventCount), (4, l.nextSeq.toNat), flag l.gap,
           flag l.stale]
       | .fault u => [signed 8 u.serviceWord, (2, faultStateCode u.fault), (5, u.recovery), flag u.latched.feedLoss,
           flag u.latched.foreign, flag u.latched.groundLeak, flag u.latched.permanentLoop, (4, u.feedLoss),
           (4, u.foreign), (4, u.groundLeak), (16, u.dref16), (3, claimCode u.claim)] ++
           (match u.tag with
             | some (tag, cls) => [(5, tag.val), (2, classCode cls)]
             | none => [(5, 0), (2, 0)]) ++
           (match u.claim with
             | .linked cls owned => [(2, classCode cls), flag owned]
             | _ => [(2, 0), (1, 0)]) ++
           (match u.timerSeconds with
             | some n => [(1, 1), (6, n)]
             | none => [(1, 0), (6, 0)])
       | .identity x => [(12, 0x0D3), (16, 0x0C24), (4, 3), (4, x.station.toNat), (4, x.cable.toNat),
           (5, x.binderA.toNat), (5, x.binderB.toNat), (5, x.split.toNat), (2, x.pairCount.toNat)]
       | .condition active failed integrity held => [flag active, flag failed, flag integrity, (4, held)]
       | .testBus b =>
           (match b.view with
             | .free => [(2, 0), (4, 0), (4, 0)]
             | .held holder age => [(2, 1), (4, holder.toNat), (4, age)]
             | .mine age => [(2, 2), (4, 0), (4, age)]) ++ [flag b.restraint, flag b.releaseWait] ++
           (match b.access with
             | some (pair, holder) => [(1, 1), (5, pair.val), (4, holder.toNat)]
             | none => [(1, 0), (5, 0), (4, 0)]) ++
           (match b.run with
             | .absent => [(2, 0), (11, 0)]
             | .waiting k => (2, 1) :: key k
             | .running k => (2, 2) :: key k) ++ [(2, b.tested), (2, b.faulted)] ++
           (match b.slot with
             | .empty => [(3, 0), (5, 0)]
             | .waiting pair => [(3, 1), (5, pair.val)]
             | .running pair => [(3, 2), (5, pair.val)]
             | .ended pair .done => [(3, 3), (5, pair.val)]
             | .ended pair .busy => [(3, 4), (5, pair.val)]
             | .ended pair .noBus => [(3, 5), (5, pair.val)]
             | .ended pair .unitFailed => [(3, 6), (5, pair.val)]
             | .ended pair .abandoned => [(3, 7), (5, pair.val)]) ++
           (match b.vCal with
             | some x => [signed 14 x, (1, 1)]
             | none => [(14, 0), (1, 0)]) ++ [flag b.calibrationPassed]
       | .lastMeasured (some m) => (5, m.pair.toNat) :: m.legs.flatMap fun l =>
           match l.measured with
           | some y => [signed 14 l.vOff, (1, 0), (16, y.resistance), (2, legClassCode y.cls)]
           | none => [signed 14 l.vOff, (1, 1), (16, 0), (2, 0)]
       | .lastMeasured none => [(5, 31), (14, 0), (1, 0), (16, 0), (2, 0), (14, 0), (1, 0), (16, 0), (2, 0), (14, 0),
           (1, 0), (16, 0), (2, 0)]
       | .tonePool receivers waiting head =>
           (receivers.flatMap fun r => [(3, receiverStateCode r.1), (5, match r.2 with
             | some pair => pair.val
             | none => 0)]) ++ [(5, waiting)] ++ (head.flatMap fun w => [(5, w.1.val), (4, w.2)]) ++
           (List.replicate (6 - head.length) [(5, 0), (4, 0)]).flatten
       | .incident st verdict listed overflow deferred ms =>
           [(3, reportedCode st), (3, verdictCode verdict), (6, listed), (8, overflow), (4, deferred),
             (3, ms.length)] ++ ms.flatMap fun m => [(4, m.station.toNat), (5, m.pair.toNat), flag m.leaving]))) ∧
  (∀ (fs : List Field) (i : Nat) (x : Field), (∀ y ∈ fs, y.2 < 2 ^ y.1) → fs[i]? = some x →
     fieldAt ((fs.take i).map Prod.fst).sum x.1 (bitsOfBytes (packBytes (bitsOfFields fs))) = x.2) ∧
  ([FaultClass.feedLoss, .foreign, .groundLeak, .permanentLoop].map classCode = [0, 1, 2, 3] ∧
   [EventType.offhook, .onhook, .flash, .digitPulse, .digitTone, .digitError, .lockout, .ringOn, .ringOff, .feedLost,
     .feedBack, .fault, .faultClear, .receiverLate, .recordReset].map eventCode = List.range 15 ∧
   [Status.done, .accepted, .denied, .absent, .noSuch, .busy, .unitFailed].map statusCode = List.range 7 ∧
   [LoopState.onHook, .seizePending, .offHook, .inBreak, .lockout].map loopCode = List.range 5 ∧
   [FreezeCause.unfrozen, .feed, .access].map freezeCode = List.range 3 ∧
   [FaultState.clear, .faulted, .recovering].map faultStateCode = List.range 3 ∧
   (∀ (t : Tag) (cls : FaultClass) (owned : Bool),
     [ClaimState.unclaimed, .pending, .deferred t, .linked cls owned, .heldOff].map claimCode = List.range 5) ∧
   [ReportedState.opened, .confirming, .confirmed, .clearing, .closed].map reportedCode = List.range 5 ∧
   [Verdict.unjudged, .confirmed, .partly, .notFound, .untested, .lost].map verdictCode = List.range 6 ∧
   [TestOutcome.done, .busy, .noBus, .unitFailed, .abandoned].map outcomeCode = List.range 5 ∧
   [LegClass.severe, .low, .marginal, .good].map legClassCode = List.range 4 ∧
   [ReceiverState.idle, .listen, .candidate, .toneOn, .ending].map receiverStateCode = List.range 5)
end

