-- ==== Sys2Proof/Laws/State.lean ====
section
/-! SUPPORT. What each named operation leaves alone: one lemma for each field and each operation, and what reading a record,
a receiver, an entry or a slot gives after a write. -/

namespace Sys2Proof.Machine

set_option Elab.async false

/-! ### Reading after writing -/

theorem get_set {α : Type} {n : Nat} (v : Vector α n) (i j : Fin n) (x : α) :
    (v.set i.val x i.isLt).get j = if j = i then x else v.get j := by
  show (v.set i.val x i.isLt)[j.val] = _
  rw [Vector.getElem_set]
  by_cases h : j = i
  · subst h; simp
  · have h' : i.val ≠ j.val := fun e => h (Fin.ext e.symm)
    simp only [h, h', if_false]; rfl

theorem State.pair_setPair (s : State) (p q : Pair) (r : PairRecord) :
    (s.setPair p r).pair q = if q = p then { r with check := true } else s.pair q := get_set _ _ _ _

@[simp] theorem State.pair_setPair_same (s : State) (p : Pair) (r : PairRecord) :
    (s.setPair p r).pair p = { r with check := true } := by simp [State.pair_setPair]

@[simp] theorem State.pair_setPair_ne (s : State) (p q : Pair) (r : PairRecord) (h : q ≠ p) :
    (s.setPair p r).pair q = s.pair q := by simp [State.pair_setPair, h]

theorem State.pair_modPair (s : State) (p q : Pair) (f : PairRecord → PairRecord) :
    (s.modPair p f).pair q = if q = p then { f (s.pair p) with check := true } else s.pair q := get_set _ _ _ _

@[simp] theorem State.pair_modPair_same (s : State) (p : Pair) (f : PairRecord → PairRecord) :
    (s.modPair p f).pair p = { f (s.pair p) with check := true } := by simp [State.pair_modPair]

@[simp] theorem State.pair_modPair_ne (s : State) (p q : Pair) (f : PairRecord → PairRecord) (h : q ≠ p) :
    (s.modPair p f).pair q = s.pair q := by simp [State.pair_modPair, h]

theorem State.receiver_setReceiver (s : State) (r q : ReceiverNo) (x : Receiver) :
    (s.setReceiver r x).receiver q = if q = r then x else s.receiver q := get_set _ _ _ _

@[simp] theorem State.receiver_setReceiver_same (s : State) (r : ReceiverNo) (x : Receiver) :
    (s.setReceiver r x).receiver r = x := by simp [State.receiver_setReceiver]

@[simp] theorem State.receiver_setReceiver_ne (s : State) (r q : ReceiverNo) (x : Receiver) (h : q ≠ r) :
    (s.setReceiver r x).receiver q = s.receiver q := by simp [State.receiver_setReceiver, h]

theorem State.slot_setSlot (s : State) (i j : Fin 4) (x : Option ReplySlot) :
    (s.setSlot i x).slot j = if j = i then x else s.slot j := get_set _ _ _ _

@[simp] theorem State.slot_setSlot_same (s : State) (i : Fin 4) (x : Option ReplySlot) : (s.setSlot i x).slot i = x := by
  simp [State.slot_setSlot]

theorem State.service_setService (s : State) (p q : Pair) (v : Service) :
    (s.setService p v).service q = if q = p then v else s.service q := get_set _ _ _ _

@[simp] theorem State.service_setService_same (s : State) (p : Pair) (v : Service) : (s.setService p v).service p = v := by
  simp [State.service_setService]

/-! ### What an operation leaves alone -/

@[simp] theorem State.elapseTo_station (s : State) (t : Nat) : (s.elapseTo t).station = s.station := rfl
@[simp] theorem State.elapseTo_listenUntil (s : State) (t : Nat) : (s.elapseTo t).listenUntil = s.listenUntil :=
  rfl
@[simp] theorem State.elapseTo_straps (s : State) (t : Nat) : (s.elapseTo t).straps = s.straps := rfl
@[simp] theorem State.elapseTo_integrityAt (s : State) (t : Nat) : (s.elapseTo t).integrityAt = s.integrityAt :=
  rfl
@[simp] theorem State.elapseTo_pairs (s : State) (t : Nat) : (s.elapseTo t).pairs = s.pairs := rfl
@[simp] theorem State.elapseTo_serviceA (s : State) (t : Nat) : (s.elapseTo t).serviceA = s.serviceA := rfl
@[simp] theorem State.elapseTo_serviceB (s : State) (t : Nat) : (s.elapseTo t).serviceB = s.serviceB := rfl
@[simp] theorem State.elapseTo_receivers (s : State) (t : Nat) : (s.elapseTo t).receivers = s.receivers := rfl
@[simp] theorem State.elapseTo_waitList (s : State) (t : Nat) : (s.elapseTo t).waitList = s.waitList := rfl
@[simp] theorem State.elapseTo_tags (s : State) (t : Nat) : (s.elapseTo t).tags = s.tags := rfl
@[simp] theorem State.elapseTo_tagPointer (s : State) (t : Nat) : (s.elapseTo t).tagPointer = s.tagPointer :=
  rfl
@[simp] theorem State.elapseTo_entries (s : State) (t : Nat) : (s.elapseTo t).entries = s.entries := rfl
@[simp] theorem State.elapseTo_keyStore (s : State) (t : Nat) : (s.elapseTo t).keyStore = s.keyStore := rfl
@[simp] theorem State.elapseTo_bus (s : State) (t : Nat) : (s.elapseTo t).bus = s.bus := rfl
@[simp] theorem State.elapseTo_unit (s : State) (t : Nat) : (s.elapseTo t).unit = s.unit := rfl
@[simp] theorem State.elapseTo_slots (s : State) (t : Nat) : (s.elapseTo t).slots = s.slots := rfl
@[simp] theorem State.elapseTo_queue (s : State) (t : Nat) : (s.elapseTo t).queue = s.queue := rfl
@[simp] theorem State.elapseTo_abandoned (s : State) (t : Nat) : (s.elapseTo t).abandoned = s.abandoned := rfl
@[simp] theorem State.elapseTo_cells (s : State) (t : Nat) : (s.elapseTo t).cells = s.cells := rfl
@[simp] theorem State.elapseTo_dueTest (s : State) (t : Nat) : (s.elapseTo t).dueTest = s.dueTest := rfl
@[simp] theorem State.elapseTo_choices (s : State) (t : Nat) : (s.elapseTo t).choices = s.choices := rfl
@[simp] theorem State.elapseTo_pending (s : State) (t : Nat) : (s.elapseTo t).pending = s.pending := rfl

@[simp] theorem State.setPair_station (s : State) (p : Pair) (r : PairRecord) : (s.setPair p r).station = s.station :=
  rfl
@[simp] theorem State.setPair_now (s : State) (p : Pair) (r : PairRecord) : (s.setPair p r).now = s.now := rfl
@[simp] theorem State.setPair_listenUntil (s : State) (p : Pair) (r : PairRecord) : (s.setPair p r).listenUntil = s.listenUntil :=
  rfl
@[simp] theorem State.setPair_straps (s : State) (p : Pair) (r : PairRecord) : (s.setPair p r).straps = s.straps :=
  rfl
@[simp] theorem State.setPair_integrityAt (s : State) (p : Pair) (r : PairRecord) : (s.setPair p r).integrityAt = s.integrityAt :=
  rfl
@[simp] theorem State.setPair_serviceA (s : State) (p : Pair) (r : PairRecord) : (s.setPair p r).serviceA = s.serviceA :=
  rfl
@[simp] theorem State.setPair_serviceB (s : State) (p : Pair) (r : PairRecord) : (s.setPair p r).serviceB = s.serviceB :=
  rfl
@[simp] theorem State.setPair_receivers (s : State) (p : Pair) (r : PairRecord) : (s.setPair p r).receivers = s.receivers :=
  rfl
@[simp] theorem State.setPair_waitList (s : State) (p : Pair) (r : PairRecord) : (s.setPair p r).waitList = s.waitList :=
  rfl
@[simp] theorem State.setPair_tags (s : State) (p : Pair) (r : PairRecord) : (s.setPair p r).tags = s.tags :=
  rfl
@[simp] theorem State.setPair_tagPointer (s : State) (p : Pair) (r : PairRecord) : (s.setPair p r).tagPointer = s.tagPointer :=
  rfl
@[simp] theorem State.setPair_entries (s : State) (p : Pair) (r : PairRecord) : (s.setPair p r).entries = s.entries :=
  rfl
@[simp] theorem State.setPair_keyStore (s : State) (p : Pair) (r : PairRecord) : (s.setPair p r).keyStore = s.keyStore :=
  rfl
@[simp] theorem State.setPair_bus (s : State) (p : Pair) (r : PairRecord) : (s.setPair p r).bus = s.bus := rfl
@[simp] theorem State.setPair_unit (s : State) (p : Pair) (r : PairRecord) : (s.setPair p r).unit = s.unit :=
  rfl
@[simp] theorem State.setPair_slots (s : State) (p : Pair) (r : PairRecord) : (s.setPair p r).slots = s.slots :=
  rfl
@[simp] theorem State.setPair_queue (s : State) (p : Pair) (r : PairRecord) : (s.setPair p r).queue = s.queue :=
  rfl
@[simp] theorem State.setPair_abandoned (s : State) (p : Pair) (r : PairRecord) : (s.setPair p r).abandoned = s.abandoned :=
  rfl
@[simp] theorem State.setPair_cells (s : State) (p : Pair) (r : PairRecord) : (s.setPair p r).cells = s.cells :=
  rfl
@[simp] theorem State.setPair_dueTest (s : State) (p : Pair) (r : PairRecord) : (s.setPair p r).dueTest = s.dueTest :=
  rfl
@[simp] theorem State.setPair_choices (s : State) (p : Pair) (r : PairRecord) : (s.setPair p r).choices = s.choices :=
  rfl
@[simp] theorem State.setPair_pending (s : State) (p : Pair) (r : PairRecord) : (s.setPair p r).pending = s.pending :=
  rfl

@[simp] theorem State.modPair_station (s : State) (p : Pair) (f : PairRecord → PairRecord) : (s.modPair p f).station = s.station :=
  rfl
@[simp] theorem State.modPair_now (s : State) (p : Pair) (f : PairRecord → PairRecord) : (s.modPair p f).now = s.now :=
  rfl
@[simp] theorem State.modPair_listenUntil (s : State) (p : Pair) (f : PairRecord → PairRecord) : (s.modPair p f).listenUntil = s.listenUntil :=
  rfl
@[simp] theorem State.modPair_straps (s : State) (p : Pair) (f : PairRecord → PairRecord) : (s.modPair p f).straps = s.straps :=
  rfl
@[simp] theorem State.modPair_integrityAt (s : State) (p : Pair) (f : PairRecord → PairRecord) : (s.modPair p f).integrityAt = s.integrityAt :=
  rfl
@[simp] theorem State.modPair_serviceA (s : State) (p : Pair) (f : PairRecord → PairRecord) : (s.modPair p f).serviceA = s.serviceA :=
  rfl
@[simp] theorem State.modPair_serviceB (s : State) (p : Pair) (f : PairRecord → PairRecord) : (s.modPair p f).serviceB = s.serviceB :=
  rfl
@[simp] theorem State.modPair_receivers (s : State) (p : Pair) (f : PairRecord → PairRecord) : (s.modPair p f).receivers = s.receivers :=
  rfl
@[simp] theorem State.modPair_waitList (s : State) (p : Pair) (f : PairRecord → PairRecord) : (s.modPair p f).waitList = s.waitList :=
  rfl
@[simp] theorem State.modPair_tags (s : State) (p : Pair) (f : PairRecord → PairRecord) : (s.modPair p f).tags = s.tags :=
  rfl
@[simp] theorem State.modPair_tagPointer (s : State) (p : Pair) (f : PairRecord → PairRecord) : (s.modPair p f).tagPointer = s.tagPointer :=
  rfl
@[simp] theorem State.modPair_entries (s : State) (p : Pair) (f : PairRecord → PairRecord) : (s.modPair p f).entries = s.entries :=
  rfl
@[simp] theorem State.modPair_keyStore (s : State) (p : Pair) (f : PairRecord → PairRecord) : (s.modPair p f).keyStore = s.keyStore :=
  rfl
@[simp] theorem State.modPair_bus (s : State) (p : Pair) (f : PairRecord → PairRecord) : (s.modPair p f).bus = s.bus :=
  rfl
@[simp] theorem State.modPair_unit (s : State) (p : Pair) (f : PairRecord → PairRecord) : (s.modPair p f).unit = s.unit :=
  rfl
@[simp] theorem State.modPair_slots (s : State) (p : Pair) (f : PairRecord → PairRecord) : (s.modPair p f).slots = s.slots :=
  rfl
@[simp] theorem State.modPair_queue (s : State) (p : Pair) (f : PairRecord → PairRecord) : (s.modPair p f).queue = s.queue :=
  rfl
@[simp] theorem State.modPair_abandoned (s : State) (p : Pair) (f : PairRecord → PairRecord) : (s.modPair p f).abandoned = s.abandoned :=
  rfl
@[simp] theorem State.modPair_cells (s : State) (p : Pair) (f : PairRecord → PairRecord) : (s.modPair p f).cells = s.cells :=
  rfl
@[simp] theorem State.modPair_dueTest (s : State) (p : Pair) (f : PairRecord → PairRecord) : (s.modPair p f).dueTest = s.dueTest :=
  rfl
@[simp] theorem State.modPair_choices (s : State) (p : Pair) (f : PairRecord → PairRecord) : (s.modPair p f).choices = s.choices :=
  rfl
@[simp] theorem State.modPair_pending (s : State) (p : Pair) (f : PairRecord → PairRecord) : (s.modPair p f).pending = s.pending :=
  rfl

@[simp] theorem State.setService_station (s : State) (p : Pair) (v : Service) : (s.setService p v).station = s.station :=
  rfl
@[simp] theorem State.setService_now (s : State) (p : Pair) (v : Service) : (s.setService p v).now = s.now :=
  rfl
@[simp] theorem State.setService_listenUntil (s : State) (p : Pair) (v : Service) : (s.setService p v).listenUntil = s.listenUntil :=
  rfl
@[simp] theorem State.setService_straps (s : State) (p : Pair) (v : Service) : (s.setService p v).straps = s.straps :=
  rfl
@[simp] theorem State.setService_integrityAt (s : State) (p : Pair) (v : Service) : (s.setService p v).integrityAt = s.integrityAt :=
  rfl
@[simp] theorem State.setService_pairs (s : State) (p : Pair) (v : Service) : (s.setService p v).pairs = s.pairs :=
  rfl
@[simp] theorem State.setService_receivers (s : State) (p : Pair) (v : Service) : (s.setService p v).receivers = s.receivers :=
  rfl
@[simp] theorem State.setService_waitList (s : State) (p : Pair) (v : Service) : (s.setService p v).waitList = s.waitList :=
  rfl
@[simp] theorem State.setService_tags (s : State) (p : Pair) (v : Service) : (s.setService p v).tags = s.tags :=
  rfl
@[simp] theorem State.setService_tagPointer (s : State) (p : Pair) (v : Service) : (s.setService p v).tagPointer = s.tagPointer :=
  rfl
@[simp] theorem State.setService_entries (s : State) (p : Pair) (v : Service) : (s.setService p v).entries = s.entries :=
  rfl
@[simp] theorem State.setService_keyStore (s : State) (p : Pair) (v : Service) : (s.setService p v).keyStore = s.keyStore :=
  rfl
@[simp] theorem State.setService_bus (s : State) (p : Pair) (v : Service) : (s.setService p v).bus = s.bus :=
  rfl
@[simp] theorem State.setService_unit (s : State) (p : Pair) (v : Service) : (s.setService p v).unit = s.unit :=
  rfl
@[simp] theorem State.setService_slots (s : State) (p : Pair) (v : Service) : (s.setService p v).slots = s.slots :=
  rfl
@[simp] theorem State.setService_queue (s : State) (p : Pair) (v : Service) : (s.setService p v).queue = s.queue :=
  rfl
@[simp] theorem State.setService_abandoned (s : State) (p : Pair) (v : Service) : (s.setService p v).abandoned = s.abandoned :=
  rfl
@[simp] theorem State.setService_cells (s : State) (p : Pair) (v : Service) : (s.setService p v).cells = s.cells :=
  rfl
@[simp] theorem State.setService_dueTest (s : State) (p : Pair) (v : Service) : (s.setService p v).dueTest = s.dueTest :=
  rfl
@[simp] theorem State.setService_choices (s : State) (p : Pair) (v : Service) : (s.setService p v).choices = s.choices :=
  rfl
@[simp] theorem State.setService_pending (s : State) (p : Pair) (v : Service) : (s.setService p v).pending = s.pending :=
  rfl

@[simp] theorem State.setReceiver_station (s : State) (r : ReceiverNo) (x : Receiver) : (s.setReceiver r x).station = s.station :=
  rfl
@[simp] theorem State.setReceiver_now (s : State) (r : ReceiverNo) (x : Receiver) : (s.setReceiver r x).now = s.now :=
  rfl
@[simp] theorem State.setReceiver_listenUntil (s : State) (r : ReceiverNo) (x : Receiver) : (s.setReceiver r x).listenUntil = s.listenUntil :=
  rfl
@[simp] theorem State.setReceiver_straps (s : State) (r : ReceiverNo) (x : Receiver) : (s.setReceiver r x).straps = s.straps :=
  rfl
@[simp] theorem State.setReceiver_integrityAt (s : State) (r : ReceiverNo) (x : Receiver) : (s.setReceiver r x).integrityAt = s.integrityAt :=
  rfl
@[simp] theorem State.setReceiver_pairs (s : State) (r : ReceiverNo) (x : Receiver) : (s.setReceiver r x).pairs = s.pairs :=
  rfl
@[simp] theorem State.setReceiver_serviceA (s : State) (r : ReceiverNo) (x : Receiver) : (s.setReceiver r x).serviceA = s.serviceA :=
  rfl
@[simp] theorem State.setReceiver_serviceB (s : State) (r : ReceiverNo) (x : Receiver) : (s.setReceiver r x).serviceB = s.serviceB :=
  rfl
@[simp] theorem State.setReceiver_waitList (s : State) (r : ReceiverNo) (x : Receiver) : (s.setReceiver r x).waitList = s.waitList :=
  rfl
@[simp] theorem State.setReceiver_tags (s : State) (r : ReceiverNo) (x : Receiver) : (s.setReceiver r x).tags = s.tags :=
  rfl
@[simp] theorem State.setReceiver_tagPointer (s : State) (r : ReceiverNo) (x : Receiver) : (s.setReceiver r x).tagPointer = s.tagPointer :=
  rfl
@[simp] theorem State.setReceiver_entries (s : State) (r : ReceiverNo) (x : Receiver) : (s.setReceiver r x).entries = s.entries :=
  rfl
@[simp] theorem State.setReceiver_keyStore (s : State) (r : ReceiverNo) (x : Receiver) : (s.setReceiver r x).keyStore = s.keyStore :=
  rfl
@[simp] theorem State.setReceiver_bus (s : State) (r : ReceiverNo) (x : Receiver) : (s.setReceiver r x).bus = s.bus :=
  rfl
@[simp] theorem State.setReceiver_unit (s : State) (r : ReceiverNo) (x : Receiver) : (s.setReceiver r x).unit = s.unit :=
  rfl
@[simp] theorem State.setReceiver_slots (s : State) (r : ReceiverNo) (x : Receiver) : (s.setReceiver r x).slots = s.slots :=
  rfl
@[simp] theorem State.setReceiver_queue (s : State) (r : ReceiverNo) (x : Receiver) : (s.setReceiver r x).queue = s.queue :=
  rfl
@[simp] theorem State.setReceiver_abandoned (s : State) (r : ReceiverNo) (x : Receiver) : (s.setReceiver r x).abandoned = s.abandoned :=
  rfl
@[simp] theorem State.setReceiver_cells (s : State) (r : ReceiverNo) (x : Receiver) : (s.setReceiver r x).cells = s.cells :=
  rfl
@[simp] theorem State.setReceiver_dueTest (s : State) (r : ReceiverNo) (x : Receiver) : (s.setReceiver r x).dueTest = s.dueTest :=
  rfl
@[simp] theorem State.setReceiver_choices (s : State) (r : ReceiverNo) (x : Receiver) : (s.setReceiver r x).choices = s.choices :=
  rfl
@[simp] theorem State.setReceiver_pending (s : State) (r : ReceiverNo) (x : Receiver) : (s.setReceiver r x).pending = s.pending :=
  rfl

@[simp] theorem State.setSlot_station (s : State) (i : Fin 4) (x : Option ReplySlot) : (s.setSlot i x).station = s.station :=
  rfl
@[simp] theorem State.setSlot_now (s : State) (i : Fin 4) (x : Option ReplySlot) : (s.setSlot i x).now = s.now :=
  rfl
@[simp] theorem State.setSlot_listenUntil (s : State) (i : Fin 4) (x : Option ReplySlot) : (s.setSlot i x).listenUntil = s.listenUntil :=
  rfl
@[simp] theorem State.setSlot_straps (s : State) (i : Fin 4) (x : Option ReplySlot) : (s.setSlot i x).straps = s.straps :=
  rfl
@[simp] theorem State.setSlot_integrityAt (s : State) (i : Fin 4) (x : Option ReplySlot) : (s.setSlot i x).integrityAt = s.integrityAt :=
  rfl
@[simp] theorem State.setSlot_pairs (s : State) (i : Fin 4) (x : Option ReplySlot) : (s.setSlot i x).pairs = s.pairs :=
  rfl
@[simp] theorem State.setSlot_serviceA (s : State) (i : Fin 4) (x : Option ReplySlot) : (s.setSlot i x).serviceA = s.serviceA :=
  rfl
@[simp] theorem State.setSlot_serviceB (s : State) (i : Fin 4) (x : Option ReplySlot) : (s.setSlot i x).serviceB = s.serviceB :=
  rfl
@[simp] theorem State.setSlot_receivers (s : State) (i : Fin 4) (x : Option ReplySlot) : (s.setSlot i x).receivers = s.receivers :=
  rfl
@[simp] theorem State.setSlot_waitList (s : State) (i : Fin 4) (x : Option ReplySlot) : (s.setSlot i x).waitList = s.waitList :=
  rfl
@[simp] theorem State.setSlot_tags (s : State) (i : Fin 4) (x : Option ReplySlot) : (s.setSlot i x).tags = s.tags :=
  rfl
@[simp] theorem State.setSlot_tagPointer (s : State) (i : Fin 4) (x : Option ReplySlot) : (s.setSlot i x).tagPointer = s.tagPointer :=
  rfl
@[simp] theorem State.setSlot_entries (s : State) (i : Fin 4) (x : Option ReplySlot) : (s.setSlot i x).entries = s.entries :=
  rfl
@[simp] theorem State.setSlot_keyStore (s : State) (i : Fin 4) (x : Option ReplySlot) : (s.setSlot i x).keyStore = s.keyStore :=
  rfl
@[simp] theorem State.setSlot_bus (s : State) (i : Fin 4) (x : Option ReplySlot) : (s.setSlot i x).bus = s.bus :=
  rfl
@[simp] theorem State.setSlot_unit (s : State) (i : Fin 4) (x : Option ReplySlot) : (s.setSlot i x).unit = s.unit :=
  rfl
@[simp] theorem State.setSlot_queue (s : State) (i : Fin 4) (x : Option ReplySlot) : (s.setSlot i x).queue = s.queue :=
  rfl
@[simp] theorem State.setSlot_abandoned (s : State) (i : Fin 4) (x : Option ReplySlot) : (s.setSlot i x).abandoned = s.abandoned :=
  rfl
@[simp] theorem State.setSlot_cells (s : State) (i : Fin 4) (x : Option ReplySlot) : (s.setSlot i x).cells = s.cells :=
  rfl
@[simp] theorem State.setSlot_dueTest (s : State) (i : Fin 4) (x : Option ReplySlot) : (s.setSlot i x).dueTest = s.dueTest :=
  rfl
@[simp] theorem State.setSlot_choices (s : State) (i : Fin 4) (x : Option ReplySlot) : (s.setSlot i x).choices = s.choices :=
  rfl
@[simp] theorem State.setSlot_pending (s : State) (i : Fin 4) (x : Option ReplySlot) : (s.setSlot i x).pending = s.pending :=
  rfl

@[simp] theorem State.removeItem_station (s : State) (ref : ItemRef) : (s.removeItem ref).station = s.station :=
  rfl
@[simp] theorem State.removeItem_now (s : State) (ref : ItemRef) : (s.removeItem ref).now = s.now := rfl
@[simp] theorem State.removeItem_listenUntil (s : State) (ref : ItemRef) : (s.removeItem ref).listenUntil = s.listenUntil :=
  rfl
@[simp] theorem State.removeItem_straps (s : State) (ref : ItemRef) : (s.removeItem ref).straps = s.straps :=
  rfl
@[simp] theorem State.removeItem_integrityAt (s : State) (ref : ItemRef) : (s.removeItem ref).integrityAt = s.integrityAt :=
  rfl
@[simp] theorem State.removeItem_pairs (s : State) (ref : ItemRef) : (s.removeItem ref).pairs = s.pairs := rfl
@[simp] theorem State.removeItem_serviceA (s : State) (ref : ItemRef) : (s.removeItem ref).serviceA = s.serviceA :=
  rfl
@[simp] theorem State.removeItem_serviceB (s : State) (ref : ItemRef) : (s.removeItem ref).serviceB = s.serviceB :=
  rfl
@[simp] theorem State.removeItem_receivers (s : State) (ref : ItemRef) : (s.removeItem ref).receivers = s.receivers :=
  rfl
@[simp] theorem State.removeItem_waitList (s : State) (ref : ItemRef) : (s.removeItem ref).waitList = s.waitList :=
  rfl
@[simp] theorem State.removeItem_tags (s : State) (ref : ItemRef) : (s.removeItem ref).tags = s.tags := rfl
@[simp] theorem State.removeItem_tagPointer (s : State) (ref : ItemRef) : (s.removeItem ref).tagPointer = s.tagPointer :=
  rfl
@[simp] theorem State.removeItem_entries (s : State) (ref : ItemRef) : (s.removeItem ref).entries = s.entries :=
  rfl
@[simp] theorem State.removeItem_keyStore (s : State) (ref : ItemRef) : (s.removeItem ref).keyStore = s.keyStore :=
  rfl
@[simp] theorem State.removeItem_bus (s : State) (ref : ItemRef) : (s.removeItem ref).bus = s.bus := rfl
@[simp] theorem State.removeItem_unit (s : State) (ref : ItemRef) : (s.removeItem ref).unit = s.unit := rfl
@[simp] theorem State.removeItem_slots (s : State) (ref : ItemRef) : (s.removeItem ref).slots = s.slots := rfl
@[simp] theorem State.removeItem_abandoned (s : State) (ref : ItemRef) : (s.removeItem ref).abandoned = s.abandoned :=
  rfl
@[simp] theorem State.removeItem_cells (s : State) (ref : ItemRef) : (s.removeItem ref).cells = s.cells := rfl
@[simp] theorem State.removeItem_dueTest (s : State) (ref : ItemRef) : (s.removeItem ref).dueTest = s.dueTest :=
  rfl
@[simp] theorem State.removeItem_choices (s : State) (ref : ItemRef) : (s.removeItem ref).choices = s.choices :=
  rfl
@[simp] theorem State.removeItem_pending (s : State) (ref : ItemRef) : (s.removeItem ref).pending = s.pending :=
  rfl

@[simp] theorem State.updateItem_station (s : State) (ref : ItemRef) (f : Item → Item) : (s.updateItem ref f).station = s.station :=
  rfl
@[simp] theorem State.updateItem_now (s : State) (ref : ItemRef) (f : Item → Item) : (s.updateItem ref f).now = s.now :=
  rfl
@[simp] theorem State.updateItem_listenUntil (s : State) (ref : ItemRef) (f : Item → Item) : (s.updateItem ref f).listenUntil = s.listenUntil :=
  rfl
@[simp] theorem State.updateItem_straps (s : State) (ref : ItemRef) (f : Item → Item) : (s.updateItem ref f).straps = s.straps :=
  rfl
@[simp] theorem State.updateItem_integrityAt (s : State) (ref : ItemRef) (f : Item → Item) : (s.updateItem ref f).integrityAt = s.integrityAt :=
  rfl
@[simp] theorem State.updateItem_pairs (s : State) (ref : ItemRef) (f : Item → Item) : (s.updateItem ref f).pairs = s.pairs :=
  rfl
@[simp] theorem State.updateItem_serviceA (s : State) (ref : ItemRef) (f : Item → Item) : (s.updateItem ref f).serviceA = s.serviceA :=
  rfl
@[simp] theorem State.updateItem_serviceB (s : State) (ref : ItemRef) (f : Item → Item) : (s.updateItem ref f).serviceB = s.serviceB :=
  rfl
@[simp] theorem State.updateItem_receivers (s : State) (ref : ItemRef) (f : Item → Item) : (s.updateItem ref f).receivers = s.receivers :=
  rfl
@[simp] theorem State.updateItem_waitList (s : State) (ref : ItemRef) (f : Item → Item) : (s.updateItem ref f).waitList = s.waitList :=
  rfl
@[simp] theorem State.updateItem_tags (s : State) (ref : ItemRef) (f : Item → Item) : (s.updateItem ref f).tags = s.tags :=
  rfl
@[simp] theorem State.updateItem_tagPointer (s : State) (ref : ItemRef) (f : Item → Item) : (s.updateItem ref f).tagPointer = s.tagPointer :=
  rfl
@[simp] theorem State.updateItem_entries (s : State) (ref : ItemRef) (f : Item → Item) : (s.updateItem ref f).entries = s.entries :=
  rfl
@[simp] theorem State.updateItem_keyStore (s : State) (ref : ItemRef) (f : Item → Item) : (s.updateItem ref f).keyStore = s.keyStore :=
  rfl
@[simp] theorem State.updateItem_bus (s : State) (ref : ItemRef) (f : Item → Item) : (s.updateItem ref f).bus = s.bus :=
  rfl
@[simp] theorem State.updateItem_unit (s : State) (ref : ItemRef) (f : Item → Item) : (s.updateItem ref f).unit = s.unit :=
  rfl
@[simp] theorem State.updateItem_slots (s : State) (ref : ItemRef) (f : Item → Item) : (s.updateItem ref f).slots = s.slots :=
  rfl
@[simp] theorem State.updateItem_abandoned (s : State) (ref : ItemRef) (f : Item → Item) : (s.updateItem ref f).abandoned = s.abandoned :=
  rfl
@[simp] theorem State.updateItem_cells (s : State) (ref : ItemRef) (f : Item → Item) : (s.updateItem ref f).cells = s.cells :=
  rfl
@[simp] theorem State.updateItem_dueTest (s : State) (ref : ItemRef) (f : Item → Item) : (s.updateItem ref f).dueTest = s.dueTest :=
  rfl
@[simp] theorem State.updateItem_choices (s : State) (ref : ItemRef) (f : Item → Item) : (s.updateItem ref f).choices = s.choices :=
  rfl
@[simp] theorem State.updateItem_pending (s : State) (ref : ItemRef) (f : Item → Item) : (s.updateItem ref f).pending = s.pending :=
  rfl

@[simp] theorem State.setClaim_station (s : State) (p : Pair) (c : ClaimState) (t : Option Nat) : (s.setClaim p c t).station = s.station :=
  rfl
@[simp] theorem State.setClaim_now (s : State) (p : Pair) (c : ClaimState) (t : Option Nat) : (s.setClaim p c t).now = s.now :=
  rfl
@[simp] theorem State.setClaim_listenUntil (s : State) (p : Pair) (c : ClaimState) (t : Option Nat) : (s.setClaim p c t).listenUntil = s.listenUntil :=
  rfl
@[simp] theorem State.setClaim_straps (s : State) (p : Pair) (c : ClaimState) (t : Option Nat) : (s.setClaim p c t).straps = s.straps :=
  rfl
@[simp] theorem State.setClaim_integrityAt (s : State) (p : Pair) (c : ClaimState) (t : Option Nat) : (s.setClaim p c t).integrityAt = s.integrityAt :=
  rfl
@[simp] theorem State.setClaim_serviceA (s : State) (p : Pair) (c : ClaimState) (t : Option Nat) : (s.setClaim p c t).serviceA = s.serviceA :=
  rfl
@[simp] theorem State.setClaim_serviceB (s : State) (p : Pair) (c : ClaimState) (t : Option Nat) : (s.setClaim p c t).serviceB = s.serviceB :=
  rfl
@[simp] theorem State.setClaim_receivers (s : State) (p : Pair) (c : ClaimState) (t : Option Nat) : (s.setClaim p c t).receivers = s.receivers :=
  rfl
@[simp] theorem State.setClaim_waitList (s : State) (p : Pair) (c : ClaimState) (t : Option Nat) : (s.setClaim p c t).waitList = s.waitList :=
  rfl
@[simp] theorem State.setClaim_tags (s : State) (p : Pair) (c : ClaimState) (t : Option Nat) : (s.setClaim p c t).tags = s.tags :=
  rfl
@[simp] theorem State.setClaim_tagPointer (s : State) (p : Pair) (c : ClaimState) (t : Option Nat) : (s.setClaim p c t).tagPointer = s.tagPointer :=
  rfl
@[simp] theorem State.setClaim_entries (s : State) (p : Pair) (c : ClaimState) (t : Option Nat) : (s.setClaim p c t).entries = s.entries :=
  rfl
@[simp] theorem State.setClaim_keyStore (s : State) (p : Pair) (c : ClaimState) (t : Option Nat) : (s.setClaim p c t).keyStore = s.keyStore :=
  rfl
@[simp] theorem State.setClaim_bus (s : State) (p : Pair) (c : ClaimState) (t : Option Nat) : (s.setClaim p c t).bus = s.bus :=
  rfl
@[simp] theorem State.setClaim_unit (s : State) (p : Pair) (c : ClaimState) (t : Option Nat) : (s.setClaim p c t).unit = s.unit :=
  rfl
@[simp] theorem State.setClaim_slots (s : State) (p : Pair) (c : ClaimState) (t : Option Nat) : (s.setClaim p c t).slots = s.slots :=
  rfl
@[simp] theorem State.setClaim_queue (s : State) (p : Pair) (c : ClaimState) (t : Option Nat) : (s.setClaim p c t).queue = s.queue :=
  rfl
@[simp] theorem State.setClaim_abandoned (s : State) (p : Pair) (c : ClaimState) (t : Option Nat) : (s.setClaim p c t).abandoned = s.abandoned :=
  rfl
@[simp] theorem State.setClaim_cells (s : State) (p : Pair) (c : ClaimState) (t : Option Nat) : (s.setClaim p c t).cells = s.cells :=
  rfl
@[simp] theorem State.setClaim_dueTest (s : State) (p : Pair) (c : ClaimState) (t : Option Nat) : (s.setClaim p c t).dueTest = s.dueTest :=
  rfl
@[simp] theorem State.setClaim_choices (s : State) (p : Pair) (c : ClaimState) (t : Option Nat) : (s.setClaim p c t).choices = s.choices :=
  rfl
@[simp] theorem State.setClaim_pending (s : State) (p : Pair) (c : ClaimState) (t : Option Nat) : (s.setClaim p c t).pending = s.pending :=
  rfl

@[simp] theorem State.setView_station (s : State) (v : BusHolder) : (s.setView v).station = s.station := rfl
@[simp] theorem State.setView_now (s : State) (v : BusHolder) : (s.setView v).now = s.now := rfl
@[simp] theorem State.setView_listenUntil (s : State) (v : BusHolder) : (s.setView v).listenUntil = s.listenUntil :=
  rfl
@[simp] theorem State.setView_straps (s : State) (v : BusHolder) : (s.setView v).straps = s.straps := rfl
@[simp] theorem State.setView_integrityAt (s : State) (v : BusHolder) : (s.setView v).integrityAt = s.integrityAt :=
  rfl
@[simp] theorem State.setView_pairs (s : State) (v : BusHolder) : (s.setView v).pairs = s.pairs := rfl
@[simp] theorem State.setView_serviceA (s : State) (v : BusHolder) : (s.setView v).serviceA = s.serviceA :=
  rfl
@[simp] theorem State.setView_serviceB (s : State) (v : BusHolder) : (s.setView v).serviceB = s.serviceB :=
  rfl
@[simp] theorem State.setView_receivers (s : State) (v : BusHolder) : (s.setView v).receivers = s.receivers :=
  rfl
@[simp] theorem State.setView_waitList (s : State) (v : BusHolder) : (s.setView v).waitList = s.waitList :=
  rfl
@[simp] theorem State.setView_tags (s : State) (v : BusHolder) : (s.setView v).tags = s.tags := rfl
@[simp] theorem State.setView_tagPointer (s : State) (v : BusHolder) : (s.setView v).tagPointer = s.tagPointer :=
  rfl
@[simp] theorem State.setView_entries (s : State) (v : BusHolder) : (s.setView v).entries = s.entries := rfl
@[simp] theorem State.setView_keyStore (s : State) (v : BusHolder) : (s.setView v).keyStore = s.keyStore :=
  rfl
@[simp] theorem State.setView_unit (s : State) (v : BusHolder) : (s.setView v).unit = s.unit := rfl
@[simp] theorem State.setView_slots (s : State) (v : BusHolder) : (s.setView v).slots = s.slots := rfl
@[simp] theorem State.setView_queue (s : State) (v : BusHolder) : (s.setView v).queue = s.queue := rfl
@[simp] theorem State.setView_abandoned (s : State) (v : BusHolder) : (s.setView v).abandoned = s.abandoned :=
  rfl
@[simp] theorem State.setView_cells (s : State) (v : BusHolder) : (s.setView v).cells = s.cells := rfl
@[simp] theorem State.setView_dueTest (s : State) (v : BusHolder) : (s.setView v).dueTest = s.dueTest := rfl
@[simp] theorem State.setView_choices (s : State) (v : BusHolder) : (s.setView v).choices = s.choices := rfl
@[simp] theorem State.setView_pending (s : State) (v : BusHolder) : (s.setView v).pending = s.pending := rfl

@[simp] theorem State.retireTag_station (s : State) (p : Pair) : (s.retireTag p).station = s.station := rfl
@[simp] theorem State.retireTag_now (s : State) (p : Pair) : (s.retireTag p).now = s.now := rfl
@[simp] theorem State.retireTag_listenUntil (s : State) (p : Pair) : (s.retireTag p).listenUntil = s.listenUntil :=
  rfl
@[simp] theorem State.retireTag_straps (s : State) (p : Pair) : (s.retireTag p).straps = s.straps := rfl
@[simp] theorem State.retireTag_integrityAt (s : State) (p : Pair) : (s.retireTag p).integrityAt = s.integrityAt :=
  rfl
@[simp] theorem State.retireTag_pairs (s : State) (p : Pair) : (s.retireTag p).pairs = s.pairs := rfl
@[simp] theorem State.retireTag_serviceA (s : State) (p : Pair) : (s.retireTag p).serviceA = s.serviceA := rfl
@[simp] theorem State.retireTag_serviceB (s : State) (p : Pair) : (s.retireTag p).serviceB = s.serviceB := rfl
@[simp] theorem State.retireTag_receivers (s : State) (p : Pair) : (s.retireTag p).receivers = s.receivers :=
  rfl
@[simp] theorem State.retireTag_waitList (s : State) (p : Pair) : (s.retireTag p).waitList = s.waitList := rfl
@[simp] theorem State.retireTag_tagPointer (s : State) (p : Pair) : (s.retireTag p).tagPointer = s.tagPointer :=
  rfl
@[simp] theorem State.retireTag_entries (s : State) (p : Pair) : (s.retireTag p).entries = s.entries := rfl
@[simp] theorem State.retireTag_keyStore (s : State) (p : Pair) : (s.retireTag p).keyStore = s.keyStore := rfl
@[simp] theorem State.retireTag_bus (s : State) (p : Pair) : (s.retireTag p).bus = s.bus := rfl
@[simp] theorem State.retireTag_unit (s : State) (p : Pair) : (s.retireTag p).unit = s.unit := rfl
@[simp] theorem State.retireTag_slots (s : State) (p : Pair) : (s.retireTag p).slots = s.slots := rfl
@[simp] theorem State.retireTag_queue (s : State) (p : Pair) : (s.retireTag p).queue = s.queue := rfl
@[simp] theorem State.retireTag_abandoned (s : State) (p : Pair) : (s.retireTag p).abandoned = s.abandoned :=
  rfl
@[simp] theorem State.retireTag_cells (s : State) (p : Pair) : (s.retireTag p).cells = s.cells := rfl
@[simp] theorem State.retireTag_dueTest (s : State) (p : Pair) : (s.retireTag p).dueTest = s.dueTest := rfl
@[simp] theorem State.retireTag_choices (s : State) (p : Pair) : (s.retireTag p).choices = s.choices := rfl
@[simp] theorem State.retireTag_pending (s : State) (p : Pair) : (s.retireTag p).pending = s.pending := rfl

@[simp] theorem State.allocateTag_station (s : State) (p : Pair) (c : FaultClass) : (s.allocateTag p c).station = s.station :=
  rfl
@[simp] theorem State.allocateTag_now (s : State) (p : Pair) (c : FaultClass) : (s.allocateTag p c).now = s.now :=
  rfl
@[simp] theorem State.allocateTag_listenUntil (s : State) (p : Pair) (c : FaultClass) : (s.allocateTag p c).listenUntil = s.listenUntil :=
  rfl
@[simp] theorem State.allocateTag_straps (s : State) (p : Pair) (c : FaultClass) : (s.allocateTag p c).straps = s.straps :=
  rfl
@[simp] theorem State.allocateTag_integrityAt (s : State) (p : Pair) (c : FaultClass) : (s.allocateTag p c).integrityAt = s.integrityAt :=
  rfl
@[simp] theorem State.allocateTag_pairs (s : State) (p : Pair) (c : FaultClass) : (s.allocateTag p c).pairs = s.pairs :=
  rfl
@[simp] theorem State.allocateTag_serviceA (s : State) (p : Pair) (c : FaultClass) : (s.allocateTag p c).serviceA = s.serviceA :=
  rfl
@[simp] theorem State.allocateTag_serviceB (s : State) (p : Pair) (c : FaultClass) : (s.allocateTag p c).serviceB = s.serviceB :=
  rfl
@[simp] theorem State.allocateTag_receivers (s : State) (p : Pair) (c : FaultClass) : (s.allocateTag p c).receivers = s.receivers :=
  rfl
@[simp] theorem State.allocateTag_waitList (s : State) (p : Pair) (c : FaultClass) : (s.allocateTag p c).waitList = s.waitList :=
  rfl
@[simp] theorem State.allocateTag_entries (s : State) (p : Pair) (c : FaultClass) : (s.allocateTag p c).entries = s.entries :=
  rfl
@[simp] theorem State.allocateTag_keyStore (s : State) (p : Pair) (c : FaultClass) : (s.allocateTag p c).keyStore = s.keyStore :=
  rfl
@[simp] theorem State.allocateTag_bus (s : State) (p : Pair) (c : FaultClass) : (s.allocateTag p c).bus = s.bus :=
  rfl
@[simp] theorem State.allocateTag_unit (s : State) (p : Pair) (c : FaultClass) : (s.allocateTag p c).unit = s.unit :=
  rfl
@[simp] theorem State.allocateTag_slots (s : State) (p : Pair) (c : FaultClass) : (s.allocateTag p c).slots = s.slots :=
  rfl
@[simp] theorem State.allocateTag_queue (s : State) (p : Pair) (c : FaultClass) : (s.allocateTag p c).queue = s.queue :=
  rfl
@[simp] theorem State.allocateTag_abandoned (s : State) (p : Pair) (c : FaultClass) : (s.allocateTag p c).abandoned = s.abandoned :=
  rfl
@[simp] theorem State.allocateTag_cells (s : State) (p : Pair) (c : FaultClass) : (s.allocateTag p c).cells = s.cells :=
  rfl
@[simp] theorem State.allocateTag_dueTest (s : State) (p : Pair) (c : FaultClass) : (s.allocateTag p c).dueTest = s.dueTest :=
  rfl
@[simp] theorem State.allocateTag_choices (s : State) (p : Pair) (c : FaultClass) : (s.allocateTag p c).choices = s.choices :=
  rfl
@[simp] theorem State.allocateTag_pending (s : State) (p : Pair) (c : FaultClass) : (s.allocateTag p c).pending = s.pending :=
  rfl

@[simp] theorem State.stopUnit_station (s : State) : (s.stopUnit).station = s.station := rfl
@[simp] theorem State.stopUnit_now (s : State) : (s.stopUnit).now = s.now := rfl
@[simp] theorem State.stopUnit_listenUntil (s : State) : (s.stopUnit).listenUntil = s.listenUntil := rfl
@[simp] theorem State.stopUnit_straps (s : State) : (s.stopUnit).straps = s.straps := rfl
@[simp] theorem State.stopUnit_integrityAt (s : State) : (s.stopUnit).integrityAt = s.integrityAt := rfl
@[simp] theorem State.stopUnit_pairs (s : State) : (s.stopUnit).pairs = s.pairs := rfl
@[simp] theorem State.stopUnit_serviceA (s : State) : (s.stopUnit).serviceA = s.serviceA := rfl
@[simp] theorem State.stopUnit_serviceB (s : State) : (s.stopUnit).serviceB = s.serviceB := rfl
@[simp] theorem State.stopUnit_receivers (s : State) : (s.stopUnit).receivers = s.receivers := rfl
@[simp] theorem State.stopUnit_waitList (s : State) : (s.stopUnit).waitList = s.waitList := rfl
@[simp] theorem State.stopUnit_tags (s : State) : (s.stopUnit).tags = s.tags := rfl
@[simp] theorem State.stopUnit_tagPointer (s : State) : (s.stopUnit).tagPointer = s.tagPointer := rfl
@[simp] theorem State.stopUnit_entries (s : State) : (s.stopUnit).entries = s.entries := rfl
@[simp] theorem State.stopUnit_keyStore (s : State) : (s.stopUnit).keyStore = s.keyStore := rfl
@[simp] theorem State.stopUnit_bus (s : State) : (s.stopUnit).bus = s.bus := rfl
@[simp] theorem State.stopUnit_slots (s : State) : (s.stopUnit).slots = s.slots := rfl
@[simp] theorem State.stopUnit_queue (s : State) : (s.stopUnit).queue = s.queue := rfl
@[simp] theorem State.stopUnit_abandoned (s : State) : (s.stopUnit).abandoned = s.abandoned := rfl
@[simp] theorem State.stopUnit_cells (s : State) : (s.stopUnit).cells = s.cells := rfl
@[simp] theorem State.stopUnit_dueTest (s : State) : (s.stopUnit).dueTest = s.dueTest := rfl
@[simp] theorem State.stopUnit_choices (s : State) : (s.stopUnit).choices = s.choices := rfl
@[simp] theorem State.stopUnit_pending (s : State) : (s.stopUnit).pending = s.pending := rfl

@[simp] theorem State.disconnectUnit_station (s : State) : (s.disconnectUnit).station = s.station := rfl
@[simp] theorem State.disconnectUnit_now (s : State) : (s.disconnectUnit).now = s.now := rfl
@[simp] theorem State.disconnectUnit_listenUntil (s : State) : (s.disconnectUnit).listenUntil = s.listenUntil :=
  rfl
@[simp] theorem State.disconnectUnit_straps (s : State) : (s.disconnectUnit).straps = s.straps := rfl
@[simp] theorem State.disconnectUnit_integrityAt (s : State) : (s.disconnectUnit).integrityAt = s.integrityAt :=
  rfl
@[simp] theorem State.disconnectUnit_pairs (s : State) : (s.disconnectUnit).pairs = s.pairs := rfl
@[simp] theorem State.disconnectUnit_serviceA (s : State) : (s.disconnectUnit).serviceA = s.serviceA := rfl
@[simp] theorem State.disconnectUnit_serviceB (s : State) : (s.disconnectUnit).serviceB = s.serviceB := rfl
@[simp] theorem State.disconnectUnit_receivers (s : State) : (s.disconnectUnit).receivers = s.receivers := rfl
@[simp] theorem State.disconnectUnit_waitList (s : State) : (s.disconnectUnit).waitList = s.waitList := rfl
@[simp] theorem State.disconnectUnit_tags (s : State) : (s.disconnectUnit).tags = s.tags := rfl
@[simp] theorem State.disconnectUnit_tagPointer (s : State) : (s.disconnectUnit).tagPointer = s.tagPointer :=
  rfl
@[simp] theorem State.disconnectUnit_entries (s : State) : (s.disconnectUnit).entries = s.entries := rfl
@[simp] theorem State.disconnectUnit_keyStore (s : State) : (s.disconnectUnit).keyStore = s.keyStore := rfl
@[simp] theorem State.disconnectUnit_bus (s : State) : (s.disconnectUnit).bus = s.bus := rfl
@[simp] theorem State.disconnectUnit_slots (s : State) : (s.disconnectUnit).slots = s.slots := rfl
@[simp] theorem State.disconnectUnit_queue (s : State) : (s.disconnectUnit).queue = s.queue := rfl
@[simp] theorem State.disconnectUnit_abandoned (s : State) : (s.disconnectUnit).abandoned = s.abandoned := rfl
@[simp] theorem State.disconnectUnit_cells (s : State) : (s.disconnectUnit).cells = s.cells := rfl
@[simp] theorem State.disconnectUnit_dueTest (s : State) : (s.disconnectUnit).dueTest = s.dueTest := rfl
@[simp] theorem State.disconnectUnit_choices (s : State) : (s.disconnectUnit).choices = s.choices := rfl
@[simp] theorem State.disconnectUnit_pending (s : State) : (s.disconnectUnit).pending = s.pending := rfl

@[simp] theorem State.place_station (s : State) (k : ItemKind) : (s.place k).station = s.station := by
  unfold State.place; split <;> rfl
@[simp] theorem State.place_now (s : State) (k : ItemKind) : (s.place k).now = s.now := by
  unfold State.place; split <;> rfl
@[simp] theorem State.place_listenUntil (s : State) (k : ItemKind) : (s.place k).listenUntil = s.listenUntil := by
  unfold State.place; split <;> rfl
@[simp] theorem State.place_straps (s : State) (k : ItemKind) : (s.place k).straps = s.straps := by
  unfold State.place; split <;> rfl
@[simp] theorem State.place_integrityAt (s : State) (k : ItemKind) : (s.place k).integrityAt = s.integrityAt := by
  unfold State.place; split <;> rfl
@[simp] theorem State.place_pairs (s : State) (k : ItemKind) : (s.place k).pairs = s.pairs := by
  unfold State.place; split <;> rfl
@[simp] theorem State.place_serviceA (s : State) (k : ItemKind) : (s.place k).serviceA = s.serviceA := by
  unfold State.place; split <;> rfl
@[simp] theorem State.place_serviceB (s : State) (k : ItemKind) : (s.place k).serviceB = s.serviceB := by
  unfold State.place; split <;> rfl
@[simp] theorem State.place_receivers (s : State) (k : ItemKind) : (s.place k).receivers = s.receivers := by
  unfold State.place; split <;> rfl
@[simp] theorem State.place_waitList (s : State) (k : ItemKind) : (s.place k).waitList = s.waitList := by
  unfold State.place; split <;> rfl
@[simp] theorem State.place_tags (s : State) (k : ItemKind) : (s.place k).tags = s.tags := by
  unfold State.place; split <;> rfl
@[simp] theorem State.place_tagPointer (s : State) (k : ItemKind) : (s.place k).tagPointer = s.tagPointer := by
  unfold State.place; split <;> rfl
@[simp] theorem State.place_entries (s : State) (k : ItemKind) : (s.place k).entries = s.entries := by
  unfold State.place; split <;> rfl
@[simp] theorem State.place_keyStore (s : State) (k : ItemKind) : (s.place k).keyStore = s.keyStore := by
  unfold State.place; split <;> rfl
@[simp] theorem State.place_bus (s : State) (k : ItemKind) : (s.place k).bus = s.bus := by
  unfold State.place; split <;> rfl
@[simp] theorem State.place_unit (s : State) (k : ItemKind) : (s.place k).unit = s.unit := by
  unfold State.place; split <;> rfl
@[simp] theorem State.place_slots (s : State) (k : ItemKind) : (s.place k).slots = s.slots := by
  unfold State.place; split <;> rfl
@[simp] theorem State.place_abandoned (s : State) (k : ItemKind) : (s.place k).abandoned = s.abandoned := by
  unfold State.place; split <;> rfl
@[simp] theorem State.place_cells (s : State) (k : ItemKind) : (s.place k).cells = s.cells := by
  unfold State.place; split <;> rfl
@[simp] theorem State.place_dueTest (s : State) (k : ItemKind) : (s.place k).dueTest = s.dueTest := by
  unfold State.place; split <;> rfl
@[simp] theorem State.place_choices (s : State) (k : ItemKind) : (s.place k).choices = s.choices := by
  unfold State.place; split <;> rfl
@[simp] theorem State.place_pending (s : State) (k : ItemKind) : (s.place k).pending = s.pending := by
  unfold State.place; split <;> rfl

@[simp] theorem State.placeLineEvents_station (s : State) (p : Pair) : (s.placeLineEvents p).station = s.station := by
  unfold State.placeLineEvents; split <;> simp
@[simp] theorem State.placeLineEvents_now (s : State) (p : Pair) : (s.placeLineEvents p).now = s.now := by
  unfold State.placeLineEvents; split <;> simp
@[simp] theorem State.placeLineEvents_listenUntil (s : State) (p : Pair) : (s.placeLineEvents p).listenUntil = s.listenUntil := by
  unfold State.placeLineEvents; split <;> simp
@[simp] theorem State.placeLineEvents_straps (s : State) (p : Pair) : (s.placeLineEvents p).straps = s.straps := by
  unfold State.placeLineEvents; split <;> simp
@[simp] theorem State.placeLineEvents_integrityAt (s : State) (p : Pair) : (s.placeLineEvents p).integrityAt = s.integrityAt := by
  unfold State.placeLineEvents; split <;> simp
@[simp] theorem State.placeLineEvents_pairs (s : State) (p : Pair) : (s.placeLineEvents p).pairs = s.pairs := by
  unfold State.placeLineEvents; split <;> simp
@[simp] theorem State.placeLineEvents_serviceA (s : State) (p : Pair) : (s.placeLineEvents p).serviceA = s.serviceA := by
  unfold State.placeLineEvents; split <;> simp
@[simp] theorem State.placeLineEvents_serviceB (s : State) (p : Pair) : (s.placeLineEvents p).serviceB = s.serviceB := by
  unfold State.placeLineEvents; split <;> simp
@[simp] theorem State.placeLineEvents_receivers (s : State) (p : Pair) : (s.placeLineEvents p).receivers = s.receivers := by
  unfold State.placeLineEvents; split <;> simp
@[simp] theorem State.placeLineEvents_waitList (s : State) (p : Pair) : (s.placeLineEvents p).waitList = s.waitList := by
  unfold State.placeLineEvents; split <;> simp
@[simp] theorem State.placeLineEvents_tags (s : State) (p : Pair) : (s.placeLineEvents p).tags = s.tags := by
  unfold State.placeLineEvents; split <;> simp
@[simp] theorem State.placeLineEvents_tagPointer (s : State) (p : Pair) : (s.placeLineEvents p).tagPointer = s.tagPointer := by
  unfold State.placeLineEvents; split <;> simp
@[simp] theorem State.placeLineEvents_entries (s : State) (p : Pair) : (s.placeLineEvents p).entries = s.entries := by
  unfold State.placeLineEvents; split <;> simp
@[simp] theorem State.placeLineEvents_keyStore (s : State) (p : Pair) : (s.placeLineEvents p).keyStore = s.keyStore := by
  unfold State.placeLineEvents; split <;> simp
@[simp] theorem State.placeLineEvents_bus (s : State) (p : Pair) : (s.placeLineEvents p).bus = s.bus := by
  unfold State.placeLineEvents; split <;> simp
@[simp] theorem State.placeLineEvents_unit (s : State) (p : Pair) : (s.placeLineEvents p).unit = s.unit := by
  unfold State.placeLineEvents; split <;> simp
@[simp] theorem State.placeLineEvents_slots (s : State) (p : Pair) : (s.placeLineEvents p).slots = s.slots := by
  unfold State.placeLineEvents; split <;> simp
@[simp] theorem State.placeLineEvents_abandoned (s : State) (p : Pair) : (s.placeLineEvents p).abandoned = s.abandoned := by
  unfold State.placeLineEvents; split <;> simp
@[simp] theorem State.placeLineEvents_cells (s : State) (p : Pair) : (s.placeLineEvents p).cells = s.cells := by
  unfold State.placeLineEvents; split <;> simp
@[simp] theorem State.placeLineEvents_dueTest (s : State) (p : Pair) : (s.placeLineEvents p).dueTest = s.dueTest := by
  unfold State.placeLineEvents; split <;> simp
@[simp] theorem State.placeLineEvents_choices (s : State) (p : Pair) : (s.placeLineEvents p).choices = s.choices := by
  unfold State.placeLineEvents; split <;> simp
@[simp] theorem State.placeLineEvents_pending (s : State) (p : Pair) : (s.placeLineEvents p).pending = s.pending := by
  unfold State.placeLineEvents; split <;> simp

@[simp] theorem State.withdraw_station (s : State) (ref : ItemRef) (f : Item → Item) : (s.withdraw ref f).station = s.station := by
  unfold State.withdraw; split <;> [rfl; (split <;> simp)]
@[simp] theorem State.withdraw_now (s : State) (ref : ItemRef) (f : Item → Item) : (s.withdraw ref f).now = s.now := by
  unfold State.withdraw; split <;> [rfl; (split <;> simp)]
@[simp] theorem State.withdraw_listenUntil (s : State) (ref : ItemRef) (f : Item → Item) : (s.withdraw ref f).listenUntil = s.listenUntil := by
  unfold State.withdraw; split <;> [rfl; (split <;> simp)]
@[simp] theorem State.withdraw_straps (s : State) (ref : ItemRef) (f : Item → Item) : (s.withdraw ref f).straps = s.straps := by
  unfold State.withdraw; split <;> [rfl; (split <;> simp)]
@[simp] theorem State.withdraw_integrityAt (s : State) (ref : ItemRef) (f : Item → Item) : (s.withdraw ref f).integrityAt = s.integrityAt := by
  unfold State.withdraw; split <;> [rfl; (split <;> simp)]
@[simp] theorem State.withdraw_pairs (s : State) (ref : ItemRef) (f : Item → Item) : (s.withdraw ref f).pairs = s.pairs := by
  unfold State.withdraw; split <;> [rfl; (split <;> simp)]
@[simp] theorem State.withdraw_serviceA (s : State) (ref : ItemRef) (f : Item → Item) : (s.withdraw ref f).serviceA = s.serviceA := by
  unfold State.withdraw; split <;> [rfl; (split <;> simp)]
@[simp] theorem State.withdraw_serviceB (s : State) (ref : ItemRef) (f : Item → Item) : (s.withdraw ref f).serviceB = s.serviceB := by
  unfold State.withdraw; split <;> [rfl; (split <;> simp)]
@[simp] theorem State.withdraw_receivers (s : State) (ref : ItemRef) (f : Item → Item) : (s.withdraw ref f).receivers = s.receivers := by
  unfold State.withdraw; split <;> [rfl; (split <;> simp)]
@[simp] theorem State.withdraw_waitList (s : State) (ref : ItemRef) (f : Item → Item) : (s.withdraw ref f).waitList = s.waitList := by
  unfold State.withdraw; split <;> [rfl; (split <;> simp)]
@[simp] theorem State.withdraw_tags (s : State) (ref : ItemRef) (f : Item → Item) : (s.withdraw ref f).tags = s.tags := by
  unfold State.withdraw; split <;> [rfl; (split <;> simp)]
@[simp] theorem State.withdraw_tagPointer (s : State) (ref : ItemRef) (f : Item → Item) : (s.withdraw ref f).tagPointer = s.tagPointer := by
  unfold State.withdraw; split <;> [rfl; (split <;> simp)]
@[simp] theorem State.withdraw_entries (s : State) (ref : ItemRef) (f : Item → Item) : (s.withdraw ref f).entries = s.entries := by
  unfold State.withdraw; split <;> [rfl; (split <;> simp)]
@[simp] theorem State.withdraw_keyStore (s : State) (ref : ItemRef) (f : Item → Item) : (s.withdraw ref f).keyStore = s.keyStore := by
  unfold State.withdraw; split <;> [rfl; (split <;> simp)]
@[simp] theorem State.withdraw_bus (s : State) (ref : ItemRef) (f : Item → Item) : (s.withdraw ref f).bus = s.bus := by
  unfold State.withdraw; split <;> [rfl; (split <;> simp)]
@[simp] theorem State.withdraw_unit (s : State) (ref : ItemRef) (f : Item → Item) : (s.withdraw ref f).unit = s.unit := by
  unfold State.withdraw; split <;> [rfl; (split <;> simp)]
@[simp] theorem State.withdraw_slots (s : State) (ref : ItemRef) (f : Item → Item) : (s.withdraw ref f).slots = s.slots := by
  unfold State.withdraw; split <;> [rfl; (split <;> simp)]
@[simp] theorem State.withdraw_abandoned (s : State) (ref : ItemRef) (f : Item → Item) : (s.withdraw ref f).abandoned = s.abandoned := by
  unfold State.withdraw; split <;> [rfl; (split <;> simp)]
@[simp] theorem State.withdraw_cells (s : State) (ref : ItemRef) (f : Item → Item) : (s.withdraw ref f).cells = s.cells := by
  unfold State.withdraw; split <;> [rfl; (split <;> simp)]
@[simp] theorem State.withdraw_dueTest (s : State) (ref : ItemRef) (f : Item → Item) : (s.withdraw ref f).dueTest = s.dueTest := by
  unfold State.withdraw; split <;> [rfl; (split <;> simp)]
@[simp] theorem State.withdraw_choices (s : State) (ref : ItemRef) (f : Item → Item) : (s.withdraw ref f).choices = s.choices := by
  unfold State.withdraw; split <;> [rfl; (split <;> simp)]
@[simp] theorem State.withdraw_pending (s : State) (ref : ItemRef) (f : Item → Item) : (s.withdraw ref f).pending = s.pending := by
  unfold State.withdraw; split <;> [rfl; (split <;> simp)]

@[simp] theorem State.drive_station (s : State) (c : Cells) : (s.drive c).station = s.station := by
  unfold State.drive; split <;> rfl
@[simp] theorem State.drive_now (s : State) (c : Cells) : (s.drive c).now = s.now := by
  unfold State.drive; split <;> rfl
@[simp] theorem State.drive_listenUntil (s : State) (c : Cells) : (s.drive c).listenUntil = s.listenUntil := by
  unfold State.drive; split <;> rfl
@[simp] theorem State.drive_straps (s : State) (c : Cells) : (s.drive c).straps = s.straps := by
  unfold State.drive; split <;> rfl
@[simp] theorem State.drive_integrityAt (s : State) (c : Cells) : (s.drive c).integrityAt = s.integrityAt := by
  unfold State.drive; split <;> rfl
@[simp] theorem State.drive_pairs (s : State) (c : Cells) : (s.drive c).pairs = s.pairs := by
  unfold State.drive; split <;> rfl
@[simp] theorem State.drive_serviceA (s : State) (c : Cells) : (s.drive c).serviceA = s.serviceA := by
  unfold State.drive; split <;> rfl
@[simp] theorem State.drive_serviceB (s : State) (c : Cells) : (s.drive c).serviceB = s.serviceB := by
  unfold State.drive; split <;> rfl
@[simp] theorem State.drive_receivers (s : State) (c : Cells) : (s.drive c).receivers = s.receivers := by
  unfold State.drive; split <;> rfl
@[simp] theorem State.drive_waitList (s : State) (c : Cells) : (s.drive c).waitList = s.waitList := by
  unfold State.drive; split <;> rfl
@[simp] theorem State.drive_tags (s : State) (c : Cells) : (s.drive c).tags = s.tags := by
  unfold State.drive; split <;> rfl
@[simp] theorem State.drive_tagPointer (s : State) (c : Cells) : (s.drive c).tagPointer = s.tagPointer := by
  unfold State.drive; split <;> rfl
@[simp] theorem State.drive_entries (s : State) (c : Cells) : (s.drive c).entries = s.entries := by
  unfold State.drive; split <;> rfl
@[simp] theorem State.drive_keyStore (s : State) (c : Cells) : (s.drive c).keyStore = s.keyStore := by
  unfold State.drive; split <;> rfl
@[simp] theorem State.drive_bus (s : State) (c : Cells) : (s.drive c).bus = s.bus := by
  unfold State.drive; split <;> rfl
@[simp] theorem State.drive_unit (s : State) (c : Cells) : (s.drive c).unit = s.unit := by
  unfold State.drive; split <;> rfl
@[simp] theorem State.drive_slots (s : State) (c : Cells) : (s.drive c).slots = s.slots := by
  unfold State.drive; split <;> rfl
@[simp] theorem State.drive_queue (s : State) (c : Cells) : (s.drive c).queue = s.queue := by
  unfold State.drive; split <;> rfl
@[simp] theorem State.drive_abandoned (s : State) (c : Cells) : (s.drive c).abandoned = s.abandoned := by
  unfold State.drive; split <;> rfl
@[simp] theorem State.drive_dueTest (s : State) (c : Cells) : (s.drive c).dueTest = s.dueTest := by
  unfold State.drive; split <;> rfl
@[simp] theorem State.drive_choices (s : State) (c : Cells) : (s.drive c).choices = s.choices := by
  unfold State.drive; split <;> rfl
@[simp] theorem State.drive_pending (s : State) (c : Cells) : (s.drive c).pending = s.pending := by
  unfold State.drive; split <;> rfl

@[simp] theorem State.beginAccess_station (s : State) (p : Pair) (h : StationNo) : (s.beginAccess p h).station = s.station :=
  rfl
@[simp] theorem State.beginAccess_now (s : State) (p : Pair) (h : StationNo) : (s.beginAccess p h).now = s.now :=
  rfl
@[simp] theorem State.beginAccess_listenUntil (s : State) (p : Pair) (h : StationNo) : (s.beginAccess p h).listenUntil = s.listenUntil :=
  rfl
@[simp] theorem State.beginAccess_straps (s : State) (p : Pair) (h : StationNo) : (s.beginAccess p h).straps = s.straps :=
  rfl
@[simp] theorem State.beginAccess_integrityAt (s : State) (p : Pair) (h : StationNo) : (s.beginAccess p h).integrityAt = s.integrityAt :=
  rfl
@[simp] theorem State.beginAccess_serviceA (s : State) (p : Pair) (h : StationNo) : (s.beginAccess p h).serviceA = s.serviceA :=
  rfl
@[simp] theorem State.beginAccess_serviceB (s : State) (p : Pair) (h : StationNo) : (s.beginAccess p h).serviceB = s.serviceB :=
  rfl
@[simp] theorem State.beginAccess_receivers (s : State) (p : Pair) (h : StationNo) : (s.beginAccess p h).receivers = s.receivers :=
  rfl
@[simp] theorem State.beginAccess_waitList (s : State) (p : Pair) (h : StationNo) : (s.beginAccess p h).waitList = s.waitList :=
  rfl
@[simp] theorem State.beginAccess_tags (s : State) (p : Pair) (h : StationNo) : (s.beginAccess p h).tags = s.tags :=
  rfl
@[simp] theorem State.beginAccess_tagPointer (s : State) (p : Pair) (h : StationNo) : (s.beginAccess p h).tagPointer = s.tagPointer :=
  rfl
@[simp] theorem State.beginAccess_entries (s : State) (p : Pair) (h : StationNo) : (s.beginAccess p h).entries = s.entries :=
  rfl
@[simp] theorem State.beginAccess_keyStore (s : State) (p : Pair) (h : StationNo) : (s.beginAccess p h).keyStore = s.keyStore :=
  rfl
@[simp] theorem State.beginAccess_unit (s : State) (p : Pair) (h : StationNo) : (s.beginAccess p h).unit = s.unit :=
  rfl
@[simp] theorem State.beginAccess_slots (s : State) (p : Pair) (h : StationNo) : (s.beginAccess p h).slots = s.slots :=
  rfl
@[simp] theorem State.beginAccess_queue (s : State) (p : Pair) (h : StationNo) : (s.beginAccess p h).queue = s.queue :=
  rfl
@[simp] theorem State.beginAccess_abandoned (s : State) (p : Pair) (h : StationNo) : (s.beginAccess p h).abandoned = s.abandoned :=
  rfl
@[simp] theorem State.beginAccess_cells (s : State) (p : Pair) (h : StationNo) : (s.beginAccess p h).cells = s.cells :=
  rfl
@[simp] theorem State.beginAccess_dueTest (s : State) (p : Pair) (h : StationNo) : (s.beginAccess p h).dueTest = s.dueTest :=
  rfl
@[simp] theorem State.beginAccess_choices (s : State) (p : Pair) (h : StationNo) : (s.beginAccess p h).choices = s.choices :=
  rfl
@[simp] theorem State.beginAccess_pending (s : State) (p : Pair) (h : StationNo) : (s.beginAccess p h).pending = s.pending :=
  rfl

@[simp] theorem State.endAccess_station (s : State) : (s.endAccess).station = s.station := by
  unfold State.endAccess; split <;> simp
@[simp] theorem State.endAccess_now (s : State) : (s.endAccess).now = s.now := by
  unfold State.endAccess; split <;> simp
@[simp] theorem State.endAccess_listenUntil (s : State) : (s.endAccess).listenUntil = s.listenUntil := by
  unfold State.endAccess; split <;> simp
@[simp] theorem State.endAccess_straps (s : State) : (s.endAccess).straps = s.straps := by
  unfold State.endAccess; split <;> simp
@[simp] theorem State.endAccess_integrityAt (s : State) : (s.endAccess).integrityAt = s.integrityAt := by
  unfold State.endAccess; split <;> simp
@[simp] theorem State.endAccess_serviceA (s : State) : (s.endAccess).serviceA = s.serviceA := by
  unfold State.endAccess; split <;> simp
@[simp] theorem State.endAccess_serviceB (s : State) : (s.endAccess).serviceB = s.serviceB := by
  unfold State.endAccess; split <;> simp
@[simp] theorem State.endAccess_receivers (s : State) : (s.endAccess).receivers = s.receivers := by
  unfold State.endAccess; split <;> simp
@[simp] theorem State.endAccess_waitList (s : State) : (s.endAccess).waitList = s.waitList := by
  unfold State.endAccess; split <;> simp
@[simp] theorem State.endAccess_tags (s : State) : (s.endAccess).tags = s.tags := by
  unfold State.endAccess; split <;> simp
@[simp] theorem State.endAccess_tagPointer (s : State) : (s.endAccess).tagPointer = s.tagPointer := by
  unfold State.endAccess; split <;> simp
@[simp] theorem State.endAccess_entries (s : State) : (s.endAccess).entries = s.entries := by
  unfold State.endAccess; split <;> simp
@[simp] theorem State.endAccess_keyStore (s : State) : (s.endAccess).keyStore = s.keyStore := by
  unfold State.endAccess; split <;> simp
@[simp] theorem State.endAccess_unit (s : State) : (s.endAccess).unit = s.unit := by
  unfold State.endAccess; split <;> simp
@[simp] theorem State.endAccess_slots (s : State) : (s.endAccess).slots = s.slots := by
  unfold State.endAccess; split <;> simp
@[simp] theorem State.endAccess_queue (s : State) : (s.endAccess).queue = s.queue := by
  unfold State.endAccess; split <;> simp
@[simp] theorem State.endAccess_abandoned (s : State) : (s.endAccess).abandoned = s.abandoned := by
  unfold State.endAccess; split <;> simp
@[simp] theorem State.endAccess_cells (s : State) : (s.endAccess).cells = s.cells := by
  unfold State.endAccess; split <;> simp
@[simp] theorem State.endAccess_dueTest (s : State) : (s.endAccess).dueTest = s.dueTest := by
  unfold State.endAccess; split <;> simp
@[simp] theorem State.endAccess_choices (s : State) : (s.endAccess).choices = s.choices := by
  unfold State.endAccess; split <;> simp
@[simp] theorem State.endAccess_pending (s : State) : (s.endAccess).pending = s.pending := by
  unfold State.endAccess; split <;> simp

@[simp] theorem State.writeEntry_station (s : State) (e : EntryNo) (x : Entry) : (s.writeEntry e x).station = s.station := by
  unfold State.writeEntry; split <;> simp
@[simp] theorem State.writeEntry_now (s : State) (e : EntryNo) (x : Entry) : (s.writeEntry e x).now = s.now := by
  unfold State.writeEntry; split <;> simp
@[simp] theorem State.writeEntry_listenUntil (s : State) (e : EntryNo) (x : Entry) : (s.writeEntry e x).listenUntil = s.listenUntil := by
  unfold State.writeEntry; split <;> simp
@[simp] theorem State.writeEntry_straps (s : State) (e : EntryNo) (x : Entry) : (s.writeEntry e x).straps = s.straps := by
  unfold State.writeEntry; split <;> simp
@[simp] theorem State.writeEntry_integrityAt (s : State) (e : EntryNo) (x : Entry) : (s.writeEntry e x).integrityAt = s.integrityAt := by
  unfold State.writeEntry; split <;> simp
@[simp] theorem State.writeEntry_pairs (s : State) (e : EntryNo) (x : Entry) : (s.writeEntry e x).pairs = s.pairs := by
  unfold State.writeEntry; split <;> simp
@[simp] theorem State.writeEntry_serviceA (s : State) (e : EntryNo) (x : Entry) : (s.writeEntry e x).serviceA = s.serviceA := by
  unfold State.writeEntry; split <;> simp
@[simp] theorem State.writeEntry_serviceB (s : State) (e : EntryNo) (x : Entry) : (s.writeEntry e x).serviceB = s.serviceB := by
  unfold State.writeEntry; split <;> simp
@[simp] theorem State.writeEntry_receivers (s : State) (e : EntryNo) (x : Entry) : (s.writeEntry e x).receivers = s.receivers := by
  unfold State.writeEntry; split <;> simp
@[simp] theorem State.writeEntry_waitList (s : State) (e : EntryNo) (x : Entry) : (s.writeEntry e x).waitList = s.waitList := by
  unfold State.writeEntry; split <;> simp
@[simp] theorem State.writeEntry_tags (s : State) (e : EntryNo) (x : Entry) : (s.writeEntry e x).tags = s.tags := by
  unfold State.writeEntry; split <;> simp
@[simp] theorem State.writeEntry_tagPointer (s : State) (e : EntryNo) (x : Entry) : (s.writeEntry e x).tagPointer = s.tagPointer := by
  unfold State.writeEntry; split <;> simp
@[simp] theorem State.writeEntry_bus (s : State) (e : EntryNo) (x : Entry) : (s.writeEntry e x).bus = s.bus := by
  unfold State.writeEntry; split <;> simp
@[simp] theorem State.writeEntry_unit (s : State) (e : EntryNo) (x : Entry) : (s.writeEntry e x).unit = s.unit := by
  unfold State.writeEntry; split <;> simp
@[simp] theorem State.writeEntry_slots (s : State) (e : EntryNo) (x : Entry) : (s.writeEntry e x).slots = s.slots := by
  unfold State.writeEntry; split <;> simp
@[simp] theorem State.writeEntry_abandoned (s : State) (e : EntryNo) (x : Entry) : (s.writeEntry e x).abandoned = s.abandoned := by
  unfold State.writeEntry; split <;> simp
@[simp] theorem State.writeEntry_cells (s : State) (e : EntryNo) (x : Entry) : (s.writeEntry e x).cells = s.cells := by
  unfold State.writeEntry; split <;> simp
@[simp] theorem State.writeEntry_choices (s : State) (e : EntryNo) (x : Entry) : (s.writeEntry e x).choices = s.choices := by
  unfold State.writeEntry; split <;> simp
@[simp] theorem State.writeEntry_pending (s : State) (e : EntryNo) (x : Entry) : (s.writeEntry e x).pending = s.pending := by
  unfold State.writeEntry; split <;> simp

@[simp] theorem State.accepted_station (s : State) : (s.accepted).station = s.station := by
  unfold State.accepted; split <;> rfl
@[simp] theorem State.accepted_now (s : State) : (s.accepted).now = s.now := by
  unfold State.accepted; split <;> rfl
@[simp] theorem State.accepted_listenUntil (s : State) : (s.accepted).listenUntil = s.listenUntil := by
  unfold State.accepted; split <;> rfl
@[simp] theorem State.accepted_straps (s : State) : (s.accepted).straps = s.straps := by
  unfold State.accepted; split <;> rfl
@[simp] theorem State.accepted_integrityAt (s : State) : (s.accepted).integrityAt = s.integrityAt := by
  unfold State.accepted; split <;> rfl
@[simp] theorem State.accepted_pairs (s : State) : (s.accepted).pairs = s.pairs := by
  unfold State.accepted; split <;> rfl
@[simp] theorem State.accepted_serviceA (s : State) : (s.accepted).serviceA = s.serviceA := by
  unfold State.accepted; split <;> rfl
@[simp] theorem State.accepted_serviceB (s : State) : (s.accepted).serviceB = s.serviceB := by
  unfold State.accepted; split <;> rfl
@[simp] theorem State.accepted_receivers (s : State) : (s.accepted).receivers = s.receivers := by
  unfold State.accepted; split <;> rfl
@[simp] theorem State.accepted_waitList (s : State) : (s.accepted).waitList = s.waitList := by
  unfold State.accepted; split <;> rfl
@[simp] theorem State.accepted_tags (s : State) : (s.accepted).tags = s.tags := by
  unfold State.accepted; split <;> rfl
@[simp] theorem State.accepted_tagPointer (s : State) : (s.accepted).tagPointer = s.tagPointer := by
  unfold State.accepted; split <;> rfl
@[simp] theorem State.accepted_entries (s : State) : (s.accepted).entries = s.entries := by
  unfold State.accepted; split <;> rfl
@[simp] theorem State.accepted_keyStore (s : State) : (s.accepted).keyStore = s.keyStore := by
  unfold State.accepted; split <;> rfl
@[simp] theorem State.accepted_unit (s : State) : (s.accepted).unit = s.unit := by
  unfold State.accepted; split <;> rfl
@[simp] theorem State.accepted_slots (s : State) : (s.accepted).slots = s.slots := by
  unfold State.accepted; split <;> rfl
@[simp] theorem State.accepted_queue (s : State) : (s.accepted).queue = s.queue := by
  unfold State.accepted; split <;> rfl
@[simp] theorem State.accepted_abandoned (s : State) : (s.accepted).abandoned = s.abandoned := by
  unfold State.accepted; split <;> rfl
@[simp] theorem State.accepted_cells (s : State) : (s.accepted).cells = s.cells := by
  unfold State.accepted; split <;> rfl
@[simp] theorem State.accepted_dueTest (s : State) : (s.accepted).dueTest = s.dueTest := by
  unfold State.accepted; split <;> rfl
@[simp] theorem State.accepted_choices (s : State) : (s.accepted).choices = s.choices := by
  unfold State.accepted; split <;> rfl
@[simp] theorem State.accepted_pending (s : State) : (s.accepted).pending = s.pending := by
  unfold State.accepted; split <;> rfl

@[simp] theorem State.callTest_station (s : State) : s.callTest.station = s.station := rfl
@[simp] theorem State.callTest_now (s : State) : s.callTest.now = s.now := rfl
@[simp] theorem State.callTest_listenUntil (s : State) : s.callTest.listenUntil = s.listenUntil := rfl
@[simp] theorem State.callTest_straps (s : State) : s.callTest.straps = s.straps := rfl
@[simp] theorem State.callTest_integrityAt (s : State) : s.callTest.integrityAt = s.integrityAt := rfl
@[simp] theorem State.callTest_pairs (s : State) : s.callTest.pairs = s.pairs := rfl
@[simp] theorem State.callTest_serviceA (s : State) : s.callTest.serviceA = s.serviceA := rfl
@[simp] theorem State.callTest_serviceB (s : State) : s.callTest.serviceB = s.serviceB := rfl
@[simp] theorem State.callTest_receivers (s : State) : s.callTest.receivers = s.receivers := rfl
@[simp] theorem State.callTest_waitList (s : State) : s.callTest.waitList = s.waitList := rfl
@[simp] theorem State.callTest_tags (s : State) : s.callTest.tags = s.tags := rfl
@[simp] theorem State.callTest_tagPointer (s : State) : s.callTest.tagPointer = s.tagPointer := rfl
@[simp] theorem State.callTest_entries (s : State) : s.callTest.entries = s.entries := rfl
@[simp] theorem State.callTest_keyStore (s : State) : s.callTest.keyStore = s.keyStore := rfl
@[simp] theorem State.callTest_bus (s : State) : s.callTest.bus = s.bus := rfl
@[simp] theorem State.callTest_unit (s : State) : s.callTest.unit = s.unit := rfl
@[simp] theorem State.callTest_slots (s : State) : s.callTest.slots = s.slots := rfl
@[simp] theorem State.callTest_queue (s : State) : s.callTest.queue = s.queue := rfl
@[simp] theorem State.callTest_abandoned (s : State) : s.callTest.abandoned = s.abandoned := rfl
@[simp] theorem State.callTest_cells (s : State) : s.callTest.cells = s.cells := rfl
@[simp] theorem State.callTest_choices (s : State) : s.callTest.choices = s.choices := rfl
@[simp] theorem State.callTest_pending (s : State) : s.callTest.pending = s.pending := rfl
@[simp] theorem State.callTest_dueTest (s : State) : s.callTest.dueTest = true := rfl
@[simp] theorem State.callTest_running (s : State) : s.callTest.running = s.running := rfl
@[simp] theorem State.callTest_pair (s : State) (q : Pair) : s.callTest.pair q = s.pair q := rfl
@[simp] theorem State.callTest_service (s : State) (q : Pair) : s.callTest.service q = s.service q := rfl
@[simp] theorem State.callTest_receiver (s : State) (rn : ReceiverNo) : s.callTest.receiver rn = s.receiver rn := rfl
@[simp] theorem State.callTest_entry (s : State) (en : EntryNo) : s.callTest.entry en = s.entry en := rfl
@[simp] theorem State.callTest_slot (s : State) (sl : Fin 4) : s.callTest.slot sl = s.slot sl := rfl
@[simp] theorem State.callTest_inAccess (s : State) (q : Pair) : s.callTest.inAccess q = s.inAccess q := rfl
@[simp] theorem State.callTest_pairKey (s : State) (q : Pair) (cls : FaultClass) :
    s.callTest.pairKey q cls = s.pairKey q cls := rfl

/-- A test of R122 stands called for after a write where it did before, or where the write itself calls for one. -/
@[simp] theorem State.writeEntry_dueTest (s : State) (e : EntryNo) (x : Entry) :
    (s.writeEntry e x).dueTest = (s.dueTest || (s.entry e).callsTest x) := by
  unfold State.writeEntry; split <;> simp

/-- The end of a confirmation calls for a test (R122). -/
@[simp] theorem State.clearRun_dueTest (s : State) : s.clearRun.dueTest = true := rfl

/-- Reading an entry after an entry write (R111): the entry written, its check matching. -/
theorem State.entry_writeEntry (s : State) (e i : EntryNo) (x : Entry) :
    (s.writeEntry e x).entry i = if i = e then { x with check := true } else s.entry i := by
  unfold State.writeEntry State.entry
  split <;> simp only [State.place_entries] <;> exact get_set _ _ _ _

@[simp] theorem State.entry_writeEntry_same (s : State) (e : EntryNo) (x : Entry) :
    (s.writeEntry e x).entry e = { x with check := true } := by simp [State.entry_writeEntry]

/-! ### What an operation leaves alone, through the readers -/

theorem State.pairKey_of_straps {s t : State} (h : t.straps = s.straps) (q : Pair) (cls : FaultClass) :
    t.pairKey q cls = s.pairKey q cls := by
  unfold State.pairKey; rw [h]

@[simp] theorem State.elapseTo_running (s : State) (t : Nat) : (s.elapseTo t).running = s.running := by
  simp only [State.running, State.elapseTo_station]
@[simp] theorem State.elapseTo_pair (s : State) (t : Nat) (q : Pair) : (s.elapseTo t).pair q = s.pair q := by
  simp only [State.pair, State.elapseTo_pairs]
@[simp] theorem State.elapseTo_service (s : State) (t : Nat) (q : Pair) : (s.elapseTo t).service q = s.service q := by
  simp only [State.service, State.elapseTo_serviceA]
@[simp] theorem State.elapseTo_receiver (s : State) (t : Nat) (rn : ReceiverNo) : (s.elapseTo t).receiver rn = s.receiver rn := by
  simp only [State.receiver, State.elapseTo_receivers]
@[simp] theorem State.elapseTo_entry (s : State) (t : Nat) (en : EntryNo) : (s.elapseTo t).entry en = s.entry en := by
  simp only [State.entry, State.elapseTo_entries]
@[simp] theorem State.elapseTo_slot (s : State) (t : Nat) (sl : Fin 4) : (s.elapseTo t).slot sl = s.slot sl := by
  simp only [State.slot, State.elapseTo_slots]
@[simp] theorem State.elapseTo_inAccess (s : State) (t : Nat) (q : Pair) : (s.elapseTo t).inAccess q = s.inAccess q := by
  simp only [State.inAccess, State.elapseTo_bus]
@[simp] theorem State.elapseTo_pairKey (s : State) (t : Nat) (q : Pair) (cls : FaultClass) : (s.elapseTo t).pairKey q cls = s.pairKey q cls :=
    State.pairKey_of_straps (State.elapseTo_straps ..) q cls

@[simp] theorem State.setPair_running (s : State) (p : Pair) (r : PairRecord) : (s.setPair p r).running = s.running := by
  simp only [State.running, State.setPair_station]
@[simp] theorem State.setPair_service (s : State) (p : Pair) (r : PairRecord) (q : Pair) : (s.setPair p r).service q = s.service q := by
  simp only [State.service, State.setPair_serviceA]
@[simp] theorem State.setPair_receiver (s : State) (p : Pair) (r : PairRecord) (rn : ReceiverNo) : (s.setPair p r).receiver rn = s.receiver rn := by
  simp only [State.receiver, State.setPair_receivers]
@[simp] theorem State.setPair_entry (s : State) (p : Pair) (r : PairRecord) (en : EntryNo) : (s.setPair p r).entry en = s.entry en := by
  simp only [State.entry, State.setPair_entries]
@[simp] theorem State.setPair_slot (s : State) (p : Pair) (r : PairRecord) (sl : Fin 4) : (s.setPair p r).slot sl = s.slot sl := by
  simp only [State.slot, State.setPair_slots]
@[simp] theorem State.setPair_inAccess (s : State) (p : Pair) (r : PairRecord) (q : Pair) : (s.setPair p r).inAccess q = s.inAccess q := by
  simp only [State.inAccess, State.setPair_bus]
@[simp] theorem State.setPair_pairKey (s : State) (p : Pair) (r : PairRecord) (q : Pair) (cls : FaultClass) : (s.setPair p r).pairKey q cls = s.pairKey q cls :=
    State.pairKey_of_straps (State.setPair_straps ..) q cls

@[simp] theorem State.modPair_running (s : State) (p : Pair) (f : PairRecord → PairRecord) : (s.modPair p f).running = s.running := by
  simp only [State.running, State.modPair_station]
@[simp] theorem State.modPair_service (s : State) (p : Pair) (f : PairRecord → PairRecord) (q : Pair) : (s.modPair p f).service q = s.service q := by
  simp only [State.service, State.modPair_serviceA]
@[simp] theorem State.modPair_receiver (s : State) (p : Pair) (f : PairRecord → PairRecord) (rn : ReceiverNo) : (s.modPair p f).receiver rn = s.receiver rn := by
  simp only [State.receiver, State.modPair_receivers]
@[simp] theorem State.modPair_entry (s : State) (p : Pair) (f : PairRecord → PairRecord) (en : EntryNo) : (s.modPair p f).entry en = s.entry en := by
  simp only [State.entry, State.modPair_entries]
@[simp] theorem State.modPair_slot (s : State) (p : Pair) (f : PairRecord → PairRecord) (sl : Fin 4) : (s.modPair p f).slot sl = s.slot sl := by
  simp only [State.slot, State.modPair_slots]
@[simp] theorem State.modPair_inAccess (s : State) (p : Pair) (f : PairRecord → PairRecord) (q : Pair) : (s.modPair p f).inAccess q = s.inAccess q := by
  simp only [State.inAccess, State.modPair_bus]
@[simp] theorem State.modPair_pairKey (s : State) (p : Pair) (f : PairRecord → PairRecord) (q : Pair) (cls : FaultClass) : (s.modPair p f).pairKey q cls = s.pairKey q cls :=
    State.pairKey_of_straps (State.modPair_straps ..) q cls

@[simp] theorem State.setService_running (s : State) (p : Pair) (v : Service) : (s.setService p v).running = s.running := by
  simp only [State.running, State.setService_station]
@[simp] theorem State.setService_pair (s : State) (p : Pair) (v : Service) (q : Pair) : (s.setService p v).pair q = s.pair q := by
  simp only [State.pair, State.setService_pairs]
@[simp] theorem State.setService_receiver (s : State) (p : Pair) (v : Service) (rn : ReceiverNo) : (s.setService p v).receiver rn = s.receiver rn := by
  simp only [State.receiver, State.setService_receivers]
@[simp] theorem State.setService_entry (s : State) (p : Pair) (v : Service) (en : EntryNo) : (s.setService p v).entry en = s.entry en := by
  simp only [State.entry, State.setService_entries]
@[simp] theorem State.setService_slot (s : State) (p : Pair) (v : Service) (sl : Fin 4) : (s.setService p v).slot sl = s.slot sl := by
  simp only [State.slot, State.setService_slots]
@[simp] theorem State.setService_inAccess (s : State) (p : Pair) (v : Service) (q : Pair) : (s.setService p v).inAccess q = s.inAccess q := by
  simp only [State.inAccess, State.setService_bus]
@[simp] theorem State.setService_pairKey (s : State) (p : Pair) (v : Service) (q : Pair) (cls : FaultClass) : (s.setService p v).pairKey q cls = s.pairKey q cls :=
    State.pairKey_of_straps (State.setService_straps ..) q cls

@[simp] theorem State.setReceiver_running (s : State) (r : ReceiverNo) (x : Receiver) : (s.setReceiver r x).running = s.running := by
  simp only [State.running, State.setReceiver_station]
@[simp] theorem State.setReceiver_pair (s : State) (r : ReceiverNo) (x : Receiver) (q : Pair) : (s.setReceiver r x).pair q = s.pair q := by
  simp only [State.pair, State.setReceiver_pairs]
@[simp] theorem State.setReceiver_service (s : State) (r : ReceiverNo) (x : Receiver) (q : Pair) : (s.setReceiver r x).service q = s.service q := by
  simp only [State.service, State.setReceiver_serviceA]
@[simp] theorem State.setReceiver_entry (s : State) (r : ReceiverNo) (x : Receiver) (en : EntryNo) : (s.setReceiver r x).entry en = s.entry en := by
  simp only [State.entry, State.setReceiver_entries]
@[simp] theorem State.setReceiver_slot (s : State) (r : ReceiverNo) (x : Receiver) (sl : Fin 4) : (s.setReceiver r x).slot sl = s.slot sl := by
  simp only [State.slot, State.setReceiver_slots]
@[simp] theorem State.setReceiver_inAccess (s : State) (r : ReceiverNo) (x : Receiver) (q : Pair) : (s.setReceiver r x).inAccess q = s.inAccess q := by
  simp only [State.inAccess, State.setReceiver_bus]
@[simp] theorem State.setReceiver_pairKey (s : State) (r : ReceiverNo) (x : Receiver) (q : Pair) (cls : FaultClass) : (s.setReceiver r x).pairKey q cls = s.pairKey q cls :=
    State.pairKey_of_straps (State.setReceiver_straps ..) q cls

@[simp] theorem State.setSlot_running (s : State) (i : Fin 4) (x : Option ReplySlot) : (s.setSlot i x).running = s.running := by
  simp only [State.running, State.setSlot_station]
@[simp] theorem State.setSlot_pair (s : State) (i : Fin 4) (x : Option ReplySlot) (q : Pair) : (s.setSlot i x).pair q = s.pair q := by
  simp only [State.pair, State.setSlot_pairs]
@[simp] theorem State.setSlot_service (s : State) (i : Fin 4) (x : Option ReplySlot) (q : Pair) : (s.setSlot i x).service q = s.service q := by
  simp only [State.service, State.setSlot_serviceA]
@[simp] theorem State.setSlot_receiver (s : State) (i : Fin 4) (x : Option ReplySlot) (rn : ReceiverNo) : (s.setSlot i x).receiver rn = s.receiver rn := by
  simp only [State.receiver, State.setSlot_receivers]
@[simp] theorem State.setSlot_entry (s : State) (i : Fin 4) (x : Option ReplySlot) (en : EntryNo) : (s.setSlot i x).entry en = s.entry en := by
  simp only [State.entry, State.setSlot_entries]
@[simp] theorem State.setSlot_inAccess (s : State) (i : Fin 4) (x : Option ReplySlot) (q : Pair) : (s.setSlot i x).inAccess q = s.inAccess q := by
  simp only [State.inAccess, State.setSlot_bus]
@[simp] theorem State.setSlot_pairKey (s : State) (i : Fin 4) (x : Option ReplySlot) (q : Pair) (cls : FaultClass) : (s.setSlot i x).pairKey q cls = s.pairKey q cls :=
    State.pairKey_of_straps (State.setSlot_straps ..) q cls

@[simp] theorem State.removeItem_running (s : State) (ref : ItemRef) : (s.removeItem ref).running = s.running := by
  simp only [State.running, State.removeItem_station]
@[simp] theorem State.removeItem_pair (s : State) (ref : ItemRef) (q : Pair) : (s.removeItem ref).pair q = s.pair q := by
  simp only [State.pair, State.removeItem_pairs]
@[simp] theorem State.removeItem_service (s : State) (ref : ItemRef) (q : Pair) : (s.removeItem ref).service q = s.service q := by
  simp only [State.service, State.removeItem_serviceA]
@[simp] theorem State.removeItem_receiver (s : State) (ref : ItemRef) (rn : ReceiverNo) : (s.removeItem ref).receiver rn = s.receiver rn := by
  simp only [State.receiver, State.removeItem_receivers]
@[simp] theorem State.removeItem_entry (s : State) (ref : ItemRef) (en : EntryNo) : (s.removeItem ref).entry en = s.entry en := by
  simp only [State.entry, State.removeItem_entries]
@[simp] theorem State.removeItem_slot (s : State) (ref : ItemRef) (sl : Fin 4) : (s.removeItem ref).slot sl = s.slot sl := by
  simp only [State.slot, State.removeItem_slots]
@[simp] theorem State.removeItem_inAccess (s : State) (ref : ItemRef) (q : Pair) : (s.removeItem ref).inAccess q = s.inAccess q := by
  simp only [State.inAccess, State.removeItem_bus]
@[simp] theorem State.removeItem_pairKey (s : State) (ref : ItemRef) (q : Pair) (cls : FaultClass) : (s.removeItem ref).pairKey q cls = s.pairKey q cls :=
    State.pairKey_of_straps (State.removeItem_straps ..) q cls

@[simp] theorem State.updateItem_running (s : State) (ref : ItemRef) (f : Item → Item) : (s.updateItem ref f).running = s.running := by
  simp only [State.running, State.updateItem_station]
@[simp] theorem State.updateItem_pair (s : State) (ref : ItemRef) (f : Item → Item) (q : Pair) : (s.updateItem ref f).pair q = s.pair q := by
  simp only [State.pair, State.updateItem_pairs]
@[simp] theorem State.updateItem_service (s : State) (ref : ItemRef) (f : Item → Item) (q : Pair) : (s.updateItem ref f).service q = s.service q := by
  simp only [State.service, State.updateItem_serviceA]
@[simp] theorem State.updateItem_receiver (s : State) (ref : ItemRef) (f : Item → Item) (rn : ReceiverNo) : (s.updateItem ref f).receiver rn = s.receiver rn := by
  simp only [State.receiver, State.updateItem_receivers]
@[simp] theorem State.updateItem_entry (s : State) (ref : ItemRef) (f : Item → Item) (en : EntryNo) : (s.updateItem ref f).entry en = s.entry en := by
  simp only [State.entry, State.updateItem_entries]
@[simp] theorem State.updateItem_slot (s : State) (ref : ItemRef) (f : Item → Item) (sl : Fin 4) : (s.updateItem ref f).slot sl = s.slot sl := by
  simp only [State.slot, State.updateItem_slots]
@[simp] theorem State.updateItem_inAccess (s : State) (ref : ItemRef) (f : Item → Item) (q : Pair) : (s.updateItem ref f).inAccess q = s.inAccess q := by
  simp only [State.inAccess, State.updateItem_bus]
@[simp] theorem State.updateItem_pairKey (s : State) (ref : ItemRef) (f : Item → Item) (q : Pair) (cls : FaultClass) : (s.updateItem ref f).pairKey q cls = s.pairKey q cls :=
    State.pairKey_of_straps (State.updateItem_straps ..) q cls

@[simp] theorem State.setClaim_running (s : State) (p : Pair) (c : ClaimState) (t : Option Nat) : (s.setClaim p c t).running = s.running := by
  simp only [State.running, State.setClaim_station]
@[simp] theorem State.setClaim_service (s : State) (p : Pair) (c : ClaimState) (t : Option Nat) (q : Pair) : (s.setClaim p c t).service q = s.service q := by
  simp only [State.service, State.setClaim_serviceA]
@[simp] theorem State.setClaim_receiver (s : State) (p : Pair) (c : ClaimState) (t : Option Nat) (rn : ReceiverNo) : (s.setClaim p c t).receiver rn = s.receiver rn := by
  simp only [State.receiver, State.setClaim_receivers]
@[simp] theorem State.setClaim_entry (s : State) (p : Pair) (c : ClaimState) (t : Option Nat) (en : EntryNo) : (s.setClaim p c t).entry en = s.entry en := by
  simp only [State.entry, State.setClaim_entries]
@[simp] theorem State.setClaim_slot (s : State) (p : Pair) (c : ClaimState) (t : Option Nat) (sl : Fin 4) : (s.setClaim p c t).slot sl = s.slot sl := by
  simp only [State.slot, State.setClaim_slots]
@[simp] theorem State.setClaim_inAccess (s : State) (p : Pair) (c : ClaimState) (t : Option Nat) (q : Pair) : (s.setClaim p c t).inAccess q = s.inAccess q := by
  simp only [State.inAccess, State.setClaim_bus]
@[simp] theorem State.setClaim_pairKey (s : State) (p : Pair) (c : ClaimState) (t : Option Nat) (q : Pair) (cls : FaultClass) : (s.setClaim p c t).pairKey q cls = s.pairKey q cls :=
    State.pairKey_of_straps (State.setClaim_straps ..) q cls

@[simp] theorem State.setView_running (s : State) (v : BusHolder) : (s.setView v).running = s.running := by
  simp only [State.running, State.setView_station]
@[simp] theorem State.setView_pair (s : State) (v : BusHolder) (q : Pair) : (s.setView v).pair q = s.pair q := by
  simp only [State.pair, State.setView_pairs]
@[simp] theorem State.setView_service (s : State) (v : BusHolder) (q : Pair) : (s.setView v).service q = s.service q := by
  simp only [State.service, State.setView_serviceA]
@[simp] theorem State.setView_receiver (s : State) (v : BusHolder) (rn : ReceiverNo) : (s.setView v).receiver rn = s.receiver rn := by
  simp only [State.receiver, State.setView_receivers]
@[simp] theorem State.setView_entry (s : State) (v : BusHolder) (en : EntryNo) : (s.setView v).entry en = s.entry en := by
  simp only [State.entry, State.setView_entries]
@[simp] theorem State.setView_slot (s : State) (v : BusHolder) (sl : Fin 4) : (s.setView v).slot sl = s.slot sl := by
  simp only [State.slot, State.setView_slots]
@[simp] theorem State.setView_pairKey (s : State) (v : BusHolder) (q : Pair) (cls : FaultClass) : (s.setView v).pairKey q cls = s.pairKey q cls :=
    State.pairKey_of_straps (State.setView_straps ..) q cls

@[simp] theorem State.retireTag_running (s : State) (p : Pair) : (s.retireTag p).running = s.running := by
  simp only [State.running, State.retireTag_station]
@[simp] theorem State.retireTag_pair (s : State) (p : Pair) (q : Pair) : (s.retireTag p).pair q = s.pair q := by
  simp only [State.pair, State.retireTag_pairs]
@[simp] theorem State.retireTag_service (s : State) (p : Pair) (q : Pair) : (s.retireTag p).service q = s.service q := by
  simp only [State.service, State.retireTag_serviceA]
@[simp] theorem State.retireTag_receiver (s : State) (p : Pair) (rn : ReceiverNo) : (s.retireTag p).receiver rn = s.receiver rn := by
  simp only [State.receiver, State.retireTag_receivers]
@[simp] theorem State.retireTag_entry (s : State) (p : Pair) (en : EntryNo) : (s.retireTag p).entry en = s.entry en := by
  simp only [State.entry, State.retireTag_entries]
@[simp] theorem State.retireTag_slot (s : State) (p : Pair) (sl : Fin 4) : (s.retireTag p).slot sl = s.slot sl := by
  simp only [State.slot, State.retireTag_slots]
@[simp] theorem State.retireTag_inAccess (s : State) (p : Pair) (q : Pair) : (s.retireTag p).inAccess q = s.inAccess q := by
  simp only [State.inAccess, State.retireTag_bus]
@[simp] theorem State.retireTag_pairKey (s : State) (p : Pair) (q : Pair) (cls : FaultClass) : (s.retireTag p).pairKey q cls = s.pairKey q cls :=
    State.pairKey_of_straps (State.retireTag_straps ..) q cls

@[simp] theorem State.allocateTag_running (s : State) (p : Pair) (c : FaultClass) : (s.allocateTag p c).running = s.running := by
  simp only [State.running, State.allocateTag_station]
@[simp] theorem State.allocateTag_pair (s : State) (p : Pair) (c : FaultClass) (q : Pair) : (s.allocateTag p c).pair q = s.pair q := by
  simp only [State.pair, State.allocateTag_pairs]
@[simp] theorem State.allocateTag_service (s : State) (p : Pair) (c : FaultClass) (q : Pair) : (s.allocateTag p c).service q = s.service q := by
  simp only [State.service, State.allocateTag_serviceA]
@[simp] theorem State.allocateTag_receiver (s : State) (p : Pair) (c : FaultClass) (rn : ReceiverNo) : (s.allocateTag p c).receiver rn = s.receiver rn := by
  simp only [State.receiver, State.allocateTag_receivers]
@[simp] theorem State.allocateTag_entry (s : State) (p : Pair) (c : FaultClass) (en : EntryNo) : (s.allocateTag p c).entry en = s.entry en := by
  simp only [State.entry, State.allocateTag_entries]
@[simp] theorem State.allocateTag_slot (s : State) (p : Pair) (c : FaultClass) (sl : Fin 4) : (s.allocateTag p c).slot sl = s.slot sl := by
  simp only [State.slot, State.allocateTag_slots]
@[simp] theorem State.allocateTag_inAccess (s : State) (p : Pair) (c : FaultClass) (q : Pair) : (s.allocateTag p c).inAccess q = s.inAccess q := by
  simp only [State.inAccess, State.allocateTag_bus]
@[simp] theorem State.allocateTag_pairKey (s : State) (p : Pair) (c : FaultClass) (q : Pair) (cls : FaultClass) : (s.allocateTag p c).pairKey q cls = s.pairKey q cls :=
    State.pairKey_of_straps (State.allocateTag_straps ..) q cls

@[simp] theorem State.stopUnit_running (s : State) : (s.stopUnit).running = s.running := by
  simp only [State.running, State.stopUnit_station]
@[simp] theorem State.stopUnit_pair (s : State) (q : Pair) : (s.stopUnit).pair q = s.pair q := by
  simp only [State.pair, State.stopUnit_pairs]
@[simp] theorem State.stopUnit_service (s : State) (q : Pair) : (s.stopUnit).service q = s.service q := by
  simp only [State.service, State.stopUnit_serviceA]
@[simp] theorem State.stopUnit_receiver (s : State) (rn : ReceiverNo) : (s.stopUnit).receiver rn = s.receiver rn := by
  simp only [State.receiver, State.stopUnit_receivers]
@[simp] theorem State.stopUnit_entry (s : State) (en : EntryNo) : (s.stopUnit).entry en = s.entry en := by
  simp only [State.entry, State.stopUnit_entries]
@[simp] theorem State.stopUnit_slot (s : State) (sl : Fin 4) : (s.stopUnit).slot sl = s.slot sl := by
  simp only [State.slot, State.stopUnit_slots]
@[simp] theorem State.stopUnit_inAccess (s : State) (q : Pair) : (s.stopUnit).inAccess q = s.inAccess q := by
  simp only [State.inAccess, State.stopUnit_bus]
@[simp] theorem State.stopUnit_pairKey (s : State) (q : Pair) (cls : FaultClass) : (s.stopUnit).pairKey q cls = s.pairKey q cls :=
    State.pairKey_of_straps (State.stopUnit_straps ..) q cls

@[simp] theorem State.disconnectUnit_running (s : State) : (s.disconnectUnit).running = s.running := by
  simp only [State.running, State.disconnectUnit_station]
@[simp] theorem State.disconnectUnit_pair (s : State) (q : Pair) : (s.disconnectUnit).pair q = s.pair q := by
  simp only [State.pair, State.disconnectUnit_pairs]
@[simp] theorem State.disconnectUnit_service (s : State) (q : Pair) : (s.disconnectUnit).service q = s.service q := by
  simp only [State.service, State.disconnectUnit_serviceA]
@[simp] theorem State.disconnectUnit_receiver (s : State) (rn : ReceiverNo) : (s.disconnectUnit).receiver rn = s.receiver rn := by
  simp only [State.receiver, State.disconnectUnit_receivers]
@[simp] theorem State.disconnectUnit_entry (s : State) (en : EntryNo) : (s.disconnectUnit).entry en = s.entry en := by
  simp only [State.entry, State.disconnectUnit_entries]
@[simp] theorem State.disconnectUnit_slot (s : State) (sl : Fin 4) : (s.disconnectUnit).slot sl = s.slot sl := by
  simp only [State.slot, State.disconnectUnit_slots]
@[simp] theorem State.disconnectUnit_inAccess (s : State) (q : Pair) : (s.disconnectUnit).inAccess q = s.inAccess q := by
  simp only [State.inAccess, State.disconnectUnit_bus]
@[simp] theorem State.disconnectUnit_pairKey (s : State) (q : Pair) (cls : FaultClass) : (s.disconnectUnit).pairKey q cls = s.pairKey q cls :=
    State.pairKey_of_straps (State.disconnectUnit_straps ..) q cls

@[simp] theorem State.place_running (s : State) (k : ItemKind) : (s.place k).running = s.running := by
  simp only [State.running, State.place_station]
@[simp] theorem State.place_pair (s : State) (k : ItemKind) (q : Pair) : (s.place k).pair q = s.pair q := by
  simp only [State.pair, State.place_pairs]
@[simp] theorem State.place_service (s : State) (k : ItemKind) (q : Pair) : (s.place k).service q = s.service q := by
  simp only [State.service, State.place_serviceA]
@[simp] theorem State.place_receiver (s : State) (k : ItemKind) (rn : ReceiverNo) : (s.place k).receiver rn = s.receiver rn := by
  simp only [State.receiver, State.place_receivers]
@[simp] theorem State.place_entry (s : State) (k : ItemKind) (en : EntryNo) : (s.place k).entry en = s.entry en := by
  simp only [State.entry, State.place_entries]
@[simp] theorem State.place_slot (s : State) (k : ItemKind) (sl : Fin 4) : (s.place k).slot sl = s.slot sl := by
  simp only [State.slot, State.place_slots]
@[simp] theorem State.place_inAccess (s : State) (k : ItemKind) (q : Pair) : (s.place k).inAccess q = s.inAccess q := by
  simp only [State.inAccess, State.place_bus]
@[simp] theorem State.place_pairKey (s : State) (k : ItemKind) (q : Pair) (cls : FaultClass) : (s.place k).pairKey q cls = s.pairKey q cls :=
    State.pairKey_of_straps (State.place_straps ..) q cls

@[simp] theorem State.placeLineEvents_running (s : State) (p : Pair) : (s.placeLineEvents p).running = s.running := by
  simp only [State.running, State.placeLineEvents_station]
@[simp] theorem State.placeLineEvents_pair (s : State) (p : Pair) (q : Pair) : (s.placeLineEvents p).pair q = s.pair q := by
  simp only [State.pair, State.placeLineEvents_pairs]
@[simp] theorem State.placeLineEvents_service (s : State) (p : Pair) (q : Pair) : (s.placeLineEvents p).service q = s.service q := by
  simp only [State.service, State.placeLineEvents_serviceA]
@[simp] theorem State.placeLineEvents_receiver (s : State) (p : Pair) (rn : ReceiverNo) : (s.placeLineEvents p).receiver rn = s.receiver rn := by
  simp only [State.receiver, State.placeLineEvents_receivers]
@[simp] theorem State.placeLineEvents_entry (s : State) (p : Pair) (en : EntryNo) : (s.placeLineEvents p).entry en = s.entry en := by
  simp only [State.entry, State.placeLineEvents_entries]
@[simp] theorem State.placeLineEvents_slot (s : State) (p : Pair) (sl : Fin 4) : (s.placeLineEvents p).slot sl = s.slot sl := by
  simp only [State.slot, State.placeLineEvents_slots]
@[simp] theorem State.placeLineEvents_inAccess (s : State) (p : Pair) (q : Pair) : (s.placeLineEvents p).inAccess q = s.inAccess q := by
  simp only [State.inAccess, State.placeLineEvents_bus]
@[simp] theorem State.placeLineEvents_pairKey (s : State) (p : Pair) (q : Pair) (cls : FaultClass) : (s.placeLineEvents p).pairKey q cls = s.pairKey q cls :=
    State.pairKey_of_straps (State.placeLineEvents_straps ..) q cls

@[simp] theorem State.withdraw_running (s : State) (ref : ItemRef) (f : Item → Item) : (s.withdraw ref f).running = s.running := by
  simp only [State.running, State.withdraw_station]
@[simp] theorem State.withdraw_pair (s : State) (ref : ItemRef) (f : Item → Item) (q : Pair) : (s.withdraw ref f).pair q = s.pair q := by
  simp only [State.pair, State.withdraw_pairs]
@[simp] theorem State.withdraw_service (s : State) (ref : ItemRef) (f : Item → Item) (q : Pair) : (s.withdraw ref f).service q = s.service q := by
  simp only [State.service, State.withdraw_serviceA]
@[simp] theorem State.withdraw_receiver (s : State) (ref : ItemRef) (f : Item → Item) (rn : ReceiverNo) : (s.withdraw ref f).receiver rn = s.receiver rn := by
  simp only [State.receiver, State.withdraw_receivers]
@[simp] theorem State.withdraw_entry (s : State) (ref : ItemRef) (f : Item → Item) (en : EntryNo) : (s.withdraw ref f).entry en = s.entry en := by
  simp only [State.entry, State.withdraw_entries]
@[simp] theorem State.withdraw_slot (s : State) (ref : ItemRef) (f : Item → Item) (sl : Fin 4) : (s.withdraw ref f).slot sl = s.slot sl := by
  simp only [State.slot, State.withdraw_slots]
@[simp] theorem State.withdraw_inAccess (s : State) (ref : ItemRef) (f : Item → Item) (q : Pair) : (s.withdraw ref f).inAccess q = s.inAccess q := by
  simp only [State.inAccess, State.withdraw_bus]
@[simp] theorem State.withdraw_pairKey (s : State) (ref : ItemRef) (f : Item → Item) (q : Pair) (cls : FaultClass) : (s.withdraw ref f).pairKey q cls = s.pairKey q cls :=
    State.pairKey_of_straps (State.withdraw_straps ..) q cls

@[simp] theorem State.drive_running (s : State) (c : Cells) : (s.drive c).running = s.running := by
  simp only [State.running, State.drive_station]
@[simp] theorem State.drive_pair (s : State) (c : Cells) (q : Pair) : (s.drive c).pair q = s.pair q := by
  simp only [State.pair, State.drive_pairs]
@[simp] theorem State.drive_service (s : State) (c : Cells) (q : Pair) : (s.drive c).service q = s.service q := by
  simp only [State.service, State.drive_serviceA]
@[simp] theorem State.drive_receiver (s : State) (c : Cells) (rn : ReceiverNo) : (s.drive c).receiver rn = s.receiver rn := by
  simp only [State.receiver, State.drive_receivers]
@[simp] theorem State.drive_entry (s : State) (c : Cells) (en : EntryNo) : (s.drive c).entry en = s.entry en := by
  simp only [State.entry, State.drive_entries]
@[simp] theorem State.drive_slot (s : State) (c : Cells) (sl : Fin 4) : (s.drive c).slot sl = s.slot sl := by
  simp only [State.slot, State.drive_slots]
@[simp] theorem State.drive_inAccess (s : State) (c : Cells) (q : Pair) : (s.drive c).inAccess q = s.inAccess q := by
  simp only [State.inAccess, State.drive_bus]
@[simp] theorem State.drive_pairKey (s : State) (c : Cells) (q : Pair) (cls : FaultClass) : (s.drive c).pairKey q cls = s.pairKey q cls :=
    State.pairKey_of_straps (State.drive_straps ..) q cls

@[simp] theorem State.beginAccess_running (s : State) (p : Pair) (h : StationNo) : (s.beginAccess p h).running = s.running := by
  simp only [State.running, State.beginAccess_station]
@[simp] theorem State.beginAccess_service (s : State) (p : Pair) (h : StationNo) (q : Pair) : (s.beginAccess p h).service q = s.service q := by
  simp only [State.service, State.beginAccess_serviceA]
@[simp] theorem State.beginAccess_receiver (s : State) (p : Pair) (h : StationNo) (rn : ReceiverNo) : (s.beginAccess p h).receiver rn = s.receiver rn := by
  simp only [State.receiver, State.beginAccess_receivers]
@[simp] theorem State.beginAccess_entry (s : State) (p : Pair) (h : StationNo) (en : EntryNo) : (s.beginAccess p h).entry en = s.entry en := by
  simp only [State.entry, State.beginAccess_entries]
@[simp] theorem State.beginAccess_slot (s : State) (p : Pair) (h : StationNo) (sl : Fin 4) : (s.beginAccess p h).slot sl = s.slot sl := by
  simp only [State.slot, State.beginAccess_slots]
@[simp] theorem State.beginAccess_pairKey (s : State) (p : Pair) (h : StationNo) (q : Pair) (cls : FaultClass) : (s.beginAccess p h).pairKey q cls = s.pairKey q cls :=
    State.pairKey_of_straps (State.beginAccess_straps ..) q cls

@[simp] theorem State.endAccess_running (s : State) : (s.endAccess).running = s.running := by
  simp only [State.running, State.endAccess_station]
@[simp] theorem State.endAccess_service (s : State) (q : Pair) : (s.endAccess).service q = s.service q := by
  simp only [State.service, State.endAccess_serviceA]
@[simp] theorem State.endAccess_receiver (s : State) (rn : ReceiverNo) : (s.endAccess).receiver rn = s.receiver rn := by
  simp only [State.receiver, State.endAccess_receivers]
@[simp] theorem State.endAccess_entry (s : State) (en : EntryNo) : (s.endAccess).entry en = s.entry en := by
  simp only [State.entry, State.endAccess_entries]
@[simp] theorem State.endAccess_slot (s : State) (sl : Fin 4) : (s.endAccess).slot sl = s.slot sl := by
  simp only [State.slot, State.endAccess_slots]
@[simp] theorem State.endAccess_pairKey (s : State) (q : Pair) (cls : FaultClass) : (s.endAccess).pairKey q cls = s.pairKey q cls :=
    State.pairKey_of_straps (State.endAccess_straps ..) q cls

@[simp] theorem State.writeEntry_running (s : State) (e : EntryNo) (x : Entry) : (s.writeEntry e x).running = s.running := by
  simp only [State.running, State.writeEntry_station]
@[simp] theorem State.writeEntry_pair (s : State) (e : EntryNo) (x : Entry) (q : Pair) : (s.writeEntry e x).pair q = s.pair q := by
  simp only [State.pair, State.writeEntry_pairs]
@[simp] theorem State.writeEntry_service (s : State) (e : EntryNo) (x : Entry) (q : Pair) : (s.writeEntry e x).service q = s.service q := by
  simp only [State.service, State.writeEntry_serviceA]
@[simp] theorem State.writeEntry_receiver (s : State) (e : EntryNo) (x : Entry) (rn : ReceiverNo) : (s.writeEntry e x).receiver rn = s.receiver rn := by
  simp only [State.receiver, State.writeEntry_receivers]
@[simp] theorem State.writeEntry_slot (s : State) (e : EntryNo) (x : Entry) (sl : Fin 4) : (s.writeEntry e x).slot sl = s.slot sl := by
  simp only [State.slot, State.writeEntry_slots]
@[simp] theorem State.writeEntry_inAccess (s : State) (e : EntryNo) (x : Entry) (q : Pair) : (s.writeEntry e x).inAccess q = s.inAccess q := by
  simp only [State.inAccess, State.writeEntry_bus]
@[simp] theorem State.writeEntry_pairKey (s : State) (e : EntryNo) (x : Entry) (q : Pair) (cls : FaultClass) : (s.writeEntry e x).pairKey q cls = s.pairKey q cls :=
    State.pairKey_of_straps (State.writeEntry_straps ..) q cls

@[simp] theorem State.accepted_running (s : State) : (s.accepted).running = s.running := by
  simp only [State.running, State.accepted_station]
@[simp] theorem State.accepted_pair (s : State) (q : Pair) : (s.accepted).pair q = s.pair q := by
  simp only [State.pair, State.accepted_pairs]
@[simp] theorem State.accepted_service (s : State) (q : Pair) : (s.accepted).service q = s.service q := by
  simp only [State.service, State.accepted_serviceA]
@[simp] theorem State.accepted_receiver (s : State) (rn : ReceiverNo) : (s.accepted).receiver rn = s.receiver rn := by
  simp only [State.receiver, State.accepted_receivers]
@[simp] theorem State.accepted_entry (s : State) (en : EntryNo) : (s.accepted).entry en = s.entry en := by
  simp only [State.entry, State.accepted_entries]
@[simp] theorem State.accepted_slot (s : State) (sl : Fin 4) : (s.accepted).slot sl = s.slot sl := by
  simp only [State.slot, State.accepted_slots]
@[simp] theorem State.accepted_pairKey (s : State) (q : Pair) (cls : FaultClass) : (s.accepted).pairKey q cls = s.pairKey q cls :=
    State.pairKey_of_straps (State.accepted_straps ..) q cls

end Sys2Proof.Machine
end

