-- ==== Sys2Proof/Laws/Effects.lean ====
section
/-! SUPPORT. The whole effect of each named operation, as one record update: what the provers cite in place of unfolding it. -/

namespace Sys2Proof.Machine

set_option Elab.async false

/-! ### The queue -/

/-- The queue after a placing (R103, R104, R110). -/
def State.queueWith (s : State) (k : ItemKind) : List Item :=
  if s.running && !s.hasItem (itemRef k) then insertItem (newItem k) s.queue else s.queue

theorem State.place_eq (s : State) (k : ItemKind) : s.place k = { s with queue := s.queueWith k } := by
  simp only [State.place, State.queueWith]; split <;> rfl

theorem State.placeLineEvents_eq (s : State) (p : Pair) :
    s.placeLineEvents p =
      { s with queue := if (s.pair p).events.isEmpty then s.queue else s.queueWith (.lineEvents p) } := by
  simp only [State.placeLineEvents, State.place_eq]; split <;> rfl

/-- The queue after a withdrawal (R108). -/
def State.queueWithdrawn (s : State) (ref : ItemRef) (mark : Item → Item) : List Item :=
  match s.item ref with
  | none => s.queue
  | some x =>
    if x.content.isSome then s.queue.map fun y => if itemRef y.kind == ref then mark y else y
    else s.queue.filter fun y => itemRef y.kind != ref

theorem State.withdraw_eq (s : State) (ref : ItemRef) (mark : Item → Item) :
    s.withdraw ref mark = { s with queue := s.queueWithdrawn ref mark } := by
  unfold State.withdraw State.queueWithdrawn
  cases h : s.item ref with
  | none => rfl
  | some x => by_cases hc : x.content.isSome = true <;> simp [hc, State.updateItem, State.removeItem]

theorem State.item_eq_none {s : State} {ref : ItemRef} : s.item ref = none ↔ s.hasItem ref = false := by
  simp [State.hasItem, State.item]

theorem State.withdraw_of_absent {s : State} {ref : ItemRef} (h : s.hasItem ref = false) (mark : Item → Item) :
    s.withdraw ref mark = s := by
  simp [State.withdraw, State.item_eq_none.2 h]

theorem State.place_of_present {s : State} {k : ItemKind} (h : s.hasItem (itemRef k) = true) : s.place k = s := by
  simp [State.place, h]

theorem insertItem_perm (x : Item) (q : List Item) : (insertItem x q).Perm (x :: q) := by
  induction q with
  | nil => exact .refl _
  | cons y rest ih =>
    simp only [insertItem]
    split
    · exact (List.Perm.cons y ih).trans (List.Perm.swap x y rest)
    · exact .refl _

theorem State.hasItem_place_same {s : State} {k : ItemKind} (hr : s.running = true) :
    (s.place k).hasItem (itemRef k) = true := by
  by_cases h : s.hasItem (itemRef k) = true
  · rw [State.place_of_present h]; exact h
  · simp only [State.place, hr, h]
    simp only [State.hasItem, Bool.true_and, Bool.not_false, if_true]
    rw [(insertItem_perm _ _).any_eq]; simp [newItem]

/-! ### Entries, access and the unit -/

theorem State.writeEntry_eq (s : State) (e : EntryNo) (x : Entry) :
    s.writeEntry e x = { s with
      entries := s.entries.set e.val { x with check := true } e.isLt
      keyStore := s.keyStore.set e.val x.key e.isLt
      dueTest := s.dueTest || (s.entry e).callsTest x
      queue := if x.changed then s.queueWith (.incident e) else s.queue } := by
  simp only [State.writeEntry, State.place_eq]; split <;> rfl

theorem State.endAccess_of_none {s : State} (h : s.bus.access = none) : s.endAccess = s := by
  simp [State.endAccess, h]

theorem State.endAccess_of_some {s : State} {a : Access} (h : s.bus.access = some a) :
    s.endAccess = { s.setPair a.pair (s.pair a.pair).endAccess with bus := { s.bus with access := none } } := by
  simp only [State.endAccess, h]; rfl

theorem State.accepted_of_mine {s : State} (h : s.bus.view = .mine) :
    s.accepted = { s with bus := { s.bus with lastAccepted := some s.now } } := by
  simp [State.accepted, h]

theorem State.endTest_eq (s : State) (outcome : TestOutcome) (legs : List LegRecord) :
    s.endTest outcome legs =
      match s.bus.test with
      | none => s
      | some t =>
        { s with
          bus := { s.bus with test := some { t with phase := .ended outcome legs } }
          queue := s.queueWith .testResult } := by
  simp only [State.endTest]; split <;> simp_all [State.place_eq, State.queueWith, State.running, State.hasItem]

theorem State.ownedEntry_state {s : State} {k : Key} {e : EntryNo} (h : s.ownedEntry k = some e) :
    (s.entry e).state ≠ .free ∧ (s.entry e).key = some k := by
  have := List.find?_some h
  simpa using this

/-! ### Entries read, and the run of an entry -/

/-- An entry whose check matches is read as it stands (R131). -/
theorem State.readEntry_of_check {s : State} {e : EntryNo} (h : (s.entry e).check = true) : s.readEntry e = s := by
  simp [State.readEntry, h]

theorem State.onEntry_of_check {s : State} {e : EntryNo} (h : (s.entry e).check = true) (act : State → State) :
    s.onEntry e act = act s := by
  simp [State.onEntry, h]

theorem State.onEntry_of_lost {s : State} {e : EntryNo} (h : (s.entry e).check = false) (act : State → State) :
    s.onEntry e act = (s.loseEntry e).settle := by
  simp [State.onEntry, h]

/-- Where no run stands for an entry, its closing abandons none (R113). -/
theorem State.abandonRun_of_none {s : State} {e : EntryNo} (h : s.runOf e = none) : s.abandonRun e = s := by
  simp [State.abandonRun, h]

theorem State.runOf_of_none {s : State} (h : s.bus.run = none) (e : EntryNo) : s.runOf e = none := by
  simp [State.runOf, h]

theorem State.runOf_of_other {s : State} {run : Run} {e : EntryNo} (h : s.bus.run = some run) (he : run.entry ≠ e) :
    s.runOf e = none := by
  simp [State.runOf, h, he]

theorem State.runOf_of_own {s : State} {run : Run} (h : s.bus.run = some run) : s.runOf run.entry = some run := by
  simp [State.runOf, h]

/-- A run that waited for its lock is dropped (log entry 17). -/
theorem State.abandonRun_of_waiting {s : State} {run : Run} {d : Nat} (h : s.bus.run = some run)
    (hd : run.deadline = some d) (hv : s.bus.view ≠ .mine) : s.abandonRun run.entry = s.clearRun := by
  simp [State.abandonRun, State.runOf_of_own h, hd, State.clearRun, hv]

/-- A run that waits on the lock held is dropped with an UNLOCK due (R113, R144; log entry 17). -/
theorem State.abandonRun_of_waiting_mine {s : State} {run : Run} {d : Nat} (h : s.bus.run = some run)
    (hd : run.deadline = some d) (hv : s.bus.view = .mine) :
    s.abandonRun run.entry = { s.clearRun with bus := { s.clearRun.bus with unlockDue := true } } := by
  simp [State.abandonRun, State.runOf_of_own h, hd, State.clearRun, hv]

@[simp] theorem State.endLocalAccess_dueTest (s : State) : s.endLocalAccess.dueTest = s.dueTest := by
  unfold State.endLocalAccess; (repeat' split) <;> simp
@[simp] theorem State.endLocalAccess_integrityAt (s : State) : s.endLocalAccess.integrityAt = s.integrityAt := by
  unfold State.endLocalAccess; (repeat' split) <;> simp
@[simp] theorem State.endLocalAccess_now (s : State) : s.endLocalAccess.now = s.now := by
  unfold State.endLocalAccess; (repeat' split) <;> simp
@[simp] theorem State.withdrawQuiet_dueTest (s : State) : s.withdrawQuiet.dueTest = s.dueTest := by
  unfold State.withdrawQuiet; (repeat' split) <;> simp
@[simp] theorem State.withdrawQuiet_integrityAt (s : State) : s.withdrawQuiet.integrityAt = s.integrityAt := by
  unfold State.withdrawQuiet; (repeat' split) <;> simp
@[simp] theorem State.withdrawQuiet_now (s : State) : s.withdrawQuiet.now = s.now := by
  unfold State.withdrawQuiet; (repeat' split) <;> simp

/-- An abandoned run is the end of a confirmation, and calls for a test (R122, R144). -/
@[simp] theorem State.abandonRun_dueTest (s : State) (e : EntryNo) :
    (s.abandonRun e).dueTest = (s.dueTest || (s.runOf e).isSome) := by
  unfold State.abandonRun; (repeat' split) <;> simp_all
@[simp] theorem State.abandonRun_integrityAt (s : State) (e : EntryNo) :
    (s.abandonRun e).integrityAt = s.integrityAt := by
  unfold State.abandonRun; (repeat' split) <;> simp [State.clearRun]
@[simp] theorem State.abandonRun_now (s : State) (e : EntryNo) : (s.abandonRun e).now = s.now := by
  unfold State.abandonRun; (repeat' split) <;> simp [State.clearRun]

/-- No run, nothing to conclude (R124). -/
theorem State.concludeRun_of_none {s : State} (h : s.bus.run = none) (result : RunResult) : s.concludeRun result = s := by
  simp [State.concludeRun, h]

/-! ### The timers of an entry, and the pool at a reinitialisation -/

/-- An entry whose check matches has its timers run as its state lets them. -/
theorem Entry.timed_of_check {x : Entry} (h : x.check = true) (runs : Bool) : x.timed runs = runs := by
  simp [Entry.timed, h]

/-- An entry whose check fails is read at every expiry (R131). -/
theorem Entry.timed_of_lost {x : Entry} (h : x.check = false) (runs : Bool) : x.timed runs = true := by
  simp [Entry.timed, h]

/-- The receiver found for a pair is one that serves it (R56). -/
theorem State.servingReceiver_pair {s : State} {p : Pair} {r : ReceiverNo} (h : s.servingReceiver p = some r) :
    (s.receiver r).pair = some p := by
  have := List.find?_some h
  simpa using this

/-- A pair that no receiver serves is only taken off the wait list (R59). -/
theorem State.reclaimReceiver_of_unserved {s : State} {p : Pair} (h : ∀ r : ReceiverNo, (s.receiver r).pair ≠ some p) :
    s.reclaimReceiver p = s.leaveWaitList p := by
  have : (s.leaveWaitList p).servingReceiver p = none := by
    simpa [State.servingReceiver, State.leaveWaitList, State.receiver] using h
  simp [State.reclaimReceiver, this]

/-! ### Waits of claim timers that end together (R84) -/

/-- A pair takes no turn where its claim timer does not end at that time, or is a backoff of PENDING. -/
theorem claimWaitTurn_of_other {t : Nat} {s : State} {p : Pair}
    (h : (s.pair p).claimTimer = some t → (s.pair p).claim = .pending) : claimWaitTurn t s p = s := by
  by_cases ht : (s.pair p).claimTimer = some t
  · simp [claimWaitTurn, State.claimWaitEnd, h ht]
  · simp [claimWaitTurn, ht]

theorem claimWaitTurn_of_own {t : Nat} {s : State} {p : Pair} (hr : s.running = true)
    (h : (s.pair p).claimTimer = some t) : claimWaitTurn t s p = s.claimWaitEnd p := by
  simp [claimWaitTurn, hr, h]

theorem foldl_claimWaitTurn_of_other {t : Nat} {s : State} {ps : List Pair}
    (h : ∀ q ∈ ps, (s.pair q).claimTimer = some t → (s.pair q).claim = .pending) :
    ps.foldl (claimWaitTurn t) s = s := by
  induction ps with
  | nil => rfl
  | cons q rest ih =>
    rw [List.foldl_cons, claimWaitTurn_of_other (h q (by simp))]
    exact ih fun r hr => h r (by simp [hr])

/-- The pairs up to one, in ascending order, end with it. -/
theorem allPairs_upTo : ∀ p : Pair, (allPairs.filter fun q => q ≤ p) = (allPairs.filter fun q => q < p) ++ [p] := by
  decide +kernel

/-- A wait that ends with none of a lower pair is that pair's turn alone. -/
theorem State.claimWaitsEnd_alone {s : State} {t : Nat} {p : Pair}
    (h : ∀ q : Pair, q < p → (s.pair q).claimTimer = some t → (s.pair q).claim = .pending) :
    s.claimWaitsEnd t p = claimWaitTurn t (s.elapseTo t) p := by
  have lower : ∀ q ∈ allPairs.filter (fun q => q < p),
      ((s.elapseTo t).pair q).claimTimer = some t → ((s.elapseTo t).pair q).claim = .pending :=
    fun q hq => h q (by simpa using (List.mem_filter.1 hq).2)
  simp only [State.claimWaitsEnd, allPairs_upTo, List.foldl_append, foldl_claimWaitTurn_of_other lower]
  rfl

/-! ### Outcomes -/

@[simp] theorem classifyOutcome_collision (k : ItemKind) : classifyOutcome k .collision = .failed := rfl

/-- A voided frame has failed, whatever else its cells show (R106). -/
theorem classifyOutcome_of_void {c : Cells} (k : ItemKind) (h : c.void = true) :
    classifyOutcome k (.sent c) = .failed := by
  simp [classifyOutcome, h]

/-- STALL without VOID is busy, whatever the kind and with ACK or without (R106). -/
theorem classifyOutcome_of_stall {c : Cells} (k : ItemKind) (hv : c.void = false) (hs : c.stall = true) :
    classifyOutcome k (.sent c) = .busy := by
  simp [classifyOutcome, hv, hs]

/-- With neither VOID nor STALL a long frame is delivered by its ACK and has failed without it (R106). -/
theorem classifyOutcome_long {c : Cells} {k : ItemKind} (hk : isShort k = false) (hv : c.void = false)
    (hs : c.stall = false) : classifyOutcome k (.sent c) = if c.ack then .delivered else .failed := by
  cases k <;> simp_all [classifyOutcome, isLock, isShort]

/-! ### Settling -/

theorem State.busStep_of_not_active {s : State} (h : s.station ≠ .active) : s.busStep = none := by
  simp [State.busStep, h]

theorem State.dueStep_of_not_active {s : State} (h : s.station ≠ .active) : s.dueStep = none := by
  simp [State.dueStep, h]

/-- Where no test of R122 is called for, no entry is read: the controller alone acts (log entry 20). -/
theorem State.dueStep_of_not_called {s : State} (h : s.dueTest = false) : s.dueStep = none := by
  simp [State.dueStep, h]

theorem State.nextStep_of_not_called {s : State} (h : s.dueTest = false) : s.nextStep = s.busStep := by
  simp [State.nextStep, State.dueStep_of_not_called h]

/-- A test that finds every check right and no entry due is over (R122, R131). -/
theorem State.dueStep_of_none_due {s : State} (ha : s.station = .active) (ht : s.dueTest = true)
    (hc : ∀ e : EntryNo, (s.entry e).check = true) (hd : ∀ e : EntryNo, s.due e = false) :
    s.dueStep = some { s with dueTest := false } := by
  have h1 : (allEntries.find? fun e => !(s.entry e).check) = none := by simp [hc]
  have h2 : allEntries.filter s.due = [] := by simp [hd]
  simp [State.dueStep, ha, ht, h1, h2]

/-- A test loses the lowest-numbered entry whose check fails before anything else (R131). -/
theorem State.dueStep_of_lost {s : State} {e : EntryNo} (ha : s.station = .active) (ht : s.dueTest = true)
    (h : (allEntries.find? fun i => !(s.entry i).check) = some e) : s.dueStep = some (s.loseEntry e) := by
  simp [State.dueStep, ha, ht, h]

theorem State.nextStep_of_not_active {s : State} (h : s.station ≠ .active) : s.nextStep = none := by
  simp [State.nextStep, State.dueStep_of_not_active h, State.busStep_of_not_active h]

theorem State.settle_of_idle {s : State} (h : s.nextStep = none) : s.settle = s := by
  simp [State.settle, State.settleUpTo, h]

/-- Settling takes the next step first, if there is one. -/
theorem State.settleUpTo_succ {s t : State} (n : Nat) (h : s.nextStep = some t) :
    s.settleUpTo (n + 1) = t.settleUpTo n := by
  simp [State.settleUpTo, h]

theorem State.settle_of_not_active {s : State} (h : s.station ≠ .active) : s.settle = s :=
  State.settle_of_idle (State.nextStep_of_not_active h)

end Sys2Proof.Machine
end

