-- ==== Sys2Proof/WellFormed.lean ====
section
/-! DEFINITION. Which commands can reach a CLS-24 at all: what the spec says about the operands beyond their types. A
command that is not well formed has a meaning all the same; nothing in the machine depends on this file. -/

namespace Sys2Proof

/-- The number of body bytes a short kind is read with (R95, R179): LOCK and UNLOCK 0, FAULT CLAIM 3, LEAVE 2. -/
def shortBodyOk (bytes : Nat) (f : RxFrame) : Bool := f.body.length == bytes

/-- A long frame's length field is 4 bits, so its body has at most 15 bytes (R95). -/
def longBodyOk (f : RxFrame) : Bool := decide (f.body.length ≤ 15)

/-- The kinds that are checked but that some station, or every station, does not act on (R102). -/
def checkedOnlyKind : LongKind → Bool
  | .lineEvents => true | .reply => true | .deferredReply => true
  | .queryPair => true | .queryIncident => true | .testPair => true | .park => true | .unpark => true
  | .clearIncident => true | .restart => true
  | .quiet => false | .release => false | .incident => false | .testResult => false

/-- The kinds a station neither handles nor checks: short 4 to 15, long 7 and 15 (R102). -/
def unhandledKind (long : Bool) (kind : BitVec 4) : Bool :=
  if long then kind == 7 || kind == 15 else decide (kind.toNat ≥ 4)

/-- The commands that can reach a station, row by row. -/
def Instr.wellFormed : Instr → Bool
  | .resetPinAssert => true
  | .resetPinRelease _ => true
  | .listenInExpiry => true
  | .scanTurn _ _ _ => true
  | .toneBlockComplete _ _ => true
  | .digitPauseExpiry _ => true
  | .noDigitExpiry _ => true
  | .contentionStart => true
  | .arbitrationLost => true
  | .frameTruncated => true
  | .frameCheckedOnly kind frame => checkedOnlyKind kind && longBodyOk frame
  | .unhandledKindFrame long kind => unhandledKind long kind
  | .lockReceived frame _ => shortBodyOk 0 frame
  | .unlockReceived frame => shortBodyOk 0 frame
  | .faultClaimReceived frame => shortBodyOk 3 frame
  | .leaveReceived frame => shortBodyOk 2 frame
  | .quietReceived frame => longBodyOk frame
  | .releaseReceived frame => longBodyOk frame
  | .testFrameSnooped _ frame => longBodyOk frame
  | .deferredReplyReceived frame => longBodyOk frame
  | .incidentSnooped frame => longBodyOk frame
  | .queryPair frame => longBodyOk frame
  | .queryIncident frame => longBodyOk frame
  | .testPair frame => longBodyOk frame
  | .park frame => longBodyOk frame
  | .unpark frame => longBodyOk frame
  | .clearIncident frame => longBodyOk frame
  | .restart frame => longBodyOk frame
  | .lineEventsOutcome _ => true
  | .faultClaimOutcome _ => true
  | .leaveOutcome _ => true
  | .lockOutcome _ => true
  | .unlockOutcome _ => true
  | .quietOutcome _ => true
  | .releaseOutcome _ => true
  | .deferredReplyOutcome _ => true
  | .incidentOutcome _ => true
  | .replyOutcome _ => true
  | .testResultOutcome _ => true
  | .itemBackoffExpiry _ => true
  | .deferWaitExpiry _ => true
  | .renewTimerExpiry _ => true
  | .holdOffExpiry _ => true
  | .memberExpiry _ _ pair => decide (pair.toNat < 24)
  | .emptyListExpiry _ => true
  | .clearHoldExpiry _ => true
  | .confirmationRetryExpiry _ => true
  | .viewLapse => true
  | .keepAliveDue => true
  | .selfLimitExpiry => true
  | .restraintExpiry => true
  | .jobDeadlineExpiry _ => true
  | .releaseWaitExpiry => true
  | .selfReleaseExpiry => true
  | .calibrationDone _ => true
  | .legOffReadingDone _ => true
  | .legOnReadingDone _ => true

end Sys2Proof
end

