-- ==== Sys2Proof/Laws/PerInstr.lean ====
section
/-! SUPPORT. What is said of every command as syntax, one lemma a command: the body of a frame that a well-formed command
carries is of a length that the frame's length field can give (R95). -/

namespace Sys2Proof.Laws.BodyBound

set_option Elab.async false

/-- A well-formed command that brings a checked frame brings at most 15 body bytes (R95). -/
def Statement (i : Instr) : Prop :=
  i.wellFormed = true → ∀ (k : Machine.FrameKind) (f : RxFrame), Machine.receives i = some (k, f) → f.body.length ≤ 15

theorem resetPinAssert : Statement .resetPinAssert := by intro h k f e; simp [Machine.receives] at e
theorem resetPinRelease : ∀ straps, Statement (.resetPinRelease straps) := by intro straps h k f e; simp [Machine.receives] at e
theorem listenInExpiry : Statement .listenInExpiry := by intro h k f e; simp [Machine.receives] at e
theorem scanTurn : ∀ pair tip ring, Statement (.scanTurn pair tip ring) := by intro pair tip ring h k f e; simp [Machine.receives] at e
theorem toneBlockComplete : ∀ receiver samples, Statement (.toneBlockComplete receiver samples) := by intro receiver samples h k f e; simp [Machine.receives] at e
theorem digitPauseExpiry : ∀ receiver, Statement (.digitPauseExpiry receiver) := by intro receiver h k f e; simp [Machine.receives] at e
theorem noDigitExpiry : ∀ receiver, Statement (.noDigitExpiry receiver) := by intro receiver h k f e; simp [Machine.receives] at e
theorem contentionStart : Statement .contentionStart := by intro h k f e; simp [Machine.receives] at e
theorem arbitrationLost : Statement .arbitrationLost := by intro h k f e; simp [Machine.receives] at e
theorem frameTruncated : Statement .frameTruncated := by intro h k f e; simp [Machine.receives] at e
theorem frameCheckedOnly : ∀ kind frame, Statement (.frameCheckedOnly kind frame) := by
  intro kind frame h k f e; simp [Machine.receives] at e; simp [Instr.wellFormed, longBodyOk] at h; rw [← e.2]; exact h.2
theorem unhandledKindFrame : ∀ long kind, Statement (.unhandledKindFrame long kind) := by intro long kind h k f e; simp [Machine.receives] at e
theorem lockReceived : ∀ frame ownSeen, Statement (.lockReceived frame ownSeen) := by
  intro frame ownSeen h k f e; simp [Machine.receives] at e; simp [Instr.wellFormed, longBodyOk, shortBodyOk] at h; rw [← e.2]; simp [h]
theorem unlockReceived : ∀ frame, Statement (.unlockReceived frame) := by
  intro frame h k f e; simp [Machine.receives] at e; simp [Instr.wellFormed, longBodyOk, shortBodyOk] at h; rw [← e.2]; first | omega | simp [h]
theorem faultClaimReceived : ∀ frame, Statement (.faultClaimReceived frame) := by
  intro frame h k f e; simp [Machine.receives] at e; simp [Instr.wellFormed, longBodyOk, shortBodyOk] at h; rw [← e.2]; first | omega | simp [h]
theorem leaveReceived : ∀ frame, Statement (.leaveReceived frame) := by
  intro frame h k f e; simp [Machine.receives] at e; simp [Instr.wellFormed, longBodyOk, shortBodyOk] at h; rw [← e.2]; first | omega | simp [h]
theorem quietReceived : ∀ frame, Statement (.quietReceived frame) := by
  intro frame h k f e; simp [Machine.receives] at e; simp [Instr.wellFormed, longBodyOk, shortBodyOk] at h; rw [← e.2]; first | omega | simp [h]
theorem releaseReceived : ∀ frame, Statement (.releaseReceived frame) := by
  intro frame h k f e; simp [Machine.receives] at e; simp [Instr.wellFormed, longBodyOk, shortBodyOk] at h; rw [← e.2]; first | omega | simp [h]
theorem testFrameSnooped : ∀ kind frame, Statement (.testFrameSnooped kind frame) := by
  intro kind frame h k f e; simp [Instr.wellFormed, longBodyOk] at h
  cases kind <;> simp [Machine.receives] at e <;> rw [← e.2] <;> exact h
theorem deferredReplyReceived : ∀ frame, Statement (.deferredReplyReceived frame) := by
  intro frame h k f e; simp [Machine.receives] at e; simp [Instr.wellFormed, longBodyOk, shortBodyOk] at h; rw [← e.2]; first | omega | simp [h]
theorem incidentSnooped : ∀ frame, Statement (.incidentSnooped frame) := by
  intro frame h k f e; simp [Machine.receives] at e; simp [Instr.wellFormed, longBodyOk, shortBodyOk] at h; rw [← e.2]; first | omega | simp [h]
theorem queryPair : ∀ frame, Statement (.queryPair frame) := by
  intro frame h k f e; simp [Machine.receives] at e; simp [Instr.wellFormed, longBodyOk, shortBodyOk] at h; rw [← e.2]; first | omega | simp [h]
theorem queryIncident : ∀ frame, Statement (.queryIncident frame) := by
  intro frame h k f e; simp [Machine.receives] at e; simp [Instr.wellFormed, longBodyOk, shortBodyOk] at h; rw [← e.2]; first | omega | simp [h]
theorem testPair : ∀ frame, Statement (.testPair frame) := by
  intro frame h k f e; simp [Machine.receives] at e; simp [Instr.wellFormed, longBodyOk, shortBodyOk] at h; rw [← e.2]; first | omega | simp [h]
theorem park : ∀ frame, Statement (.park frame) := by
  intro frame h k f e; simp [Machine.receives] at e; simp [Instr.wellFormed, longBodyOk, shortBodyOk] at h; rw [← e.2]; first | omega | simp [h]
theorem unpark : ∀ frame, Statement (.unpark frame) := by
  intro frame h k f e; simp [Machine.receives] at e; simp [Instr.wellFormed, longBodyOk, shortBodyOk] at h; rw [← e.2]; first | omega | simp [h]
theorem clearIncident : ∀ frame, Statement (.clearIncident frame) := by
  intro frame h k f e; simp [Machine.receives] at e; simp [Instr.wellFormed, longBodyOk, shortBodyOk] at h; rw [← e.2]; first | omega | simp [h]
theorem restart : ∀ frame, Statement (.restart frame) := by
  intro frame h k f e; simp [Machine.receives] at e; simp [Instr.wellFormed, longBodyOk, shortBodyOk] at h; rw [← e.2]; first | omega | simp [h]
theorem lineEventsOutcome : ∀ result, Statement (.lineEventsOutcome result) := by intro result h k f e; simp [Machine.receives] at e
theorem faultClaimOutcome : ∀ result, Statement (.faultClaimOutcome result) := by intro result h k f e; simp [Machine.receives] at e
theorem leaveOutcome : ∀ result, Statement (.leaveOutcome result) := by intro result h k f e; simp [Machine.receives] at e
theorem lockOutcome : ∀ result, Statement (.lockOutcome result) := by intro result h k f e; simp [Machine.receives] at e
theorem unlockOutcome : ∀ result, Statement (.unlockOutcome result) := by intro result h k f e; simp [Machine.receives] at e
theorem quietOutcome : ∀ result, Statement (.quietOutcome result) := by intro result h k f e; simp [Machine.receives] at e
theorem releaseOutcome : ∀ result, Statement (.releaseOutcome result) := by intro result h k f e; simp [Machine.receives] at e
theorem deferredReplyOutcome : ∀ result, Statement (.deferredReplyOutcome result) := by intro result h k f e; simp [Machine.receives] at e
theorem incidentOutcome : ∀ result, Statement (.incidentOutcome result) := by intro result h k f e; simp [Machine.receives] at e
theorem replyOutcome : ∀ result, Statement (.replyOutcome result) := by intro result h k f e; simp [Machine.receives] at e
theorem testResultOutcome : ∀ result, Statement (.testResultOutcome result) := by intro result h k f e; simp [Machine.receives] at e
theorem itemBackoffExpiry : ∀ item, Statement (.itemBackoffExpiry item) := by intro item h k f e; simp [Machine.receives] at e
theorem deferWaitExpiry : ∀ pair, Statement (.deferWaitExpiry pair) := by intro pair h k f e; simp [Machine.receives] at e
theorem renewTimerExpiry : ∀ pair, Statement (.renewTimerExpiry pair) := by intro pair h k f e; simp [Machine.receives] at e
theorem holdOffExpiry : ∀ pair, Statement (.holdOffExpiry pair) := by intro pair h k f e; simp [Machine.receives] at e
theorem memberExpiry : ∀ entry station pair, Statement (.memberExpiry entry station pair) := by intro entry station pair h k f e; simp [Machine.receives] at e
theorem emptyListExpiry : ∀ entry, Statement (.emptyListExpiry entry) := by intro entry h k f e; simp [Machine.receives] at e
theorem clearHoldExpiry : ∀ entry, Statement (.clearHoldExpiry entry) := by intro entry h k f e; simp [Machine.receives] at e
theorem confirmationRetryExpiry : ∀ entry, Statement (.confirmationRetryExpiry entry) := by intro entry h k f e; simp [Machine.receives] at e
theorem viewLapse : Statement .viewLapse := by intro h k f e; simp [Machine.receives] at e
theorem keepAliveDue : Statement .keepAliveDue := by intro h k f e; simp [Machine.receives] at e
theorem selfLimitExpiry : Statement .selfLimitExpiry := by intro h k f e; simp [Machine.receives] at e
theorem restraintExpiry : Statement .restraintExpiry := by intro h k f e; simp [Machine.receives] at e
theorem jobDeadlineExpiry : ∀ job, Statement (.jobDeadlineExpiry job) := by intro job h k f e; simp [Machine.receives] at e
theorem releaseWaitExpiry : Statement .releaseWaitExpiry := by intro h k f e; simp [Machine.receives] at e
theorem selfReleaseExpiry : Statement .selfReleaseExpiry := by intro h k f e; simp [Machine.receives] at e
theorem calibrationDone : ∀ volts, Statement (.calibrationDone volts) := by intro volts h k f e; simp [Machine.receives] at e
theorem legOffReadingDone : ∀ volts, Statement (.legOffReadingDone volts) := by intro volts h k f e; simp [Machine.receives] at e
theorem legOnReadingDone : ∀ volts, Statement (.legOnReadingDone volts) := by intro volts h k f e; simp [Machine.receives] at e

end Sys2Proof.Laws.BodyBound
end

