-- ==== Sys2Proof/Laws/Reception.lean ====
section
/-! SUPPORT. What the judgement of a received frame leaves to be done: one lemma per verdict. -/

namespace Sys2Proof.Machine

set_option Elab.async false

theorem receive_of_hears {s : State} {kind : FrameKind} {f : RxFrame} (h : s.hears kind f) (act : State → State) :
    s.receive kind f act = act { s with abandoned := false, cells := noCells } := by
  obtain ⟨hr, hs, hc, hl, ha, hv⟩ := h
  simp [State.receive, State.judge, hr, hs, hc, hl, ha, hv]

theorem receive_of_conflict {s : State} {kind : FrameKind} {f : RxFrame} (hr : s.running = true)
    (hs : f.sender = s.straps.station) (hc : checkError kind f = false) (act : State → State) :
    s.receive kind f act = s.enterFailed := by
  simp [State.receive, State.judge, hr, hs, hc]

theorem receive_of_voided {s : State} {kind : FrameKind} {f : RxFrame} (hr : s.running = true)
    (hv : checkError kind f = true ∨
      (f.sender ≠ s.straps.station ∧ (lengthError kind f = true ∨ s.abandoned = true))) (act : State → State) :
    s.receive kind f act = { s with abandoned := false, cells := voidCell } := by
  rcases hv with hv | ⟨hs, hv | hv⟩ <;> simp [State.receive, State.judge, *]

theorem drive_running {s : State} (c : Cells) (hr : s.running = true) : s.drive c = { s with cells := c } := by
  simp [State.drive, hr]

end Sys2Proof.Machine
end

