-- ==== Sys2Proof/Tests/Slice0.lean ====
section
/-! SUPPORT. The model's own tests: ill-formed commands refused by each check, worked values of the manual, one step of each
command on a small state, and for every statement with hypotheses a state and operands that meet them. Expected values are
the manual's own figures or are worked by hand from its rules. -/

namespace Sys2Proof.Tests

set_option Elab.async false

open Sys2Proof.Machine

/-! ### Helpers -/

/-- Station 4 with 24 pairs, binder 7 below pair 6 and binder 8 from it, in ACTIVE. -/
def base : State :=
  { pinRelease { station := 4, cable := 2, binderA := 7, binderB := 8, split := 6, pairCount := 2 } State.reset with
    station := .active, listenUntil := none, now := 20000 }

/-- The state a command leaves. -/
def after (c : Instr) (s : State) : State :=
  match exec c s with
  | .next t => t
  | _ => s

/-- A frame from a station to station 4. -/
def from_ (sender : StationNo) (b : Body) (authority : BitVec 2 := 2) : RxFrame := frameOf sender 4 authority b

def key7 : Key := { cable := 2, binder := 7, cls := .foreign }

/-- Pair 3 with a record. -/
def with3 (r : PairRecord) : State := base.setPair 3 r

/-- An item on the bus with its content, the only one of the queue. -/
def sends (k : ItemKind) (b : Body) (s : State := base) : State := { s with queue := [{ newItem k with content := some b }] }

/-- The item of `sends`. -/
def sent (k : ItemKind) (b : Body) : Item := { newItem k with content := some b }

def ack : Cells := { noCells with ack := true }

def member (st : StationNo) (pr : PairNo) : Member := { station := st, pair := pr, renewed := 1000, leaving := false }

/-- An OPEN entry under `key7` with members. -/
def openEntry (ms : List Member) : Entry := { Entry.empty with key := some key7, state := .opened, members := ms }

/-- Entry 0 as given, under `key7` in both places. -/
def withEntry (x : Entry) (s : State := base) : State :=
  { s with entries := s.entries.set 0 x, keyStore := s.keyStore.set 0 (some key7) }

def heldBy (n : StationNo) (s : State := base) : State := { s with bus := { s.bus with view := .held n 19000 } }

/-- A holder whose unit has joined the bus and passed calibration. -/
def mine (s : State := base) : State :=
  { s with
    bus := { s.bus with view := .mine, lastAccepted := some 19000 }
    unit := { s.unit with connected := true, vCal := some 4000, calibrationPassed := true } }

def inAccess3 (s : State := base) : State := s.beginAccess 3 9

/-! ### WellFormed refuses what cannot reach a station -/

theorem test_wf_checked_only_kind :
    (Instr.frameCheckedOnly .quiet (from_ 5 (.quiet 3 true .foreign))).wellFormed = false := by decide
theorem test_wf_unhandled_short : (Instr.unhandledKindFrame false 3).wellFormed = false := by decide
theorem test_wf_unhandled_long : (Instr.unhandledKindFrame true 8).wellFormed = false := by decide
theorem test_wf_lock_body : (Instr.lockReceived (from_ 5 (.release 3)) false).wellFormed = false := by decide
theorem test_wf_unlock_body : (Instr.unlockReceived (from_ 5 (.release 3))).wellFormed = false := by decide
theorem test_wf_claim_body : (Instr.faultClaimReceived (from_ 5 (.release 3))).wellFormed = false := by decide
theorem test_wf_leave_body : (Instr.leaveReceived (from_ 5 (.release 3))).wellFormed = false := by decide
theorem test_wf_long_body :
    (Instr.quietReceived { from_ 5 (.release 3) with body := List.replicate 16 0 }).wellFormed = false := by decide
theorem test_wf_member_pair : (Instr.memberExpiry 0 5 24).wellFormed = false := by decide

/-! ### Figures of the manual -/

/-- R95, section 6.1: the first cells of a LOCK of station 4, precedence 0 and the number inverted. -/
theorem test_header_lock : headerCells (.short .lock) 0 4 0 0 0 =
    [false, false, false, true, false, true, true, false, false, false, false, false] := by decide
/-- R180: the register after one, two and three 0 cells from all ones. -/
theorem test_check_cells : [checkOf [false], checkOf [false, false], checkOf [false, false, false]] =
    [0xEFDF#16, 0xCF9F#16, 0x8F1F#16] := by decide
/-- R109, the table of backoffs of stations 4 and 6. -/
theorem test_backoff_table :
    ([1, 2, 3, 4, 5, 6, 7, 8].map (backoffDelay 4)) = [40, 140, 80, 20, 120, 60, 160, 100] ∧
      ([1, 2, 3, 4, 5, 6, 7, 8].map (backoffDelay 6)) = [80, 100, 40, 60, 160, 20, 120, 140] := by decide
/-- R24: the boundaries 24, 80 and 112 of |D|. -/
theorem test_class_boundaries :
    [sampleClass .openLoop 23 0, sampleClass .openLoop 24 0, sampleClass .openLoop 79 0, sampleClass .closed 80 0,
      sampleClass .openLoop 112 0, sampleClass .closed 113 0, sampleClass .dead 2047 0] =
      [.dead, .closed, .closed, .closed, .openLoop, .openLoop, .dead] := by decide
/-- R152: the three cases and their edges, V_cal 4000. -/
theorem test_resistance : [resistanceOf 4000 0, resistanceOf 4000 2000, resistanceOf 4000 4000, resistanceOf 4000 3999,
    resistanceOf 70000 69999] = [0, 100, 65535, 65535, 65535] := by decide
/-- R4: service words 7 (LINKED to GROUND_LEAK, owned here) and 3 (not owned here), and −1, −2. -/
theorem test_service_word : [serviceWord .equipped (.linked .groundLeak true), serviceWord .equipped (.linked .groundLeak false),
    serviceWord .parked .unclaimed, serviceWord .absent .unclaimed] = [7, 3, -1, -2] := by decide
/-- R33: a first mean is taken whole, and a reference moves by a sixty-fourth of the difference. -/
theorem test_learning : [learned 0 188, learned 3008 252, learned 3008 188] = [3008, 3024, 3008] := by decide

/-! ### One step of each command -/

theorem test_resetPinAssert : (after .resetPinAssert (mine inAccess3)).bus.access = none ∧
    (after .resetPinAssert (mine inAccess3)).unit.connected = false := by decide
theorem test_resetPinRelease_split : (after (.resetPinRelease { allStrapsLow with split := 20 }) base).pairKey 7 .foreign =
    { cable := 0, binder := 0, cls := .foreign } ∧ (after (.resetPinRelease { allStrapsLow with station := 14 }) base).station =
    .strapError := by decide
theorem test_listenInExpiry : (after .listenInExpiry State.reset).station = .active ∧
    (after .listenInExpiry State.reset).now = 5000 := by decide
theorem test_scanTurn_closed : ((after (.scanTurn 3 (-20) (-60)) base).pair 3).loop = .seizePending := by decide
theorem test_scanTurn_saturates : ((after (.scanTurn 3 5000 0) base).pair 3).vTip = 2047 := by decide
theorem test_toneBlock_silence :
    ((after (.toneBlockComplete 0 (Vector.replicate 80 0)) (base.lend 0 3)).receiver 0).state = .listen := by decide +kernel
theorem test_digitPauseExpiry :
    (after (.digitPauseExpiry 0) ((base.lend 0 3).setReceiver 0
      { (base.lend 0 3).receiver 0 with lastDigit := some 17000 })).now = 22000 := by decide
theorem test_noDigitExpiry : ((after (.noDigitExpiry 0) { base.lend 0 3 with now := 20010 }).pair 3).receiver = none := by
  decide
/-- R61: an expiry that meets the digit of the same moment, and a block that meets the assignment. -/
theorem test_meetings : after (.noDigitExpiry 0) (base.lend 0 3) = base.lend 0 3 ∧
    after (.toneBlockComplete 0 (Vector.replicate 80 7)) (base.lend 0 3) = base.lend 0 3 := by decide +kernel
theorem test_contentionStart :
    ((after .contentionStart (base.place (.leave 3 key7))).inFlight.bind Item.content) = some (.leave key7 3) := by decide
theorem test_arbitrationLost : (after .arbitrationLost (sends .unlock .unlock mine)).inFlight = none := by decide
theorem test_frameTruncated : ((after .frameTruncated (sends .unlock .unlock mine)).queue.map Item.attempts) = [1] := by
  decide +kernel
theorem test_frameCheckedOnly_void :
    (after (.frameCheckedOnly .reply { from_ 5 (.release 3) with check := 0 }) base).cells = voidCell := by decide +kernel
theorem test_unhandledKindFrame : (after (.unhandledKindFrame true 7) { base with cells := ack }).cells = noCells := by decide
theorem test_lockReceived_mine : (after (.lockReceived (from_ 5 .lock) false) mine).cells = { ack with own := true } := by
  decide +kernel
theorem test_lockReceived_free : (after (.lockReceived (from_ 5 .lock) false) base).bus.view = .held 5 20000 := by
  decide +kernel
theorem test_unlockReceived : (after (.unlockReceived (from_ 5 .unlock)) (heldBy 5)).bus.view = .free := by decide +kernel
theorem test_faultClaimReceived_owner :
    (after (.faultClaimReceived (from_ 5 (.faultClaim key7 2 9 false))) (withEntry (openEntry [member 4 1]))).cells =
      { ack with own := true } := by decide +kernel
theorem test_leaveReceived_last :
    ((after (.leaveReceived (from_ 5 (.leave key7 2))) (withEntry (openEntry [member 5 2]))).entry 0).state = .clearing := by
  decide +kernel
theorem test_quietReceived : (after (.quietReceived (from_ 9 (.quiet 3 false .feedLoss))) base).bus.access =
    some { pair := 3, holder := 9, began := 20000 } := by decide +kernel
theorem test_releaseReceived : (after (.releaseReceived (from_ 9 (.release 3))) inAccess3).bus.access = none := by
  decide +kernel
theorem test_testFrameSnooped : (after (.testFrameSnooped .quiet (frameOf 9 5 2 (.quiet 3 true .foreign))) base).bus.view =
    .held 9 20000 := by decide +kernel
theorem test_deferredReplyReceived : ((after (.deferredReplyReceived (from_ 9 (.deferredReply 0 3 key7 true)))
    (((base.allocateTag 3 .foreign).setClaim 3 (.deferred 0) (some 30000)))).pair 3).claim = .linked .foreign false := by
  decide +kernel
theorem test_incidentSnooped : ((after (.incidentSnooped (frameOf 9 15 2 (.incident key7 .closed .notFound true 0 [])))
    (base.setClaim 3 (.linked .foreign false) (some 30000))).pair 3).claim = .heldOff := by decide +kernel
theorem test_queryPair : ((after (.queryPair (from_ 14 (.command (.queryPair 25 0)))) base).slot 0).map
    ReplySlot.stationAtTaking = some (some .active) := by decide +kernel
theorem test_queryIncident : (after (.queryIncident (from_ 5 (.command (.queryIncident key7 0)))) base).hasItem (.reply 0) =
    true := by decide +kernel
theorem test_testPair : ((after (.testPair (from_ 14 (.command (.testPair 3)) 0)) base).slot 0).map ReplySlot.status =
    some (some .accepted) := by decide +kernel
theorem test_park_denied : ((after (.park (from_ 14 (.command (.park 3)) 0)) base).slot 0).map ReplySlot.status =
    some (some .denied) := by decide +kernel
theorem test_park : (after (.park (from_ 15 (.command (.park 3)) 0)) base).service 3 = .parked := by decide +kernel
theorem test_unpark : ((after (.unpark (from_ 15 (.command (.unpark 3)) 0)) (base.setService 3 .parked)).slot 0).map
    ReplySlot.previousWord = some (some (-1)) := by decide +kernel
theorem test_clearIncident :
    ((after (.clearIncident (from_ 15 (.command (.clearIncident key7)) 0)) (withEntry (openEntry [member 5 2]))).entry
      0).closing = some { verdict := .unjudged, forced := true } := by decide +kernel
theorem test_restart : ((after (.restart (from_ 15 (.command .restart) 0)) base).slot 0).map ReplySlot.restartMark =
    some true := by decide +kernel
theorem test_lineEventsOutcome :
    ((after (.lineEventsOutcome (.sent ack)) (sends (.lineEvents 3) (.lineEvents 3 0 false false [⟨.offhook, 0, 1⟩])
      (with3 (PairRecord.initial.append 0 .offhook 0)))).pair 3).events = [] := by decide
theorem test_faultClaimOutcome_own :
    ((after (.faultClaimOutcome (.sent { ack with own := true })) (sends (.faultClaim 3) (.faultClaim key7 3 0 false)
      (base.setClaim 3 .pending none))).pair 3).claim = .linked .foreign false := by decide
theorem test_faultClaimOutcome_owner :
    (after (.faultClaimOutcome (.sent ack)) (sends (.faultClaim 3) (.faultClaim key7 3 0 false)
      (base.setClaim 3 .pending none))).ownedEntry key7 = some 0 := by decide +kernel
theorem test_leaveOutcome : (after (.leaveOutcome (.sent ack)) (sends (.leave 3 key7) (.leave key7 3))).queue = [] := by decide
theorem test_lockOutcome : (after (.lockOutcome (.sent ack)) (sends (.lock false) .lock
    { base with bus := { base.bus with test := some ⟨3, .waiting 50000⟩ } })).bus.view = .mine := by decide +kernel
theorem test_unlockOutcome : (after (.unlockOutcome (.sent ack)) (sends .unlock .unlock mine)).bus.restraint = some 21000 := by
  decide +kernel
theorem test_quietOutcome_ack : ((after (.quietOutcome (.sent ack))
    (sends (.quiet 9 3 .foreign) (.quiet 3 true .foreign) mine)).unit.measurement.map Measurement.pair) = some 3 := by
  decide +kernel
theorem test_releaseOutcome : (after (.releaseOutcome (.sent ack)) (sends (.release 9 3) (.release 3)
    { mine with bus := { mine.bus with remote := some (9, 3) } })).bus.remote = none := by decide +kernel
theorem test_deferredReplyOutcome :
    (((after (.deferredReplyOutcome (.sent ack)) (sends (.deferredReply 0 5 6) (.deferredReply 1 6 key7 true)
      (withEntry { openEntry [member 4 1] with
        state := .confirmed, defers := [⟨5, 1, 6, false, true⟩] }))).entry 0).members.map Member.pair) = [1, 6] := by
  decide +kernel
theorem test_incidentOutcome : ((after (.incidentOutcome (.sent ack)) (sends (.incident 0) (.incident key7 .closed .lost false 0 [])
    (withEntry { Entry.empty with key := some key7, closing := some ⟨.lost, false⟩ }))).entry 0).key = none := by decide
theorem test_replyOutcome_restart : (after (.replyOutcome (.sent ack)) (sends (.reply 0) (.reply .restart .done .nothing)
    (base.setSlot 0 (some ⟨.restart, 15, some .done, none, none, true⟩)))).station = .listenIn := by decide
theorem test_testResultOutcome : (after (.testResultOutcome (.sent ack)) (sends .testResult (.testResult 3 .busy [])
    { base with bus := { base.bus with test := some ⟨3, .ended .busy []⟩ } })).bus.test = none := by decide
theorem test_itemBackoffExpiry : ((after (.itemBackoffExpiry (.leave 3))
    { base with queue := [{ newItem (.leave 3 key7) with backoff := some 20040 }] }).queue.map Item.backoff) = [none] := by
  decide
theorem test_deferWaitExpiry : ((after (.deferWaitExpiry 3)
    ((base.allocateTag 3 .foreign).setClaim 3 (.deferred 0) (some 30000))).pair 3).claim = .pending := by decide +kernel
theorem test_renewTimerExpiry : (after (.renewTimerExpiry 3)
    (base.setClaim 3 (.linked .foreign false) (some 30000))).hasItem (.faultClaim 3) = true := by decide
theorem test_holdOffExpiry : ((after (.holdOffExpiry 3) (base.setClaim 3 .heldOff (some 30000))).pair 3).claim =
    .unclaimed := by decide
theorem test_memberExpiry : ((after (.memberExpiry 0 5 2) (withEntry (openEntry [member 5 2]))).entry 0).emptyTimer =
    some 301000 := by decide
theorem test_emptyListExpiry : ((after (.emptyListExpiry 0)
    (withEntry { openEntry [] with overflow := 2, emptyTimer := some 160000 })).entry 0).state = .clearing := by decide
theorem test_clearHoldExpiry : ((after (.clearHoldExpiry 0)
    (withEntry { openEntry [] with state := .clearing, clearHold := some 30000 })).entry 0).closing =
      some ⟨.unjudged, false⟩ := by decide +kernel
theorem test_confirmationRetryExpiry : ((after (.confirmationRetryExpiry 0)
    (withEntry { openEntry [member 5 2] with verdict := .untested, retryTimer := some 70000 })).entry 0).retryTimer = none := by
  decide +kernel
theorem test_viewLapse : (after .viewLapse (heldBy 9)).now = 24000 ∧ (after .viewLapse (heldBy 9)).bus.view = .free := by
  decide +kernel
theorem test_keepAliveDue : (after .keepAliveDue
    { mine with bus := { mine.bus with releaseWait := some 22000 } }).hasItem .testBus = true := by decide
theorem test_selfLimitExpiry : (after .selfLimitExpiry mine).bus.restraint = some 24000 := by decide +kernel
theorem test_restraintExpiry : (after .restraintExpiry
    { base with bus := { base.bus with restraint := some 20500, test := some ⟨3, .waiting 50000⟩ } }).hasItem .testBus =
      true := by decide +kernel
theorem test_jobDeadlineExpiry : (after (.jobDeadlineExpiry .uplinkTest)
    { base with bus := { base.bus with test := some ⟨3, .waiting 50000⟩ } }).bus.test = some ⟨3, .ended .noBus []⟩ := by
  decide +kernel
theorem test_releaseWaitExpiry : (after .releaseWaitExpiry
    { mine with bus := { mine.bus with releaseWait := some 22000 } }).hasItem .testBus = true := by decide +kernel
theorem test_selfReleaseExpiry : (after .selfReleaseExpiry inAccess3).now = 23000 ∧
    ((after .selfReleaseExpiry inAccess3).pair 3).freeze = .unfrozen := by decide +kernel

/-- The unit of a holder that waits for a reading of a leg of pair 3 of station 9, in a run. -/
def reading (leg : Leg) (vOff : Option Int) (s : State := mine) : State :=
  { s with unit := { s.unit with
      selector := .leg leg, readingDue := some 20200
      measurement := some { station := 9, pair := 3, forRun := true, leg := leg, vOff := vOff, records := [] } } }

def calibrating : State :=
  { mine with unit := { mine.unit with
      selector := .cal, source := true, readingDue := some 20200, vCal := none, calibrationPassed := false } }

theorem test_calibrationDone : (after (.calibrationDone 4400) calibrating).unit.calibrationPassed = true ∧
    (after (.calibrationDone 4401) calibrating).unit.failed = true := by decide +kernel
theorem test_legOffReadingDone : (after (.legOffReadingDone 1600) (reading .tip none)).unit.source = true ∧
    (after (.legOffReadingDone (-1601)) (reading .tip none)).unit.selector = .leg .ring := by decide +kernel
theorem test_legOnReadingDone : ((after (.legOnReadingDone 2000) (reading .tip (some 0))).unit.measurement.map
    Measurement.records) = some [measuredLeg .tip 4000 0 2000] := by decide +kernel

/-! ### Witnesses: states and operands that meet a statement's hypotheses

Each theorem is named after the statement and takes its clauses in order. -/

/-- The record of pair 3 after the readings of a turn. -/
def turned (r : PairRecord) (tip ring : Int) : PairRecord :=
  ((with3 r).pair 3).sample (senseReading tip) (senseReading ring)

def inState (l : LoopState) (run brk : Nat := 0) (before : LoopState := .offHook) : PairRecord :=
  { PairRecord.initial with loop := l, closedRun := run, breakLength := brk, beforeBreak := before }

theorem witness_StepRunsFrontCommand : { base with pending := [.contentionStart] }.pending = .contentionStart :: [] := rfl

theorem witness_ResetToActive : State.reset.station = .listenIn ∧ State.reset.listenUntil = some 5000 := by decide

theorem witness_NothingRunsOutsideListenInAndActive :
    (after .resetPinAssert base).station ≠ .listenIn ∧ (after .resetPinAssert base).station ≠ .active ∧
      Instr.contentionStart ≠ .resetPinAssert ∧ (∀ straps, Instr.contentionStart ≠ .resetPinRelease straps) :=
  ⟨by decide, by decide, by decide, nofun⟩

theorem witness_UnsampledTurns :
    base.running = true ∧ (base.setService 3 .absent).service 3 = .absent ∧ (base.setService 3 .parked).service 3 = .parked ∧
      ((base.setService 3 .parked).pair 3).check = true ∧ inAccess3.service 3 = .equipped ∧
      (inAccess3.pair 3).check = true ∧ (inAccess3.pair 3).freeze = .access ∧ (inAccess3.pair 3).acc.scans < 19 ∧
      19 ≤ ((inAccess3.modPair 3 fun r => { r with acc := { r.acc with scans := 19 } }).pair 3).acc.scans := by decide

/-- OPEN is (−8, −196), CLOSED (−20, −60), DEAD (0, 0). -/
theorem witness_LoopTurns :
    (∀ l : LoopState, (with3 (inState l)).samples 3 ∧ ((with3 (inState l)).pair 3).freeze = .unfrozen) ∧
    (turned (inState .onHook) (-20) (-60)).classMemory = .closed ∧
    (turned { inState .onHook with ringingHold := true } (-20) (-60)).ringingHold = true ∧
    (turned (inState .seizePending 6) (-20) (-60)).closedRun < 7 ∧
    (turned (inState .seizePending 7) (-8) (-196)).classMemory ≠ .closed ∧
    (turned (inState .offHook) (-8) (-196)).classMemory ≠ .closed ∧
    (turned (inState .inBreak 0 159) (-8) (-196)).breakLength < 160 ∧
    (turned { inState .onHook with feedDead := 18 } 0 0).feedDead < 19 ∧
    (∀ b ∈ [4, 24, 25], (turned (inState .inBreak 0 b) (-20) (-60)).classMemory = .closed ∧
      (turned (inState .inBreak 0 b) (-20) (-60)).breakLength = b) ∧
    (turned (inState .inBreak 0 160 .lockout) (-20) (-60)).beforeBreak = .lockout ∧
    (turned (inState .lockout) (-20) (-60)).classMemory = .closed ∧
    (turned (inState .lockout) (-8) (-196)).classMemory = .openLoop :=
  ⟨fun l => by cases l <;> decide, by decide⟩

theorem witness_OffHookTurnsAndDigits :
    (with3 (inState .offHook)).samples 3 ∧ ((with3 (inState .offHook)).pair 3).freeze = .unfrozen ∧
    (turned (inState .offHook 28) (-20) (-60)).classMemory = .closed ∧
    ¬(0 < (turned (inState .offHook 28) (-20) (-60)).pulseCount ∧
      (turned (inState .offHook 28) (-20) (-60)).closedRun = 29) ∧
    (turned { inState .offHook with lockoutTimer := 29990 } (-20) (-60)).lockoutTimer + 5 < 30000 ∧
    (turned (inState .inBreak 5 3) (-20) (-60)).breakLength ≤ 3 ∧
    (∀ n ∈ [1, 9, 10, 11, 15], 0 < (turned { inState .offHook 29 with pulseCount := n } (-20) (-60)).pulseCount ∧
      (turned { inState .offHook 29 with pulseCount := n } (-20) (-60)).closedRun = 29) ∧
    (turned (inState .offHook 29) (-20) (-60)).receiver = none ∧ base.waitList = [] := by decide

theorem witness_SeizureAndHangUp :
    (with3 (inState .seizePending 7)).samples 3 ∧
    (turned (inState .seizePending 7) (-20) (-60)).classMemory = .closed ∧
    (turned (inState .seizePending 7) (-20) (-60)).receiver = none ∧
    (with3 (inState .seizePending 7)).waitList = [] ∧
    ((with3 (inState .seizePending 7)).receiver 0).state = .idle ∧
    (∀ i : ReceiverNo, (((((base.lend 0 8).lend 1 9).lend 2 10).lend 3 11).receiver i).state ≠ .idle) ∧
    ((base.lend 0 3).modPair 3 fun r => { r with loop := .inBreak, breakLength := 160, beforeBreak := .offHook }).samples 3 ∧
    (turned { inState .inBreak 0 160 with receiver := some 0 } (-8) (-196)).classMemory = .openLoop ∧
    (((base.lend 0 3).modPair 3 fun r => { r with loop := .inBreak, breakLength := 160 }).pair 3).receiver = some 0 ∧
    ((base.lend 0 3).receiver 0).pair = some 3 := by decide

theorem witness_FeedFreezeAndReturn :
    (with3 (inState .inBreak 0 159)).samples 3 ∧ (with3 { inState .onHook with freeze := .feed, stale := true }).samples 3 ∧
    (turned { inState .inBreak 0 159 with feedDead := 19 } 0 0).classMemory = .dead ∧
    (turned { inState .inBreak 0 159 with feedDead := 19 } 0 0).feedDead = 19 ∧
    (turned { inState .onHook with feedDead := 19 } 0 0).classMemory = .dead ∧
    (turned { inState .onHook with freeze := .feed } 0 0).classMemory = .dead ∧
    (turned { inState .onHook with freeze := .feed, feedBack := 2 } (-20) (-60)).feedBack < 3 ∧
    (turned { inState .onHook with freeze := .feed, feedBack := 3 } (-20) (-60)).feedBack = 3 ∧
    (turned { inState .onHook with freeze := .feed, feedBack := 3 } (-20) (-60)).classMemory ≠ .dead := by decide

/-- A quiet interval of 20 OPEN samples, and one of 20 of an alternating swing above 400. -/
def quietInterval : IntervalRecord := intervalRecord { Accumulator.empty with scans := 20, opened := 20, sum := 3760 } .unfrozen

def ringInterval : IntervalRecord :=
  intervalRecord { Accumulator.empty with scans := 20, extremes := some ⟨-300, 101, 0, 0⟩ } .unfrozen

theorem witness_RingingHoldAtClose :
    quietInterval.freeze = .unfrozen ∧ quietInterval.ringing = false ∧ ringInterval.freeze = .unfrozen ∧
      ringInterval.ringing = true ∧ (inState .seizePending 3).loop = .seizePending ∧
      { inState .onHook with ringingHold := true, quietCount := 1 }.quietCount = 1 ∧
      { quietInterval with freeze := .feed }.freeze ≠ .unfrozen := by decide

theorem witness_IntegratorsAtClose :
    (∀ n ∈ [0, 1, 14, 15], { PairRecord.initial with feedLoss := n }.feedLoss ≤ 15) ∧
      11 ≤ { quietInterval with dead := 11 }.dead ∧ { quietInterval with dead := 10 }.dead < 11 ∧
      11 ≤ { quietInterval with positive := 11 }.positive ∧ 1 ≤ { quietInterval with clipped := 1 }.clipped ∧
      40 < { quietInterval with swingC := 41 }.swingC ∧ 11 ≤ { quietInterval with sag := 11 }.sag ∧
      { quietInterval with opened := 10 }.opened < 11 ∧ 11 ≤ quietInterval.opened := by decide

theorem witness_LatchesPairClassAndFaultState :
    quietInterval.freeze = .unfrozen ∧
      ((integrateClose { PairRecord.initial with foreign := 11 } { quietInterval with clipped := 1 }).1.latched.foreign) =
        true ∧
      ((integrateClose { PairRecord.initial with foreign := 1, latched := { LatchedSet.none with foreign := true } }
        quietInterval).1.latched.foreign) = false := by decide

theorem witness_LatchesPairClassAndFaultState_steps :
    PairRecord.initial.fault = .clear ∧ { PairRecord.initial with fault := .faulted }.fault = .faulted ∧
      { PairRecord.initial with fault := .recovering, recovery := 18 }.recovery < 19 ∧
      { PairRecord.initial with fault := .recovering, recovery := 19 }.recovery = 19 := by decide

/-- Pair 3 at the twentieth sample of an interval that met one clipped sample, its FOREIGN integrator at 11. -/
def foreignAtClose : State :=
  with3 { PairRecord.initial with
    foreign := 11, acc := { Accumulator.empty with scans := 19, clipped := 1, opened := 18, sum := 3384 } }

theorem witness_FaultAtCloseClaimsAndClears :
    foreignAtClose.running = true ∧ foreignAtClose.service 3 = .equipped ∧ (foreignAtClose.pair 3).check = true ∧
      (foreignAtClose.pair 3).freeze = .unfrozen ∧ (foreignAtClose.pair 3).loop = .onHook ∧
      (foreignAtClose.pair 3).acc.scans = 19 ∧ (foreignAtClose.pair 3).foreign = 11 ∧
      (foreignAtClose.pair 3).fault = .clear ∧ (foreignAtClose.pair 3).latched = .none ∧
      (foreignAtClose.pair 3).feedLoss < 11 ∧ (foreignAtClose.pair 3).groundLeak < 11 ∧
      (foreignAtClose.pair 3).ringingHold = false ∧ (foreignAtClose.pair 3).claim = .unclaimed ∧
      (foreignAtClose.pair 3).receiver = none ∧ (foreignAtClose.pair 3).events.length < 8 ∧
      foreignAtClose.ownedEntry (foreignAtClose.pairKey 3 .foreign) = none ∧
      foreignAtClose.hasItem (.faultClaim 3) = false ∧ foreignAtClose.tagPointer = 0 ∧
      foreignAtClose.tags.get 0 = none ∧
      ((foreignAtClose.pair 3).sample (senseReading (-8)) (senseReading (-196))).classMemory = .openLoop ∧
      1 ≤ (intervalRecord ((foreignAtClose.pair 3).sample (senseReading (-8)) (senseReading (-196))).acc .unfrozen).clipped ∧
      (intervalRecord ((foreignAtClose.pair 3).sample (senseReading (-8)) (senseReading (-196))).acc .unfrozen).ringing =
        false := by decide

theorem witness_SensingAndLearning : 80 ≤ 188 ∧ 188 ≤ 4093 ∧ 1280 ≤ 65488 ∧ learned 1280 80 = 1280 ∧
    learned 65488 4093 = 65488 := by decide

theorem witness_ToneDecision :
    (((0, 0) : Fin 4 × Fin 4) ≠ (1, 0)) ∧ { Receiver.idle with state := .listen }.state = .listen ∧
      { Receiver.idle with state := .candidate, candidate := some (1, 0), run := 3 }.run = 3 ∧
      { Receiver.idle with state := .candidate, candidate := some (1, 0), run := 2 }.run < 3 ∧
      { Receiver.idle with state := .toneOn, candidate := some (1, 0) }.candidate = some (1, 0) ∧
      { Receiver.idle with state := .ending, candidate := some (1, 0), run := 2 }.run = 2 := by decide

/-- A block of 697 Hz and 1209 Hz together, each of amplitude 400, at 8000 samples a second: the key 1. -/
def key1Block : Vector Int 80 :=
  ⟨#[0, 533, 734, 514, 82, -242, -278, -112, 9, -83, -318, -444, -256, 208, 659, 772, 444, -121, -559, -621, -343,
    4, 157, 70, -70, -34, 226, 514, 546, 202, -346, -748, -732, -315, 211, 510, 449, 177, -28, -8, 149, 202, -9,
    -396, -669, -571, -100, 465, 764, 622, 176, -246, -387, -245, -45, -16, -183, -347, -267, 108, 561, 760, 524,
    -24, -537, -700, -464, -58, 212, 205, 43, -29, 124, 388, 495, 259, -240, -689, -772, -418],
    by decide⟩

/-- A receiver lent to pair 3 ten milliseconds ago. -/
def lent3 : State := { base.lend 0 3 with now := 20010 }

theorem witness_ToneBlocks :
    lent3.running = true ∧ (lent3.receiver 0).assigned = some 20000 ∧ 20000 < lent3.now ∧ (base.lend 0 3).now ≤ 20000 ∧
      (lent3.receiver 0).pair = some 3 ∧
      (lent3.pair 3).loop ≠ .inBreak ∧ (lent3.pair 3).freeze = .unfrozen ∧
      (lent3.receiver 0).spoiled = false ∧
      judge (blockEnergies (key1Block.toList.map audioSample)) = some (0, 0) ∧
      { lent3.receiver 0 with state := .candidate, candidate := some (0, 0), run := 3 }.run = 3 ∧
      (judge (blockEnergies ((Vector.replicate 80 0).toList.map audioSample))).isNone = true ∧
      ¬((lent3.modPair 3 fun r => { r with loop := .inBreak }).pair 3).loop ≠ .inBreak ∧
      { lent3.receiver 0 with spoiled := true }.spoiled = true := by decide +kernel

theorem witness_ReceiverTimersRelease :
    lent3.running = true ∧ (lent3.receiver 0).pair = some 3 ∧ (lent3.receiver 0).lastDigit = none ∧
      (lent3.receiver 0).assigned = some 20000 ∧ 20000 < lent3.now ∧ lent3.waitList = [] ∧ (5 : Pair) ≠ 3 ∧
      { lent3 with waitList := [⟨5, 19000⟩] }.waitList = { pair := 5, since := 19000 } :: [] ∧
      { lent3.receiver 0 with lastDigit := some 20005 }.lastDigit = some 20005 ∧ 20005 < lent3.now ∧
      { lent3.receiver 0 with lastDigit := some 20010 }.lastDigit = some 20010 ∧ lent3.now ≤ 20010 ∧
      (base.lend 0 3).now ≤ 20000 := by decide

/-- A queue of one item, eligible. -/
def queued (k : ItemKind) (s : State := base) : State := { s with queue := [newItem k] }

theorem witness_Contention :
    base.station = .active ∧ base.inFlight = none ∧ base.queue.find? base.eligible = none ∧
      (queued (.lock false)).inFlight = none ∧
      (queued (.lock false)).queue.find? (queued (.lock false)).eligible = some (newItem (.lock false)) ∧
      (queued (.leave 3 key7)).queue.find? (queued (.leave 3 key7)).eligible = some (newItem (.leave 3 key7)) ∧
      (queued (.faultClaim 3) (base.claimPending 3 .foreign)).queue.find?
        (queued (.faultClaim 3) (base.claimPending 3 .foreign)).eligible = some (newItem (.faultClaim 3)) ∧
      (queued (.faultClaim 3) (base.claimPending 3 .foreign)).tagOf 3 = some (0, .foreign) ∧
      (queued (.lineEvents 3) (with3 (PairRecord.initial.append 0 .offhook 0))).queue.find?
        (queued (.lineEvents 3) (with3 (PairRecord.initial.append 0 .offhook 0))).eligible =
          some (newItem (.lineEvents 3)) ∧
      ((queued (.lineEvents 3) (with3 (PairRecord.initial.append 0 .offhook 0))).pair 3).events =
        ⟨.offhook, 0, 0, 0⟩ :: [] ∧
      (sends .unlock .unlock).sending (sent .unlock .unlock) ∧
      { sends .unlock .unlock with queue := [{ sent .unlock .unlock with withdrawn := true }] }.sending
        { sent .unlock .unlock with withdrawn := true } := by decide +kernel

theorem witness_FramesIgnoredVoidedOrInConflict_ignored :
    base.running = true ∧ base.inFlight = none ∧
      base.hears (.long .lineEvents) (frameOf 9 15 2 (.lineEvents 3 0 false false [⟨.offhook, 0, 1⟩])) ∧
      base.hears (.long .park) (frameOf 15 9 0 (.command (.park 3))) ∧
      (frameOf 15 9 0 (.command (.park 3))).target ≠ base.straps.station := by decide +kernel

theorem witness_FramesIgnoredVoidedOrInConflict :
    receives (.unlockReceived (from_ 9 .unlock)) = some (.short .unlock, from_ 9 .unlock) ∧ base.running = true ∧
      checkError (.short .unlock) { from_ 9 .unlock with check := 0 } = true ∧
      (from_ 9 .unlock).sender ≠ base.straps.station ∧
      lengthError (.long .release) { from_ 9 (.release 3) with body := [] } = true ∧
      lengthError (.short .unlock) (from_ 9 .unlock) = false ∧
      { from_ 9 .unlock with voidedByOther := true }.voidedByOther = true ∧ base.abandoned = false ∧
      (from_ 4 .unlock).sender = base.straps.station ∧ checkError (.short .unlock) (from_ 4 .unlock) = false := by
  decide +kernel

theorem witness_TestBusFramesHeard :
    base.bus.view ≠ .mine ∧ base.hears (.short .lock) (from_ 9 .lock) ∧ base.hears (.short .unlock) (from_ 9 .unlock) ∧
      base.hears (.long .quiet) (frameOf 9 5 2 (.quiet 3 true .foreign)) ∧
      base.hears (.long .release) (frameOf 9 5 2 (.release 3)) ∧
      (frameOf 9 5 2 (.release 3)).target ≠ base.straps.station ∧
      base.hears (.long .testResult) (frameOf 9 15 2 (.testResult 3 .busy [])) ∧
      (heldBy 9).bus.view = .held 9 19000 ∧ (heldBy 9).hears (.long .testResult) (frameOf 9 15 2 (.testResult 3 .busy [])) := by
  decide +kernel

theorem witness_HolderHearsAndLosesLock :
    mine.running = true ∧ mine.bus.view = .mine ∧ mine.hears (.short .lock) (from_ 9 .lock) ∧
      mine.hasItem .testBus = false ∧ mine.bus.run = none ∧
      (∀ a, mine.bus.access = some a → a.holder ≠ mine.straps.station) ∧ mine.bus.lastAccepted = some 19000 ∧
      mine.hears (.short .unlock) (from_ 9 .unlock) ∧ mine.hears (.long .quiet) (frameOf 9 5 2 (.quiet 3 true .foreign)) ∧
      mine.hears (.long .release) (frameOf 9 5 2 (.release 3)) ∧
      (frameOf 9 5 2 (.release 3)).target ≠ mine.straps.station :=
  ⟨by decide, by decide, by decide +kernel, by decide, by decide, nofun, by decide, by decide +kernel, by decide +kernel,
    by decide +kernel, by decide⟩

theorem witness_AccessAtTarget_quiet :
    base.hears (.long .quiet) (from_ 9 (.quiet 3 true .foreign)) ∧
      (from_ 9 (.quiet 3 true .foreign)).target = base.straps.station ∧ base.bus.view ≠ .mine ∧
      bodyOf (.long .quiet) (from_ 9 (.quiet 24 true .foreign)).body = some (.quiet 24 true .foreign) ∧
      toPair 24 = none ∧ toPair 23 = some 23 ∧ (base.setService 23 .absent).service 23 = .absent ∧
      base.service 3 ≠ .absent ∧ (∀ owned : Bool, (base.pair 3).claim ≠ .linked .foreign owned) ∧
      ((base.setClaim 3 (.linked .foreign false) none).pair 3).claim = .linked .foreign false ∧
      (base.pair 3).loop = .onHook ∧ (base.pair 3).receiver = none ∧ (base.pair 3).freeze = .unfrozen ∧
      base.bus.access = none := by decide +kernel

theorem witness_AccessAtTarget :
    inAccess3.hears (.long .release) (from_ 9 (.release 3)) ∧ (from_ 9 (.release 3)).target = inAccess3.straps.station ∧
      inAccess3.bus.view ≠ .mine ∧ inAccess3.unit.measurement = none ∧
      bodyOf (.long .release) (from_ 9 (.release 3)).body = some (.release 3) ∧
      (∀ a, base.bus.access = some a → toPair 3 ≠ some a.pair) ∧
      inAccess3.bus.access = some ⟨3, 9, 20000⟩ ∧ toPair 3 = some 3 ∧ (9 : StationNo) ≠ inAccess3.straps.station :=
  ⟨by decide +kernel, by decide, by decide, by decide, by decide +kernel, nofun, by decide, by decide, by decide⟩

def claim7 : RxFrame := from_ 5 (.faultClaim key7 2 9 true)

theorem witness_FaultClaimReceived :
    base.hears (.short .faultClaim) claim7 ∧
      bodyOf (.short .faultClaim) claim7.body = some (.faultClaim key7 2 9 true) ∧ base.ownedEntry key7 = none ∧
      (withEntry (openEntry [member 5 2])).ownedEntry key7 = some 0 ∧
      ((withEntry (openEntry [member 5 2])).entry 0).check = true ∧
      (∃ m ∈ ((withEntry (openEntry [member 5 2])).entry 0).members, m.station = claim7.sender ∧ m.pair = 2) ∧
      (¬∃ m ∈ (openEntry (List.replicate 31 (member 6 1))).members, m.station = claim7.sender ∧ m.pair = 2) ∧
      (openEntry (List.replicate 31 (member 6 1))).members.length < 32 ∧
      32 ≤ (openEntry (List.replicate 32 (member 6 1))).members.length ∧
      { openEntry [] with state := .confirming }.state = .confirming ∧
      (∃ d ∈ { openEntry [] with defers := [⟨5, 1, 2, false, false⟩] }.defers, d.station = claim7.sender ∧ d.pair = 2) ∧
      { openEntry [] with defers := List.replicate 7 ⟨6, 1, 2, false, false⟩ }.defers.length < 8 ∧
      8 ≤ { openEntry [] with defers := List.replicate 8 ⟨6, 1, 2, false, false⟩ }.defers.length := by decide +kernel

def leave7 : RxFrame := from_ 5 (.leave key7 2)

theorem witness_LeaveReceived :
    base.hears (.short .leave) leave7 ∧ bodyOf (.short .leave) leave7.body = some (.leave key7 2) ∧
      base.ownedEntry key7 = none ∧ (withEntry (openEntry [member 5 2])).ownedEntry key7 = some 0 ∧
      ((withEntry (openEntry [member 5 2])).entry 0).check = true ∧
      (∃ m ∈ (openEntry [member 5 2]).members, m.station = leave7.sender ∧ m.pair = 2 ∧ m.leaving = false) ∧
      (¬∃ m ∈ (openEntry [member 5 1]).members, m.station = leave7.sender ∧ m.pair = 2) ∧
      0 < { openEntry [member 5 1] with overflow := 1 }.overflow ∧ (openEntry [member 5 1]).overflow = 0 := by decide +kernel

/-- Pair 3 DEFERRED under `key7` with tag 0. -/
def deferred3 : State := (base.allocateTag 3 .foreign).setClaim 3 (.deferred 0) (some 30000)

/-- Pair 3 LINKED to FOREIGN elsewhere. -/
def linked3 : State := base.setClaim 3 (.linked .foreign false) (some 30000)

def closed7 (forced : Bool) : RxFrame := frameOf 9 15 2 (.incident key7 .closed .notFound forced 0 [])

theorem witness_ClaimLogicFrames :
    deferred3.hears (.long .deferredReply) (from_ 9 (.deferredReply 0 3 key7 true)) ∧
      (from_ 9 (.deferredReply 0 3 key7 true)).target = deferred3.straps.station ∧
      bodyOf (.long .deferredReply) (from_ 9 (.deferredReply 0 3 key7 true)).body = some (.deferredReply 0 3 key7 true) ∧
      toPair 24 = none ∧ toPair 3 = some 3 ∧
      ((deferred3.pair 3).claim = .deferred 0 ∧ deferred3.tagOf 3 = some (0, key7.cls) ∧ deferred3.pairKey 3 key7.cls = key7) ∧
      ¬((base.pair 3).claim = .deferred 0) ∧
      linked3.hears (.long .incident) (closed7 true) ∧
      bodyOf (.long .incident) (closed7 true).body = some (.incident key7 .closed .notFound true 0 []) ∧
      bodyOf (.long .incident) (closed7 false).body = some (.incident key7 .closed .notFound false 0 []) ∧
      (linked3.pairKey 3 key7.cls = key7 ∧ (linked3.pair 3).claim = .linked key7.cls false) ∧
      (∀ q : Pair, q ≠ 3 → (linked3.pair q).claim = .unclaimed ∧ (deferred3.pair q).claim = .unclaimed) ∧
      (∀ q : Pair, (base.pair q).claim = .unclaimed) ∧ linked3.ownedEntry key7 = none ∧ linked3.tags.get 0 = none ∧
      deferred3.ownedEntry key7 = none ∧ deferred3.tags.get 1 = none := by decide +kernel

theorem witness_CommandsTakeASlot :
    commandFrame (.restart (from_ 15 (.command .restart) 0)) = some (.restart, from_ 15 (.command .restart) 0) ∧
      base.hears (.long .restart) (from_ 15 (.command .restart) 0) ∧
      (from_ 15 (.command .restart) 0).target = base.straps.station ∧
      bodyOf (.long .restart) (from_ 15 (.command .restart) 0).body = some (.command .restart) ∧
      bodyOf (.long .queryPair) (from_ 5 (.command (.queryPair 25 0))).body = some (.command (.queryPair 25 0)) ∧
      bodyOf (.long .queryIncident) (from_ 5 (.command (.queryIncident key7 1))).body =
        some (.command (.queryIncident key7 1)) ∧
      base.hears (.long .queryPair) (from_ 5 (.command (.queryPair 25 0))) ∧
      base.hears (.long .queryIncident) (from_ 5 (.command (.queryIncident key7 1))) ∧
      base.slot 0 = none ∧
      (∀ i : Fin 4, { base with slots := Vector.replicate 4 (some (deniedSlot .restart 14)) }.slot i ≠ none) ∧
      max (0 : Nat) (if (14 : StationNo) = 15 then 0 else if (14 : StationNo) = 14 then 1 else 2) > 0 := by decide +kernel

theorem witness_TestPairAndClearIncident :
    base.hears (.long .testPair) (from_ 14 (.command (.testPair 3)) 1) ∧
      bodyOf (.long .testPair) (from_ 14 (.command (.testPair 3)) 1).body = some (.command (.testPair 3)) ∧
      base.slot 0 = none ∧ toPair 31 = none ∧ (base.setService 3 .absent).service 3 = .absent ∧ base.service 3 ≠ .absent ∧
      { base.unit with failed := true }.failed = true ∧ base.unit.failed = false ∧ base.bus.test = none ∧
      base.hears (.long .clearIncident) (from_ 15 (.command (.clearIncident key7)) 0) ∧
      bodyOf (.long .clearIncident) (from_ 15 (.command (.clearIncident key7)) 0).body =
        some (.command (.clearIncident key7)) ∧
      (from_ 15 (.command (.clearIncident key7)) 0).authority = 0 ∧ base.ownedEntry key7 = none ∧
      (withEntry (openEntry [member 5 2])).ownedEntry key7 = some 0 ∧
      ((withEntry (openEntry [member 5 2])).entry 0).check = true ∧
      ((withEntry (openEntry [member 5 2])).entry 0).state ≠ .confirming ∧
      ((withEntry (openEntry [member 5 2])).entry 0).defers = [] ∧
      (∀ p : Pair, ((withEntry (openEntry [member 5 2])).pair p).claim ≠ .linked key7.cls true) ∧
      ((withEntry (openEntry [member 5 2])).writeEntry 0
        { openEntry [] with state := .free, changed := true, closing := some ⟨.unjudged, true⟩ }).settle.running = true := by
  decide +kernel

theorem witness_ParkAndUnpark :
    base.hears (.long .park) (from_ 15 (.command (.park 3)) 0) ∧
      bodyOf (.long .park) (from_ 15 (.command (.park 3)) 0).body = some (.command (.park 3)) ∧
      bodyOf (.long .unpark) (from_ 15 (.command (.unpark 3)) 0).body = some (.command (.unpark 3)) ∧
      base.hears (.long .unpark) (from_ 15 (.command (.unpark 3)) 0) ∧ base.slot 0 = none ∧ toPair 24 = none ∧
      base.service 3 = .equipped ∧ base.inAccess 3 = false ∧ inAccess3.inAccess 3 = true ∧ inAccess3.service 3 = .equipped ∧
      (base.pair 3).claim = .unclaimed ∧ (base.pair 3).receiver = none ∧ base.waitList = [] ∧
      ((base.setPair 3 PairRecord.initial).setService 3 .parked).settle.running = true ∧
      (base.setService 3 .parked).service 3 = .parked := by decide +kernel

theorem witness_FailedAttemptKeepsItem :
    (sends .unlock .unlock).sending (sent .unlock .unlock) ∧ (sent .unlock .unlock).withdrawn = false ∧
      { sent .unlock .unlock with attempts := 2 }.attempts < 3 ∧ { noCells with void := true }.void = true ∧
      (sends (.reply 0) (.reply .restart .done .nothing)).sending (sent (.reply 0) (.reply .restart .done .nothing)) ∧
      noCells.ack = false ∧ noCells.stall = false := by decide +kernel

theorem witness_BackoffAfterBusy :
    (sends (.lock false) .lock).sending (sent (.lock false) .lock) ∧
      (sends (.reply 0) (.reply .restart .done .nothing)).sending (sent (.reply 0) (.reply .restart .done .nothing)) ∧
      (sends (.faultClaim 3) (.faultClaim key7 3 0 false)).sending (sent (.faultClaim 3) (.faultClaim key7 3 0 false)) ∧
      { noCells with own := true }.void = false ∧ { noCells with stall := true }.stall = true ∧
      { base with queue := [{ newItem (.leave 3 key7) with backoff := some 20040 }] }.item (.leave 3) =
        some { newItem (.leave 3 key7) with backoff := some 20040 } ∧
      (base.claimPending 3 .foreign).hasItem (.faultClaim 3) = true ∧
      (((base.claimPending 3 .foreign).modPair 3 fun r => { r with claimTimer := some 20040 }).pair 3).claim = .pending := by
  decide +kernel

def eventsBody : Body := .lineEvents 3 0 false false [⟨.offhook, 0, 1⟩]

theorem witness_LineEventsFate :
    (sends (.lineEvents 3) eventsBody).sending (sent (.lineEvents 3) eventsBody) ∧
      (sent (.lineEvents 3) eventsBody).withdrawn = false ∧ (sent (.lineEvents 3) eventsBody).orphaned = false ∧
      ack.void = false ∧ ack.ack = true ∧ ack.stall = false ∧
      { sends (.lineEvents 3) eventsBody with queue := [{ sent (.lineEvents 3) eventsBody with attempts := 3 }] }.sending
        { sent (.lineEvents 3) eventsBody with attempts := 3 } := by decide +kernel

def claimBody : Body := .faultClaim key7 3 0 false

theorem witness_FaultClaimAnswered :
    (sends (.faultClaim 3) claimBody).sending (sent (.faultClaim 3) claimBody) ∧
      (sent (.faultClaim 3) claimBody).content = some claimBody ∧ (sent (.faultClaim 3) claimBody).orphaned = false ∧
      { noCells with own := true, defer := true }.own = true ∧
      { sends (.faultClaim 3) claimBody with queue := [{ sent (.faultClaim 3) claimBody with attempts := 3 }] }.sending
        { sent (.faultClaim 3) claimBody with attempts := 3 } ∧
      { sends (.faultClaim 3) claimBody with queue := [markSuperseded (sent (.faultClaim 3) claimBody)] }.sending
        (markSuperseded (sent (.faultClaim 3) claimBody)) ∧
      (markSuperseded (sent (.faultClaim 3) claimBody)).withdrawn = true := by decide +kernel

theorem witness_ClaimBecomesOwner :
    (sends (.faultClaim 3) claimBody (base.setClaim 3 .pending none)).sending (sent (.faultClaim 3) claimBody) ∧
      (∀ i : EntryNo, (base.entry i).key = none) ∧ (base.entry 0).state = .free ∧ (base.entry 0).check = true ∧
      (∀ q : Pair, q ≠ 3 → ((base.setClaim 3 .pending none).pair q).claim = .unclaimed) ∧ ack.own = false := by
  decide +kernel

theorem witness_DeliveredItemsLeave :
    (sends (.leave 3 key7) (.leave key7 3)).sending (sent (.leave 3 key7) (.leave key7 3)) ∧
      (sends (.incident 0) (.incident key7 .opened .unjudged false 1 [])).sending
        (sent (.incident 0) (.incident key7 .opened .unjudged false 1 [])) ∧
      ((withEntry { openEntry [member 5 2] with changed := true }).entry 0).changed = true ∧
      ((withEntry { openEntry [member 5 2] with changed := true }).entry 0).check = true ∧
      ((withEntry (openEntry [member 5 2])).entry 0).state ≠ .free ∧
      ((withEntry { Entry.empty with closing := some ⟨.lost, false⟩ }).entry 0).state = .free ∧
      (sends (.reply 0) (.reply .restart .done .nothing) (base.setSlot 0 (some ⟨.restart, 15, some .done, none, none, true⟩))).slot
        0 = some ⟨.restart, 15, some .done, none, none, true⟩ ∧
      base.straps.station ≠ 14 ∧ base.straps.station ≠ 15 ∧ base.straps.pairCount ≠ 3 ∧
      (sends .testResult (.testResult 3 .busy [])).sending (sent .testResult (.testResult 3 .busy [])) := by decide +kernel

theorem witness_LockOutcome :
    (sends (.lock false) .lock).sending (sent (.lock false) .lock) ∧
      { sends (.lock false) .lock with queue := [{ sent (.lock false) .lock with attempts := 3 }] }.sending
        { sent (.lock false) .lock with attempts := 3 } ∧
      (sends (.lock true) .lock mine).sending (sent (.lock true) .lock) ∧ (sends (.lock true) .lock mine).bus.view = .mine ∧
      (sent (.lock true) .lock).orphaned = false ∧ (sent (.lock true) .lock).withdrawn = false := by decide +kernel

theorem witness_HolderFrameOutcomes :
    (sends .unlock .unlock mine).sending (sent .unlock .unlock) ∧ (sends .unlock .unlock mine).bus.view = .mine ∧
      (sends (.quiet 9 3 .foreign) (.quiet 3 true .foreign) mine).sending (sent (.quiet 9 3 .foreign) (.quiet 3 true .foreign)) ∧
      (sends (.quiet 9 3 .foreign) (.quiet 3 true .foreign) mine).unit.calibrationPassed = true ∧
      (sends (.release 9 3) (.release 3) mine).sending (sent (.release 9 3) (.release 3)) ∧
      { sends (.release 9 3) (.release 3) mine with queue := [{ sent (.release 9 3) (.release 3) with attempts := 3 }] }.sending
        { sent (.release 9 3) (.release 3) with attempts := 3 } := by decide +kernel

/-- Entry 0 with the claim of station 5's pair 6 under answer. -/
def answering (st : EntryState := .confirmed) : State :=
  withEntry { openEntry [member 4 1] with state := st, defers := [⟨5, 1, 6, false, true⟩] }

theorem witness_DeferredReplyFate :
    (sends (.deferredReply 0 5 6) (.deferredReply 1 6 key7 true) answering).sending
        (sent (.deferredReply 0 5 6) (.deferredReply 1 6 key7 true)) ∧
      (answering.entry 0).check = true ∧
      (answering.entry 0).defers.find? (Defer.isOf 5 6) = some ⟨5, 1, 6, false, true⟩ ∧
      (answering.entry 0).key = some key7 ∧ (answering.entry 0).state = .confirmed ∧
      (∀ m ∈ (answering.entry 0).members, ¬(m.station = 5 ∧ m.pair = 6)) ∧ (answering.entry 0).members.length < 32 ∧
      (sends (.deferredReply 0 5 6) (.deferredReply 1 6 key7 false) (answering .free)).sending
        (sent (.deferredReply 0 5 6) (.deferredReply 1 6 key7 false)) := by decide +kernel

theorem witness_ClaimTimersAndPending :
    deferred3.running = true ∧ (deferred3.pair 3).claimTimer = some 30000 ∧ (deferred3.pair 3).claim = .deferred 0 ∧
      deferred3.tagOf 3 = some (0, .foreign) ∧ deferred3.ownedEntry (deferred3.pairKey 3 .foreign) = none ∧
      (linked3.pair 3).claimTimer = some 30000 ∧ (linked3.pair 3).claim = .linked .foreign false ∧
      linked3.hasItem (.faultClaim 3) = false ∧
      ((base.setClaim 3 .heldOff (some 30000)).pair 3).claim = .heldOff ∧ (base.pair 3).fault ≠ .faulted ∧
      pairClass { LatchedSet.none with foreign := true } = some .foreign := by decide

theorem witness_ClaimTimersAndPending_pending :
    base.running = true ∧ base.hasItem (.faultClaim 3) = false ∧ base.tags.get (base.tagPointer + 0) = none ∧
      { base.allocateTag 5 .foreign with tagPointer := 0 }.tags.get (0 + 1) = none ∧
      (∀ m : Fin 32, m < 1 → { base.allocateTag 5 .foreign with tagPointer := 0 }.tags.get (0 + m) ≠ none) := by decide

theorem witness_EntryTimers :
    base.running = true ∧ ((withEntry (openEntry [member 5 2])).entry 0).check = true ∧ (5 : StationNo) ≠ base.straps.station ∧
      (((withEntry (openEntry [member 5 2])).entry 0).members.find? fun z => z.station == 5 && z.pair == 2) =
        some (member 5 2) ∧
      ((withEntry { openEntry [member 5 2] with state := .confirming }).entry 0).state = .confirming ∧
      ((withEntry { openEntry [] with emptyTimer := some 160000 }).entry 0).emptyTimer = some 160000 ∧
      ((withEntry { openEntry [] with state := .clearing, clearHold := some 30000 }).entry 0).state = .clearing ∧
      ((withEntry { openEntry [] with state := .clearing, clearHold := some 30000 }).entry 0).defers = [] ∧
      (∀ p : Pair, (base.pair p).claim ≠ .linked key7.cls true) ∧
      ((withEntry { openEntry [] with retryTimer := some 70000 }).entry 0).retryTimer = some 70000 := by decide

def testing (ph : TestPhase) (s : State := base) : State := { s with bus := { s.bus with test := some ⟨3, ph⟩ } }

theorem witness_BusTimers :
    (heldBy 9).running = true ∧ (heldBy 9).bus.view = .held 9 19000 ∧ mine.bus.lastAccepted = some 19000 ∧
      mine.hasItem .testBus = false ∧ (testing .running mine).bus.test = some ⟨3, .running⟩ ∧
      { base.bus with restraint := some 20500 }.restraint = some 20500 ∧
      { mine.bus with releaseWait := some 22000 }.releaseWait = some 22000 ∧
      (testing (.waiting 50000)).bus.test = some ⟨3, .waiting 50000⟩ ∧ (testing (.waiting 50000)).bus.view ≠ .mine ∧
      (sends .unlock .unlock (testing (.waiting 50000) mine)).item .testBus = some (sent .unlock .unlock) := by decide +kernel

/-- A confirmation run for entry 0, CONFIRMING, waiting under a deadline or running. -/
def confirming (deadline : Option Nat) (ms : List Member := [member 9 3]) (s : State := base) : State :=
  withEntry { openEntry ms with state := .confirming }
    { s with bus := { s.bus with run := some { entry := 0, key := key7, deadline := deadline } } }

theorem witness_RunConcludes :
    (confirming (some 50000)).bus.run = some ⟨0, key7, some 50000⟩ ∧ ((confirming (some 50000)).entry 0).state = .confirming ∧
      ((confirming (some 50000)).entry 0).key = some key7 ∧ ((confirming (some 50000)).entry 0).defers = [] ∧
      ((confirming (some 50000)).entry 0).check = true ∧
      (∃ m ∈ ((confirming (some 50000)).entry 0).members, m.leaving = false) ∧
      (∀ p : Pair, ((confirming (some 50000)).pair p).claim ≠ .linked key7.cls true) ∧
      (confirming (some 50000)).running = true ∧ (confirming (some 50000)).bus.view ≠ .mine := by decide

theorem witness_ConfirmationDueAndBegun :
    (withEntry (openEntry [member 5 2, member 5 3, member 6 1])).due 0 = true ∧
      ((withEntry (openEntry [member 5 2, member 5 3, member 6 1])).entry 0).key = some key7 ∧ key7.cls ≠ .feedLoss ∧
      base.unit.failed = false := by decide

theorem witness_UnitReadings :
    calibrating.running = true ∧ calibrating.unit.selector = .cal ∧ calibrating.unit.readingDue = some 20200 ∧
      (3600 : Int) ≤ 3600 ∧ (4400 : Int) ≤ 4400 ∧ runWaiting calibrating.bus = false ∧ testWaiting calibrating.bus = false ∧
      (testing (.waiting 50000) calibrating).bus.test = some ⟨3, .waiting 50000⟩ := by decide

theorem witness_UnitReadings_legs :
    (reading .tip none).running = true ∧
      (reading .tip none).unit.measurement = some ⟨9, 3, true, .tip, none, []⟩ ∧
      (reading .tip none).unit.readingDue = some 20200 ∧ (reading .ring (some 5)).unit.vCal = some 4000 ∧
      (reading .ring (some 5)).unit.measurement = some ⟨9, 3, true, .ring, some 5, []⟩ := by decide

theorem witness_MeasurementCompletes :
    (reading .loop (some 5) (confirming none [member 9 3] mine)).unit.measurement = some ⟨9, 3, true, .loop, some 5, []⟩ ∧
      (reading .loop (some 5) (confirming none [member 9 3] mine)).bus.run = some ⟨0, key7, none⟩ ∧
      (9 : StationNo) ≠ base.straps.station ∧ (reading .loop (some 5)).unit.vCal = some 4000 ∧
      (testing .running (mine.beginAccess 3 4)).bus.access = some ⟨3, 4, 20000⟩ ∧
      (testing .running (mine.beginAccess 3 4)).bus.test = some ⟨3, .running⟩ ∧
      (reading .loop none).unit.measurement = some ⟨9, 3, true, .loop, none, []⟩ := by decide

theorem witness_ResistanceAndJudgement :
    (0 : Int) < 2000 ∧ 0 < (4000 : Int) - 2000 ∧
      ((100 : Nat) < 65535 ∧ (100 : Int) * (4000 - 2000) ≤ 100 * 2000 ∧ (100 : Int) * 2000 < (100 + 1) * (4000 - 2000)) ∧
      (65535 : Int) * (4000 - 3999) ≤ 100 * 3999 := by decide

/-- Pair 3 with its stored check no longer matching. -/
def corrupted : State := { base with pairs := base.pairs.set 3 { PairRecord.initial with check := false } }

theorem witness_IntegrityErrors :
    corrupted.running = true ∧ corrupted.service 3 ≠ .absent ∧ (corrupted.pair 3).check = false ∧
      (corrupted.pair 3).claim = .unclaimed ∧ (corrupted.pair 3).receiver = none ∧ corrupted.waitList = [] ∧
      corrupted.inAccess 3 = false ∧ corrupted.inFlight = none ∧ corrupted.integrityAt = none ∧
      { corrupted with integrityAt := some 10001 }.integrityAt = some 10001 ∧ corrupted.now - 10001 < 10000 := by decide

theorem witness_ControllerActs :
    State.reset.station ≠ .active ∧ (testing (.waiting 50000)).dueTest = false ∧
      (testing (.waiting 50000)).hasItem .testBus = false ∧ (testing (.waiting 50000)).bus.restraint = none ∧
      testWaiting (testing (.waiting 50000)).bus = true ∧ mine.unit.measurement = none ∧ mine.bus.remote = none ∧
      mine.unit.selector ≠ .cal ∧ mine.bus.unlockDue = false ∧ mine.bus.run = none ∧ mine.bus.test = none ∧
      (confirming (some 50000) [member 9 3] mine).bus.run = some ⟨0, key7, some 50000⟩ ∧
      (confirming (some 50000) [member 9 3] mine).bus.test = none ∧
      ((confirming (some 50000) [member 9 3] mine).entry 0).members = member 9 3 :: [] ∧
      (confirming (some 50000) [member 9 3] mine).dueTest = false := by decide +kernel

/-! ### Witnesses of the further clauses -/

/-- Clipped, DEAD, CLOSED and OPEN samples; a sag; an interval with a mean and one with none. -/
theorem witness_SensingAndLearning_samples :
    (2047 : Int) = 2047 ∧ (inState .onHook).acc.extremes = none ∧ (turned (inState .onHook) (-8) (-196)).classMemory = .openLoop ∧
      (turned { inState .onHook with dref16 := 4000 } (-8) (-196)).classMemory = .openLoop ∧
      (4000 ≠ 0 ∧ 16 * 188 + 384 < 4000) ∧ (turned (inState .onHook) 0 0).classMemory = .dead ∧
      (33 : Int) > 32 ∧ (turned (inState .onHook) (-8) (-196)).acc.extremes = some ⟨188, 188, -102, -102⟩ ∧
      quietInterval.mean = some 188 ∧ quietInterval.ringing = false ∧ quietInterval.freeze = .unfrozen ∧
      11 ≤ { Accumulator.empty with opened := 11 }.opened ∧ { Accumulator.empty with opened := 10 }.opened < 11 := by decide

/-- The lockout timer at 29 995 ms, with no class latched and in CLEAR, and with FOREIGN latched and FAULTED. -/
theorem witness_OffHookTurnsAndDigits_lockout :
    (∀ r ∈ [{ inState .offHook with lockoutTimer := 29995 },
        { inState .offHook with
          lockoutTimer := 29995, fault := .faulted, foreign := 12, latched := { LatchedSet.none with foreign := true } }],
      (with3 r).samples 3 ∧ ((with3 r).pair 3).freeze = .unfrozen ∧ (turned r (-20) (-60)).classMemory = .closed ∧
      (turned r (-20) (-60)).loop = .offHook ∧ (turned r (-20) (-60)).pulseCount = 0 ∧
      (turned r (-20) (-60)).dialled = false ∧ 29995 ≤ (turned r (-20) (-60)).lockoutTimer ∧
      (turned r (-20) (-60)).latched.permanentLoop = false ∧ (turned r (-20) (-60)).receiver = none ∧
      (turned r (-20) (-60)).claim = .unclaimed ∧ (with3 r).waitList = [] ∧
      (with3 r).ownedEntry ((with3 r).pairKey 3 .permanentLoop) = none) ∧
    pairClass (turned { inState .offHook with lockoutTimer := 29995 } (-20) (-60)).latched = none ∧
    pairClass { LatchedSet.none with foreign := true } = some .foreign := by decide

/-- A break begun in LOCKOUT at 160, with PERMANENT_LOOP latched alone, and with FOREIGN beside it. -/
theorem witness_SeizureAndHangUp_lockout :
    (∀ l ∈ [{ LatchedSet.none with permanentLoop := true }, { LatchedSet.none with permanentLoop := true, foreign := true }],
      let r := { inState .inBreak 0 160 .lockout with latched := l, foreign := 12, fault := .faulted }
      (with3 r).samples 3 ∧ ((with3 r).pair 3).freeze = .unfrozen ∧ (turned r (-8) (-196)).classMemory = .openLoop ∧
      (turned r (-8) (-196)).loop = .inBreak ∧ (turned r (-8) (-196)).beforeBreak = .lockout ∧
      (turned r (-8) (-196)).breakLength = 160 ∧ (turned r (-8) (-196)).receiver = none ∧ (with3 r).waitList = [] ∧
      (turned r (-8) (-196)).latched.permanentLoop = true ∧ (turned r (-8) (-196)).fault = .faulted) ∧
    pairClass LatchedSet.none = none ∧ pairClass { LatchedSet.none with foreign := true } = some .foreign := by decide

/-- The record of pair 3 before the last sample of an interval, with the least D seen. -/
def atClose (least : Int) (hold : Bool) (quiet : Nat) : PairRecord :=
  { inState .onHook with
    ringingHold := hold, quietCount := quiet
    acc := { Accumulator.empty with scans := 19, opened := 19, sum := 3572, extremes := some ⟨least, 188, 0, 0⟩ } }

/-- The record and the interval that the close of `atClose` hands to the fault integrator, with the hold as it then
stands. -/
def closing (r : PairRecord) (hold : Bool) : PairRecord × FaultStep :=
  integrateClose
    { turned r (-8) (-196) with
      ringingHold := hold, quietCount := 0, closedRun := 0, feedDead := 0, acc := Accumulator.empty }
    (intervalRecord (turned r (-8) (-196)).acc .unfrozen)

theorem witness_RingingHoldAtClose_exec :
    (∀ x ∈ [(-300, false, 0), (100, true, 1), (100, false, 0)],
      let s := with3 (atClose x.1 x.2.1 x.2.2)
      s.running = true ∧ s.service 3 = .equipped ∧ (s.pair 3).check = true ∧ (s.pair 3).freeze = .unfrozen ∧
      (s.pair 3).acc.scans = 19 ∧ (s.pair 3).receiver = none ∧ (s.pair 3).loop = .onHook ∧
      (turned (atClose x.1 x.2.1 x.2.2) (-8) (-196)).classMemory = .openLoop) ∧
    (intervalRecord (turned (atClose (-300) false 0) (-8) (-196)).acc .unfrozen).ringing = true ∧
    (intervalRecord (turned (atClose 100 true 1) (-8) (-196)).acc .unfrozen).ringing = false ∧
    (closing (atClose (-300) false 0) true).2 = .quiet ∧ (closing (atClose 100 true 1) false).2 = .quiet ∧
    (closing (atClose 100 false 0) false).2 = .quiet := by decide

theorem witness_FaultAtCloseClaimsAndClears_clears :
    let r := { atClose 100 false 0 with fault := .recovering, recovery := 19 }
    (with3 r).running = true ∧ (with3 r).service 3 = .equipped ∧ ((with3 r).pair 3).check = true ∧
      ((with3 r).pair 3).freeze = .unfrozen ∧ ((with3 r).pair 3).acc.scans = 19 ∧ ((with3 r).pair 3).receiver = none ∧
      ((with3 r).pair 3).loop = .onHook ∧ ((with3 r).pair 3).fault = .recovering ∧ ((with3 r).pair 3).recovery = 19 ∧
      ((with3 r).pair 3).latched = .none ∧ ((with3 r).pair 3).feedLoss < 11 ∧ ((with3 r).pair 3).foreign < 11 ∧
      ((with3 r).pair 3).groundLeak < 11 ∧ ((with3 r).pair 3).ringingHold = false ∧
      (turned r (-8) (-196)).classMemory = .openLoop ∧
      (intervalRecord (turned r (-8) (-196)).acc .unfrozen).ringing = false := by decide

/-- Each of the coefficient tables has a first entry, and a block has 80 samples. -/
theorem witness_ToneDecision_blocks : (List.replicate 80 (0 : Int)).length = 80 ∧
    rowCos0 ∈ [rowCos0, rowSin0] ∧ (List.replicate 4 (7 : Nat)).getD 3 0 = 7 := by decide

/-- The first item of the queue of `queued` is eligible. -/
def offers (k : ItemKind) (s : State) : Bool :=
  (queued k s).station == .active && (queued k s).inFlight.isNone &&
    (queued k s).queue.find? (queued k s).eligible == some (newItem k)

/-- An ended test of pair 3. -/
def ended3 (outcome : TestOutcome) : State := testing (.ended outcome [])

theorem witness_Contention_contents :
    offers (.deferredReply 0 5 6) answering = true ∧ (answering.entry 0).key = some key7 ∧
      ((answering.entry 0).defers.find? fun y => y.station == 5 && y.pair == 6) = some ⟨5, 1, 6, false, true⟩ ∧
      offers (.incident 0) (withEntry (openEntry [member 5 2])) = true ∧
      ((withEntry (openEntry [member 5 2])).entry 0).check = true ∧
      ((withEntry (openEntry [member 5 2])).entry 0).state = .opened ∧
      offers (.incident 0) (withEntry { openEntry [] with state := .free, closing := some ⟨.lost, false⟩ }) = true ∧
      offers .testResult (ended3 .done) = true ∧ (ended3 .done).bus.test = some ⟨3, .ended .done []⟩ ∧
      offers .testResult (ended3 .busy) = true ∧
      offers (.reply 0) (base.setSlot 0 (some ⟨.park 3, 15, some .done, some (-1), none, false⟩)) = true ∧
      offers (.quiet 9 3 .foreign) mine = true ∧ offers (.release 9 3) mine = true ∧ offers .unlock mine = true := by
  decide +kernel

/-- Slot 0 holds a query of station 5. -/
def asks (c : Command) (s : State := base) : State := s.setSlot 0 (some ⟨c, 5, none, none, some .active, false⟩)

theorem witness_QueryRepliesBuilt :
    (∀ x ∈ [(3, 0), (3, 1), (3, 2), (24, 0), (25, 0), (26, 0), (26, 1), (27, 0), (28, 0)],
      offers (.reply 0) (asks (.queryPair x.1 x.2)) = true) ∧
      (asks (.queryPair 3 0)).slot 0 = some ⟨.queryPair 3 0, 5, none, none, some .active, false⟩ ∧
      toPair 3 = some 3 ∧ (asks (.queryPair 3 0)).service 3 ≠ .absent ∧
      ((asks (.queryPair 3 0)).setService 3 .absent).service 3 = .absent ∧
      offers (.reply 0) (asks (.queryIncident key7 0)) = true ∧
      (∀ e : EntryNo, ((asks (.queryIncident key7 0)).entry e).key ≠ some key7) ∧
      (asks (.queryIncident key7 0) (withEntry (openEntry [member 5 2]))).ownedEntry key7 = some 0 ∧
      ((withEntry (openEntry [member 5 2])).entry 0).check = true ∧
      (asks (.queryIncident key7 0) (withEntry { openEntry [member 5 2] with check := false })).ownedEntry key7 = some 0 ∧
      ((withEntry { openEntry [member 5 2] with check := false }).entry 0).check = false ∧
      ((asks (.queryIncident key7 0) (withEntry { openEntry [member 5 2] with check := false })).loseEntry
        0).settle.running = true := by decide +kernel

/-- Pair 3 LINKED to FOREIGN in the entry 0 owned here. -/
def owned3 (x : Entry := openEntry [member 4 3]) : State := withEntry x (base.setClaim 3 (.linked .foreign true) none)

/-- The station still runs once pair 3 is PARKED after what ended its standing. -/
def parkRuns (s : State) : Bool := (((s.setPair 3 PairRecord.initial).setService 3 .parked).settle).running

theorem witness_ParkAndUnpark_standing :
    (∀ s ∈ [base.claimPending 3 .foreign, deferred3, linked3, owned3, base.setClaim 3 .heldOff (some 30000)],
      s.hears (.long .park) (from_ 15 (.command (.park 3)) 0) ∧ s.slot 0 = none ∧ s.service 3 = .equipped ∧
        s.inAccess 3 = false ∧ (s.pair 3).receiver = none ∧ s.waitList = []) ∧
      ((base.claimPending 3 .foreign).pair 3).claim = .pending ∧ (deferred3.pair 3).claim = .deferred 0 ∧
      (linked3.pair 3).claim = .linked .foreign false ∧ (owned3.pair 3).claim = .linked .foreign true ∧
      owned3.ownedEntry (owned3.pairKey 3 .foreign) = some 0 ∧ (owned3.entry 0).check = true ∧
      parkRuns (((base.claimPending 3 .foreign).withdraw (.faultClaim 3) markSuperseded).retireTag 3) = true ∧
      parkRuns (deferred3.retireTag 3) = true ∧
      parkRuns (((linked3.withdraw (.faultClaim 3) markSuperseded).retireTag 3).place (.leave 3 (linked3.pairKey 3 .foreign))) =
        true ∧
      parkRuns (owned3.leaveEntry 0 owned3.straps.station (pairNo 3)) = true := by decide +kernel

theorem witness_ParkAndUnpark_receiver :
    (lent3.pair 3).receiver = some 0 ∧ (lent3.receiver 0).pair = some 3 ∧ (lent3.pair 3).claim = .unclaimed ∧
      lent3.service 3 = .equipped ∧ lent3.inAccess 3 = false ∧ lent3.hears (.long .park) (from_ 15 (.command (.park 3)) 0) ∧
      parkRuns (lent3.setReceiver 0 Receiver.idle) = true ∧
      parkRuns ((lent3.lend 0 5).appendEvent 5 .receiverLate 1) = true ∧
      parkRuns { base with waitList := [] } = true ∧
      (inAccess3.setService 3 .parked).service 3 = .parked ∧ (inAccess3.setService 3 .parked).inAccess 3 = true ∧
      (inAccess3.setService 3 .parked).unit.measurement = none ∧
      ((({ inAccess3 with bus := { inAccess3.bus with access := none } }).setPair 3 PairRecord.initial).setService 3
        .equipped).settle.running = true := by decide +kernel

/-- An item of `sends` alone in the queue, changed. -/
def sendsAs (x : Item) (s : State := base) : State := { s with queue := [x] }

theorem witness_LineEventsFate_orphaned :
    let x := { sent (.lineEvents 3) eventsBody with orphaned := true }
    (sendsAs x).sending x ∧ x.orphaned = true ∧ x.withdrawn = false ∧ x.attempts < 3 ∧ ack.ack = true ∧
      (sendsAs { x with attempts := 3 }).sending { x with attempts := 3 } ∧ { noCells with void := true }.void = true := by
  decide +kernel

theorem witness_FaultClaimAnswered_kept :
    let x := { sent (.faultClaim 3) claimBody with superseded := true }
    let y := { sent (.faultClaim 3) claimBody with orphaned := true }
    (sendsAs x).sending x ∧ x.withdrawn = false ∧ x.superseded = true ∧ x.orphaned = false ∧ (sendsAs y).sending y ∧
      y.orphaned = true ∧ y.withdrawn = false ∧ (sendsAs (markOrphaned y)).sending (markOrphaned y) ∧
      (markOrphaned y).withdrawn = true ∧ { ack with own := true }.own = true ∧ { ack with own := true }.defer = false := by
  decide +kernel

theorem witness_ClaimBecomesOwner_gathers :
    (∀ s ∈ [(base.setClaim 3 .pending none).setClaim 5 (.linked .foreign false) none,
        (base.setClaim 3 .pending none).claimPending 5 .foreign],
      s.pairKey 5 key7.cls = key7 ∧
      ((s.pair 5).claim = .linked key7.cls false ∨
        ((s.pair 5).claim = .pending ∧ (s.tagOf 5).map Prod.snd = some key7.cls)) ∧
      ∀ z : Pair, z ≠ 3 → z ≠ 5 → (s.pair z).claim = .unclaimed) ∧ (5 : Pair) ≠ 3 := by decide +kernel

/-- Pair 3 FAULTED with FOREIGN alone latched. -/
def faulted3 (s : State) : State :=
  s.modPair 3 fun r => { r with fault := .faulted, foreign := 12, latched := { LatchedSet.none with foreign := true } }

/-- Pair 3 PENDING for GROUND_LEAK, with its tag and its FAULT CLAIM. -/
def pendingLeak : State := base.claimPending 3 .groundLeak

theorem witness_OwnPairStanding :
    base.running = true ∧ (base.pair 3).claim = .unclaimed ∧ base.ownedEntry (base.pairKey 3 .foreign) = none ∧
      ((base.setClaim 3 .heldOff (some 30000)).pair 3).claim = .heldOff ∧ (linked3.pair 3).claim = .linked .foreign false ∧
      ((base.claimPending 3 .foreign).pair 3).claim = .pending ∧
      (base.claimPending 3 .foreign).tagOf 3 = some (0, .foreign) ∧
      (pendingLeak.pair 3).claim = .pending ∧ pendingLeak.tagOf 3 = some (0, .groundLeak) ∧
      pendingLeak.hasItem (.faultClaim 3) = true ∧ pendingLeak.ownedEntry (pendingLeak.pairKey 3 .foreign) = none ∧
      (withEntry (openEntry [member 5 2]) pendingLeak).ownedEntry (pendingLeak.pairKey 3 .foreign) = some 0 ∧
      ((withEntry (openEntry [member 5 2]) pendingLeak).entry 0).check = true ∧
      ((withEntry (openEntry [member 5 2]) pendingLeak).entry 0).state ≠ .confirming ∧
      (deferred3.pair 3).claim = .deferred 0 ∧ deferred3.tagOf 3 = some (0, .foreign) ∧
      deferred3.ownedEntry (deferred3.pairKey 3 .groundLeak) = none ∧
      linked3.ownedEntry (linked3.pairKey 3 .groundLeak) = none ∧ (owned3.pair 3).claim = .linked .foreign true ∧
      owned3.ownedEntry (owned3.pairKey 3 .groundLeak) = none ∧
      owned3.ownedEntry (owned3.pairKey 3 .foreign) = some 0 ∧ (owned3.entry 0).check = true ∧
      owned3.pairKey 3 key7.cls = key7 ∧ ¬((base.pair 3).claim = .linked key7.cls true) := by decide +kernel

/-- Pair 3 held off and FAULTED with FOREIGN, and the entry of its key owned here. -/
def heldOff3 (x : Entry) : State := withEntry x (faulted3 (base.setClaim 3 .heldOff (some 30000)))

/-- A CONFIRMING entry with members and defers. -/
def asking (ms : List Member) (ds : List Defer) : Entry := { openEntry ms with state := .confirming, defers := ds }

theorem witness_LocalJoinsAndAnswers :
    (∀ x ∈ [openEntry [member 5 2], asking [member 4 3] [], asking [member 5 2] [⟨4, 1, 3, false, false⟩],
        asking [member 5 2] (List.replicate 7 ⟨6, 1, 2, false, false⟩),
        asking [member 5 2] (List.replicate 8 ⟨6, 1, 2, false, false⟩)],
      (heldOff3 x).running = true ∧ ((heldOff3 x).pair 3).claim = .heldOff ∧ ((heldOff3 x).pair 3).claimTimer = some 30000 ∧
      ((heldOff3 x).pair 3).fault = .faulted ∧ pairClass ((heldOff3 x).pair 3).latched = some .foreign ∧
      (heldOff3 x).ownedEntry ((heldOff3 x).pairKey 3 .foreign) = some 0 ∧ ((heldOff3 x).entry 0).check = true ∧
      (heldOff3 x).tags.get ((heldOff3 x).tagPointer + 0) = none) ∧
      (∃ m ∈ (asking [member 4 3] []).members, m.station = base.straps.station ∧ m.pair = pairNo 3) ∧
      (¬∃ m ∈ (asking [member 5 2] []).members, m.station = base.straps.station ∧ m.pair = pairNo 3) ∧
      (∃ d ∈ (asking [] [⟨4, 1, 3, false, false⟩]).defers, d.station = base.straps.station ∧ d.pair = pairNo 3) ∧
      (asking [] (List.replicate 7 ⟨6, 1, 2, false, false⟩)).defers.length < 8 ∧
      8 ≤ (asking [] (List.replicate 8 ⟨6, 1, 2, false, false⟩)).defers.length := by decide +kernel

theorem witness_LocalJoinsAndAnswers_answers :
    let d : Defer := ⟨4, 0, 3, false, false⟩
    let s := withEntry { openEntry [member 5 2] with defers := [d] } deferred3
    { d with underAnswer := true }.underAnswer = true ∧ d.underAnswer = false ∧ d.station = s.straps.station ∧
      d.pair = pairNo 3 ∧ (s.pair 3).claim = .deferred d.tag.toFin ∧ (base.pair 3).claim ≠ .deferred d.tag.toFin ∧
      (s.entry 0).state ≠ .free ∧ (s.entry 0).key = some key7 ∧
      ((withEntry { Entry.empty with defers := [d] } deferred3).entry 0).state = .free ∧ (5 : StationNo) ≠ s.straps.station := by
  decide +kernel

theorem witness_TestPairAndClearIncident_clear :
    (∀ e : EntryNo, (base.entry e).key ≠ some key7) ∧
      (let s := withEntry (openEntry [member 5 2])
       ((allPairs.foldl (State.unlinkOwn key7 true) (s.writeEntry 0 { openEntry [member 5 2] with
          state := .free, members := [], changed := true, closing := some ⟨.unjudged, true⟩ })).answerDefers
            0).settle.running = true) ∧
      ((confirming (some 50000)).entry 0).state = .confirming ∧ (confirming (some 50000)).ownedEntry key7 = some 0 := by
  decide +kernel

/-- The record of pair 3 no longer matches its check. -/
def corrupt3 (s : State) : State := { s with pairs := s.pairs.set 3 { s.pair 3 with check := false } }

theorem witness_IntegrityErrors_consequences :
    (∀ s ∈ [base.claimPending 3 .foreign, linked3, deferred3, owned3, lent3, inAccess3],
      (corrupt3 s).running = true ∧ (corrupt3 s).service 3 ≠ .absent ∧ ((corrupt3 s).pair 3).check = false ∧
        (corrupt3 s).integrityAt = none) ∧
      (∀ s ∈ [base.claimPending 3 .foreign, linked3, deferred3, owned3],
        ((corrupt3 s).pair 3).receiver = none ∧ (corrupt3 s).waitList = [] ∧ (corrupt3 s).inAccess 3 = false) ∧
      ((corrupt3 (base.claimPending 3 .foreign)).pair 3).claim = .pending ∧
      ((corrupt3 linked3).pair 3).claim = .linked .foreign false ∧ ((corrupt3 deferred3).pair 3).claim = .deferred 0 ∧
      ((corrupt3 owned3).pair 3).claim = .linked .foreign true ∧
      (corrupt3 owned3).ownedEntry ((corrupt3 owned3).pairKey 3 .foreign) = some 0 ∧
      ((corrupt3 owned3).entry 0).check = true ∧ ((corrupt3 lent3).pair 3).receiver = some 0 ∧
      ((corrupt3 lent3).receiver 0).pair = some 3 ∧ (corrupt3 lent3).waitList = [] ∧
      { corrupt3 lent3 with waitList := [⟨5, 19000⟩] }.waitList = { pair := 5, since := 19000 } :: [] ∧
      (corrupt3 inAccess3).inAccess 3 = true ∧ (corrupt3 inAccess3).unit.measurement = none ∧
      ((corrupt3 inAccess3).pair 3).claim = .unclaimed := by decide +kernel

/-- Entry 0 with its check failed. -/
def spoilt (x : Entry) (s : State := base) : State := withEntry { x with check := false } s

theorem witness_IncidentLost :
    (spoilt (openEntry [member 5 2])).running = true ∧ (spoilt (openEntry [member 5 2])).integrityAt = none ∧
      ((spoilt (openEntry [member 5 2])).entry 0).state ≠ .free ∧
      (spoilt (openEntry [member 5 2])).keyStore.get 0 = some key7 ∧ ((spoilt Entry.empty).entry 0).state = .free ∧
      ((spoilt Entry.empty).entry 0).closing = none ∧
      ((spoilt { Entry.empty with closing := some ⟨.confirmed, true⟩ }).entry 0).closing = some ⟨.confirmed, true⟩ ∧
      { spoilt (openEntry []) with integrityAt := some 10001 }.integrityAt = some 10001 ∧ base.now - 10001 < 10000 ∧
      (spoilt (openEntry [member 5 2])).station = .active ∧ ((spoilt (openEntry [member 5 2])).entry 0).check = false ∧
      (spoilt (openEntry [member 5 2])).ownedEntry key7 = some 0 ∧
      (spoilt (openEntry [member 5 2])).hears (.short .faultClaim) claim7 ∧
      bodyOf (.short .faultClaim) claim7.body = some (.faultClaim key7 2 9 true) ∧
      (spoilt (openEntry [member 5 2])).hears (.short .leave) leave7 ∧
      bodyOf (.short .leave) leave7.body = some (.leave key7 2) ∧
      (spoilt (openEntry [member 5 2])).hears (.long .clearIncident) (from_ 15 (.command (.clearIncident key7)) 0) ∧
      (spoilt (openEntry [member 5 2])).slot 0 = none ∧
      ((spoilt (openEntry [member 5 2])).loseEntry 0).settle.running = true ∧
      ((spoilt { openEntry [] with emptyTimer := some 160000 }).entry 0).emptyTimer = some 160000 ∧
      ((spoilt { openEntry [] with retryTimer := some 70000 }).entry 0).retryTimer = some 70000 ∧
      ((spoilt { openEntry [] with state := .clearing, clearHold := some 30000 }).entry 0).clearHold = some 30000 ∧
      (member 5 2) ∈ ((spoilt (openEntry [member 5 2])).entry 0).members ∧ (5 : StationNo) ≠ base.straps.station ∧
      (sends (.deferredReply 0 5 6) (.deferredReply 1 6 key7 true) (spoilt (openEntry []))).sending
        (sent (.deferredReply 0 5 6) (.deferredReply 1 6 key7 true)) := by decide +kernel

theorem witness_ControllerActs_further :
    (∀ s ∈ [sendsAs (newItem (.lock false)) (heldBy 9), sends (.lock false) .lock (heldBy 9), mine,
        testing (.waiting 50000), confirming (some 50000) [member 9 3] mine],
      s.station = .active ∧ s.dueTest = false) ∧
      (sendsAs (newItem (.lock false)) (heldBy 9)).item .testBus = some (newItem (.lock false)) ∧
      (heldBy 9).bus.view ≠ .mine ∧ (heldBy 9).bus.view ≠ .free ∧
      (sends (.lock false) .lock (heldBy 9)).item .testBus = some (sent (.lock false) .lock) ∧
      (sent (.lock false) .lock).withdrawn = false ∧ (sent (.lock false) .lock).content ≠ none ∧
      runWaiting base.bus = false ∧ testWaiting base.bus = false ∧ base.bus.view = .free ∧
      { mine.bus with remote := some (9, 3) }.remote = some (9, 3) ∧ { mine.bus with unlockDue := true }.unlockDue = true ∧
      mine.bus.releaseWait = none := by decide +kernel

/-- A running confirmation run at its first position, for a calibrated holder. -/
def running0 (ms : List Member) : State := confirming none ms mine

theorem witness_RunAndTestProceed :
    (∀ s ∈ [running0 [member 9 3], running0 [member 4 3], running0 [{ member 9 3 with leaving := true }], running0 [],
        testing (.waiting 50000) mine],
      s.station = .active ∧ s.dueTest = false ∧ s.bus.view = .mine ∧ s.unit.measurement = none ∧ s.bus.remote = none ∧ s.bus.releaseWait = none ∧
        s.unit.selector ≠ .cal ∧ s.bus.unlockDue = false ∧ s.hasItem .testBus = false) ∧
      (running0 [member 9 3]).bus.run = some ⟨0, key7, none⟩ ∧
      ((running0 [member 9 3]).entry 0).members[(running0 [member 9 3]).bus.position]? = some (member 9 3) ∧
      (running0 [member 9 3]).bus.tested < 3 ∧ (member 9 3).leaving = false ∧ (9 : StationNo) ≠ base.straps.station ∧
      (member 4 3).station = base.straps.station ∧ (member 4 3).pair = pairNo 3 ∧
      ((running0 [member 4 3]).pair 3).loop = .onHook ∧ ((running0 [member 4 3]).pair 3).receiver.isSome = false ∧
      ((running0 [member 4 3]).pair 3).freeze = .unfrozen ∧ (running0 [member 4 3]).bus.access.isSome = false ∧
      (running0 [member 4 3]).unit.calibrationPassed = true ∧ (inState .offHook).loop = .offHook ∧
      ((running0 []).entry 0).members.length ≤ (running0 []).bus.position ∧
      (testing (.waiting 50000) mine).bus.run = none ∧
      (testing (.waiting 50000) mine).bus.test = some ⟨3, .waiting 50000⟩ ∧
      { mine.unit with calibrationPassed := false }.calibrationPassed = false ∧ mine.unit.failed = false ∧
      (testing (.waiting 50000) mine).service 3 ≠ .absent := by decide +kernel

theorem witness_RunAndTestProceed_abandoned :
    (confirming (some 50000)).bus.run = some ⟨0, key7, some 50000⟩ ∧
      (running0 [member 9 3]).bus.run = some ⟨0, key7, none⟩ ∧ (running0 [member 9 3]).item .testBus = none ∧
      (running0 [member 9 3]).bus.access = none ∧
      ((confirming none [member 4 3] (mine.beginAccess 3 4)).bus.access) = some ⟨3, 4, 20000⟩ ∧
      (confirming none [member 4 3] (mine.beginAccess 3 4)).straps.station = 4 ∧
      (sendsAs (newItem (.quiet 9 3 .foreign)) (running0 [member 9 3])).item .testBus =
        some (newItem (.quiet 9 3 .foreign)) := by decide +kernel

/-- A holder with its own pair 3 in access and under measurement. -/
def ownMeasured (forRun : Bool) (s : State := mine) : State :=
  let s := s.beginAccess 3 4
  { s with unit := { s.unit with
      measurement := some ⟨4, 3, forRun, .tip, none, []⟩, selector := .leg .tip, readingDue := some 20200 } }

theorem witness_HolderHearsAndLosesLock_jobs :
    (∀ s ∈ [ownMeasured false (testing .running), sends (.lock true) .lock mine, sendsAs (newItem .unlock) mine,
        confirming none [member 9 3] mine],
      s.running = true ∧ s.hears (.short .unlock) (from_ 9 .unlock)) ∧
      (ownMeasured false (testing .running mine)).bus.view = .mine ∧
      (ownMeasured false (testing .running mine)).bus.test = some ⟨3, .running⟩ ∧
      (ownMeasured false (testing .running mine)).bus.access = some ⟨3, 4, 20000⟩ ∧
      (4 : StationNo) = mine.straps.station ∧ (sends (.lock true) .lock mine).item .testBus = some (sent (.lock true) .lock) ∧
      (sendsAs (newItem .unlock) mine).item .testBus = some (newItem .unlock) ∧
      (confirming none [member 9 3] mine).bus.view = .mine ∧
      (confirming none [member 9 3] mine).bus.run = some ⟨0, key7, none⟩ ∧
      ((confirming none [member 9 3] mine).entry 0).state = .confirming ∧
      ((confirming none [member 9 3] mine).entry 0).check = true ∧
      ∃ m ∈ ((confirming none [member 9 3] mine).entry 0).members, m.leaving = false := by decide +kernel

theorem witness_AccessAtTarget_own :
    (∀ s ∈ [ownMeasured true, ownMeasured false (testing .running mine)],
      s.running = true ∧ s.bus.access = some ⟨3, 4, 20000⟩ ∧ s.straps.station = 4 ∧ pairNo 3 = 3) ∧
      (ownMeasured true).unit.measurement = some ⟨4, 3, true, .tip, none, []⟩ ∧
      (ownMeasured false (testing .running mine)).unit.measurement = some ⟨4, 3, false, .tip, none, []⟩ ∧
      (ownMeasured false (testing .running mine)).bus.test = some ⟨3, .running⟩ ∧
      (mine.beginAccess 3 4).bus.access = some ⟨3, 4, 20000⟩ ∧ (mine.beginAccess 3 4).unit.measurement = none := by
  decide +kernel

theorem witness_ParkAndUnpark_own :
    (∀ s ∈ [(ownMeasured true).setService 3 .parked, (ownMeasured false (testing .running mine)).setService 3 .parked],
      s.hears (.long .unpark) (from_ 15 (.command (.unpark 3)) 0) ∧ s.slot 0 = none ∧ s.service 3 = .parked ∧
        s.inAccess 3 = true ∧
        ((({ s with bus := { s.bus with access := none }, unit := s.unit.stop } : State).setPair 3
          PairRecord.initial).setService 3 .equipped).settle.running = true) ∧
      ((ownMeasured true).setService 3 .parked).unit.measurement = some ⟨4, 3, true, .tip, none, []⟩ ∧
      ((ownMeasured false (testing .running mine)).setService 3 .parked).bus.test = some ⟨3, .running⟩ := by
  decide +kernel

/-- Pair 3 whose claim field reads NONE, disturbed, while its tag and its FAULT CLAIM item stand. -/
def strayClaim : State :=
  let s := base.claimPending 3 .foreign
  { s with pairs := s.pairs.set 3 { s.pair 3 with check := false, claim := .unclaimed } }

theorem witness_IntegrityErrors_own :
    (∀ s ∈ [corrupt3 (ownMeasured true), corrupt3 (ownMeasured false (testing .running mine)), strayClaim],
      s.running = true ∧ s.service 3 ≠ .absent ∧ (s.pair 3).check = false ∧ s.integrityAt = none ∧
        (s.pair 3).receiver = none ∧ s.waitList = [] ∧ (s.pair 3).claim = .unclaimed) ∧
      (corrupt3 (ownMeasured true)).inAccess 3 = true ∧
      (corrupt3 (ownMeasured true)).unit.measurement = some ⟨4, 3, true, .tip, none, []⟩ ∧
      (corrupt3 (ownMeasured false (testing .running mine))).unit.measurement = some ⟨4, 3, false, .tip, none, []⟩ ∧
      (corrupt3 (ownMeasured false (testing .running mine))).bus.test = some ⟨3, .running⟩ ∧
      strayClaim.item (.faultClaim 3) = some (newItem (.faultClaim 3)) ∧ strayClaim.inAccess 3 = false ∧
      (markOrphaned (newItem (.faultClaim 3))).withdrawn = true ∧
      (sent (.faultClaim 3) claimBody).content ≠ none := by decide +kernel

/-- R84: the tag a pair holds is retired with its record, and its item with it, whatever the failed record says. -/
theorem test_stray_claim_goes :
    ((scanTurn 3 0 0 strayClaim).tagOf 3, (scanTurn 3 0 0 strayClaim).hasItem (.faultClaim 3)) = (none, false) := by
  decide +kernel

theorem witness_IncidentLost_read :
    (sends (.incident 0) (.incident key7 .opened .unjudged false 1 []) (spoilt (openEntry [member 5 2]))).sending
        (sent (.incident 0) (.incident key7 .opened .unjudged false 1 [])) ∧ ack.ack = true ∧ ack.stall = false ∧
      (spoilt (openEntry [member 5 2]) (confirming none [member 9 3] mine)).bus.run = some ⟨0, key7, none⟩ ∧
      ((spoilt (openEntry [member 5 2]) (confirming none [member 9 3] mine)).entry 0).check = false ∧
      (sends (.faultClaim 3) claimBody (spoilt Entry.empty (base.setClaim 3 .pending none))).QueueOk ∧
      (sends (.faultClaim 3) claimBody (spoilt Entry.empty (base.setClaim 3 .pending none))).sending
        (sent (.faultClaim 3) claimBody) ∧
      (sends (.faultClaim 3) claimBody (spoilt Entry.empty (base.setClaim 3 .pending none))).entryToTake key7 = some 0 ∧
      ((sends (.faultClaim 3) claimBody (spoilt Entry.empty (base.setClaim 3 .pending none))).loseEntry 0).running =
        true := by decide +kernel

/-- R131, R144: a lost entry's run is abandoned although its own state no longer reads CONFIRMING, and another entry's
run goes on. -/
theorem test_lost_entry_and_runs :
    ((spoilt (openEntry [member 5 2]) (confirming none [member 9 3] mine)).loseEntry 0).bus.run = none ∧
      ((spoilt { openEntry [member 5 2] with state := .confirming }
        { base with bus := { base.bus with run := some ⟨1, key7, none⟩ } }).loseEntry 0).bus.run =
          some ⟨1, key7, none⟩ := by decide +kernel

theorem witness_RunAndTestProceed_otherEntry :
    base.bus.run = none ∧ (running0 [member 9 3]).bus.run = some ⟨0, key7, none⟩ ∧ (1 : EntryNo) ≠ 0 := by decide +kernel

/-- A CLEARING entry 0, at the end of its clear hold, for which the controller holds a run. -/
def clearingWithRun : State :=
  withEntry { openEntry [] with state := .clearing, clearHold := some 30000 }
    { base with bus := { base.bus with run := some ⟨0, key7, none⟩ } }

theorem witness_EntryTimers_run :
    clearingWithRun.running = true ∧ (clearingWithRun.entry 0).check = true ∧
      (clearingWithRun.entry 0).clearHold = some 30000 ∧ (clearingWithRun.entry 0).state = .clearing ∧
      (clearingWithRun.entry 0).key = some key7 ∧ (clearHoldExpiry 0 clearingWithRun).bus.run = none := by decide +kernel

/-- Pair 3 waiting for a receiver, or served by receiver 0, with the receiver field of its record disturbed. -/
def strayReceiver (waiting : Bool) : State :=
  let s := if waiting then { base.lend 0 5 with waitList := [⟨3, 19000⟩] } else base.lend 0 3
  { s with pairs := s.pairs.set 3 { s.pair 3 with check := false, receiver := if waiting then some 0 else some 1 } }

theorem witness_IntegrityErrors_pool :
    (∀ s ∈ [strayReceiver true, strayReceiver false],
      s.running = true ∧ s.service 3 ≠ .absent ∧ (s.pair 3).check = false ∧ s.integrityAt = none ∧
        (s.pair 3).claim = .unclaimed ∧ s.inAccess 3 = false) ∧
      (∀ j : ReceiverNo, ((strayReceiver true).receiver j).pair ≠ some 3) ∧
      ((strayReceiver false).receiver 0).pair = some 3 ∧ (strayReceiver false).waitList = [] ∧
      ({ strayReceiver false with waitList := [⟨5, 19000⟩] }.waitList.filter fun (w : Waiting) => w.pair != 3) =
        { pair := 5, since := 19000 } :: [] := by decide +kernel

/-- R59, R60: a reinitialised pair leaves the wait list, and the receiver that serves it is released, whatever its
failed record says of a receiver; the receiver of another pair stays lent. -/
theorem test_reinitialised_pool :
    (scanTurn 3 0 0 (strayReceiver true)).waitList = [] ∧
      ((scanTurn 3 0 0 (strayReceiver true)).receiver 0).pair = some 5 ∧
      ((scanTurn 3 0 0 (strayReceiver false)).receiver 0).pair = none := by decide +kernel

/-- R131: a timer's expiry finds the mismatch of an entry whose disturbed state would not let the timer run. -/
theorem test_expiry_finds_lost_entry :
    ((clearHoldExpiry 0 (spoilt { openEntry [] with clearHold := some 30000 })).entry 0).state = .free ∧
      (clearHoldExpiry 0 (spoilt { openEntry [] with clearHold := some 30000 })).integrityAt = some 30000 := by
  decide +kernel

theorem witness_IncidentLost_timers :
    (spoilt { Entry.empty with emptyTimer := some 160000 }).running = true ∧
      ((spoilt { Entry.empty with emptyTimer := some 160000 }).entry 0).check = false ∧
      ((spoilt { Entry.empty with emptyTimer := some 160000 }).entry 0).state = .free ∧
      ((spoilt { openEntry [] with clearHold := some 30000 }).entry 0).state ≠ .clearing := by decide +kernel

/-- Pairs 3 and 5 held off, FAULTED in FOREIGN, both to 30 000 ms. -/
def twoHeldOff : State :=
  [(3 : Pair), 5].foldl (fun s p => s.modPair p fun r => { r with
    claim := .heldOff, claimTimer := some 30000, fault := .faulted, latched := { LatchedSet.none with foreign := true } }) base

/-- R84: of two hold-offs that end together the lower pair takes the first tag, though the higher one's expiry comes
first. -/
theorem test_holdOffs_together :
    (after (.holdOffExpiry 5) twoHeldOff).tagOf 3 = some (0, .foreign) ∧
      (after (.holdOffExpiry 5) twoHeldOff).tagOf 5 = some (1, .foreign) ∧
      (after (.holdOffExpiry 5) twoHeldOff).queue.map Item.kind = [.faultClaim 3, .faultClaim 5] ∧
      after (.holdOffExpiry 3) (after (.holdOffExpiry 5) twoHeldOff) = after (.holdOffExpiry 5) twoHeldOff := by
  decide +kernel

theorem witness_ClaimTimersAndPending_together :
    let first := ((({ twoHeldOff with now := 30000 } : State).setClaim 3 .unclaimed none).claimPending 3 .foreign).settle
    twoHeldOff.running = true ∧ (3 : Pair) < 5 ∧ (twoHeldOff.pair 3).claimTimer = some 30000 ∧
      (twoHeldOff.pair 5).claimTimer = some 30000 ∧ (twoHeldOff.pair 3).claim = .heldOff ∧
      (twoHeldOff.pair 5).claim = .heldOff ∧ (twoHeldOff.pair 3).fault = .faulted ∧ (twoHeldOff.pair 5).fault = .faulted ∧
      pairClass (twoHeldOff.pair 3).latched = some .foreign ∧ pairClass (twoHeldOff.pair 5).latched = some .foreign ∧
      (∀ r : Pair, r < 5 → r ≠ 3 → (twoHeldOff.pair r).claimTimer ≠ some 30000) ∧
      twoHeldOff.ownedEntry (twoHeldOff.pairKey 3 .foreign) = none ∧ first.running = true ∧
      (∀ r : Pair, r ≤ 5 → r ≠ 3 → first.pair r = twoHeldOff.pair r) ∧ first.tagOf 5 = twoHeldOff.tagOf 5 ∧
      first.ownedEntry (first.pairKey 5 .foreign) = none := by decide +kernel

/-- No wait of a pair below 3 ends with its own. -/
theorem witness_claimTimers_alone :
    (∀ s ∈ [deferred3, linked3, base.setClaim 3 .heldOff (some 30000)], ∀ q : Pair, q < 3 →
      (s.pair q).claimTimer ≠ some 30000) ∧
      (∀ q : Pair, q < 3 → ((heldOff3 (openEntry [member 5 2])).pair q).claimTimer ≠ some 30000) := by decide +kernel

/-- Entries 0 and 1 both due, under the keys of FOREIGN and of FEED_LOSS. -/
def bothDue : State :=
  let x := openEntry [member 5 2, member 5 3, member 6 1]
  let s := withEntry x
  { s with entries := s.entries.set 1 { x with key := some { key7 with cls := .feedLoss } } }

theorem witness_ConfirmationDueAndBegun_begun :
    (∀ s ∈ [(withEntry (openEntry [member 5 2, member 5 3, member 6 1])).callTest, bothDue.callTest],
      s.station = .active ∧ s.dueTest = true ∧ (∀ e : EntryNo, (s.entry e).check = true) ∧ s.due 0 = true) ∧
      (∀ i : EntryNo, (withEntry (openEntry [member 5 2, member 5 3, member 6 1])).due i = true → i = 0) ∧
      bothDue.due 1 = true ∧ (0 : EntryNo) ≠ 1 ∧
      (base.callTest.dueTest = true ∧ (∀ e : EntryNo, (base.callTest.entry e).check = true) ∧
        ∀ e : EntryNo, base.callTest.due e = false) ∧ base.dueTest = false ∧
      (confirming none [member 9 3]).bus.run = some ⟨0, key7, none⟩ ∧
      ((confirming none [member 9 3]).entry 0).check = true := by decide +kernel

/-- R122: the third member calls for the test that begins the confirmation, and so does the retry timer's expiry; a
member that only renews calls for none. -/
theorem test_confirmation_test_called :
    let two := withEntry (openEntry [member 5 3, member 6 1])
    let three := [member 5 2, member 5 3, member 6 1]
    let waits := withEntry { openEntry three with verdict := .untested, retryTimer := some 70000 }
    ((after (.faultClaimReceived claim7) two).entry 0).state = .confirming ∧
      (after (.faultClaimReceived claim7) two).dueTest = false ∧
      ((after (.confirmationRetryExpiry 0) waits).entry 0).state = .confirming ∧
      ((after (.faultClaimReceived claim7) (withEntry (openEntry three))).entry 0).state = .opened := by decide +kernel

/-- R122, R131: where no test is called for, an entry whose check fails is not read: a LOCK, an UNLOCK, a lapse and the
end of the restraint leave it as it stands; a join under another key finds it. -/
theorem test_no_test_no_loss :
    let failing := fun s : State => { s with entries := s.entries.set 1 { openEntry [] with check := false } }
    let two := failing (withEntry (openEntry [member 5 3, member 6 1]))
    (∀ t ∈ [after (.lockReceived (from_ 9 .lock) false) (failing base), after (.unlockReceived (from_ 9 .unlock)) (failing base),
        after .viewLapse (failing (heldBy 9)),
        after .restraintExpiry (failing { base with bus := { base.bus with restraint := some 21000 } })],
      (t.entry 1).state = .opened ∧ (t.entry 1).check = false ∧ t.integrityAt = none) ∧
      ((after (.faultClaimReceived claim7) two).entry 1).state = .free ∧
      (after (.faultClaimReceived claim7) two).integrityAt = some 20000 := by decide +kernel

/-- A calibrating holder with the run of entry 0 waiting, and an uplink test of pair 3. -/
def calibratingRun (test : Bool) : State :=
  confirming (some 50000) [member 9 3] (if test then testing (.waiting 50000) calibrating else calibrating)

theorem witness_UnitReadings_run :
    (∀ test ∈ [false, true],
      let s := calibratingRun test
      let unit := { s.unit with
        source := false, selector := .none, measurement := none, readingDue := none, vCal := some 3599, failed := true }
      s.running = true ∧ s.unit.selector = .cal ∧ s.unit.readingDue = some 20200 ∧
        s.bus.run = some ⟨0, key7, some 50000⟩ ∧
        (State.concludeRun { s with now := 20200, unit := unit } .unitFailed).running = true) ∧
      testWaiting (calibratingRun false).bus = false ∧
      (calibratingRun true).bus.test = some ⟨3, .waiting 50000⟩ := by decide +kernel

/-- R113, R144: a run that waits in a calibration is abandoned with an UNLOCK, and the uplink test waits on. -/
theorem test_abandon_in_calibration :
    ((calibratingRun true).abandonRun 0).settle.queue.map Item.kind = [.unlock] ∧
      ((calibratingRun true).abandonRun 0).settle.bus.test = some ⟨3, .waiting 50000⟩ ∧
      ((calibratingRun true).abandonRun 0).settle.bus.unlockDue = false := by decide +kernel

theorem witness_RunAndTestProceed_waiting :
    (confirming (some 50000)).bus.view ≠ .mine ∧ (calibratingRun false).bus.view = .mine ∧
      (calibratingRun false).bus.run = some ⟨0, key7, some 50000⟩ := by decide +kernel

theorem witness_ControllerActs_oneStep :
    base.nextStep = none ∧ mine.nextStep = some (mine.place .unlock) ∧ (mine.place .unlock).nextStep = none ∧
      (let s := { calibratingRun true with bus := { (calibratingRun true).bus with run := none, unlockDue := true } }
       s.station = .active ∧ s.dueTest = false ∧ s.hasItem .testBus = false ∧ s.bus.view = .mine ∧ s.unit.measurement = none ∧ s.bus.remote = none ∧
         s.bus.releaseWait = none ∧ s.unit.selector = .cal) := by decide +kernel

theorem witness_Contention_header :
    (∀ x ∈ [(ItemKind.quiet 9 3 .foreign, Body.quiet 3 true .foreign), (.release 9 3, .release 3),
        (.deferredReply 0 5 6, .deferredReply 1 6 key7 true), (.testResult, .testResult 3 .busy []), (.lock false, .lock),
        (.leave 3 key7, .leave key7 3)],
      (sends x.1 x.2).inFlight = some (sent x.1 x.2) ∧ (sent x.1 x.2).content = some x.2) ∧
      (let s := base.setSlot 0 (some ⟨.park 3, 15, some .done, some (-1), none, false⟩)
       let b := Body.reply (.park 3) .done (.previousWord (-1))
       (sends (.reply 0) b s).inFlight = some (sent (.reply 0) b) ∧
         ((sends (.reply 0) b s).slot 0).map ReplySlot.sender = some 15) := by decide +kernel

/-- R95, section 6.1: a short frame without body bytes is 34 cells long, a long one with 15 body bytes 164. -/
theorem test_frame_lengths :
    (sentFrame 4 15 2 .lock).cells.length = 34 ∧
      (frameCells (.long .lineEvents) { from_ 5 .unlock with body := List.replicate 15 0 } noCells).length = 164 := by
  decide +kernel

/-- R100, R179: a frame begins with a 0 cell, and ACK driven in the second of the last five cells reads 0. -/
theorem test_frame_ends :
    (frameCells (.short .lock) (from_ 5 .lock) ack).head? = some false ∧
      (frameCells (.short .lock) (from_ 5 .lock) ack).drop 29 = [true, false, true, true, true] := by decide +kernel

/-- R103: an UNLOCK is placed before a LEAVE, and a second LEAVE behind it. -/
theorem witness_StepKeepsQueue_placed :
    let s := queued (.leave 3 key7)
    s.QueueOk ∧ s.running = true ∧ (∀ y ∈ s.queue, itemRef y.kind ≠ itemRef .unlock) ∧
      (s.place .unlock).queue.map Item.kind = [.unlock, .leave 3 key7] ∧
      (s.place (.leave 5 key7)).queue.map Item.kind = [.leave 3 key7, .leave 5 key7] ∧
      (∃ y ∈ s.queue, itemRef y.kind = itemRef (.leave 3 key7)) ∧ State.reset.running = true ∧
      (pinAssert base).running = false := by decide +kernel

/-- Pair 3 with a record that holds receiver 0, and with one that stands on the wait list. -/
def withReceiver (r : PairRecord) (waiting : List Waiting := []) : State :=
  { (base.lend 0 3).setPair 3 { r with receiver := some 0 } with waitList := waiting }

def onWaitList (r : PairRecord) : State := { with3 r with waitList := [⟨5, 17500⟩, ⟨3, 19000⟩] }

/-- R42, R59, R60, R62: the first pulse digit of a pair that holds a receiver sends it IDLE, or to pair 5, 2.5 s
waiting, with RECEIVER_LATE 2; a pair that waits leaves the list. -/
theorem test_pulse_digit_and_pool :
    let r := { inState .offHook 29 with pulseCount := 4 }
    let served := after (.scanTurn 3 (-20) (-60)) (withReceiver r [⟨5, 17500⟩])
    ((after (.scanTurn 3 (-20) (-60)) (withReceiver r)).receiver 0).state = .idle ∧
      (served.receiver 0).pair = some 5 ∧ (served.pair 5).events = [⟨.receiverLate, 2, 0, 20000⟩] ∧
      (served.pair 3).receiver = none ∧
      (after (.scanTurn 3 (-20) (-60)) (onWaitList r)).waitList = [⟨5, 17500⟩] := by decide +kernel

/-- A digit about to be complete, a lockout timer about to end and a break about to hang up, each of a pair that holds a
receiver, with pair 5 waiting and with none, and of one that waits itself. -/
theorem witness_OffHookTurnsAndDigits_receiver :
    (∀ r ∈ [{ inState .offHook 29 with pulseCount := 1 }, { inState .offHook 29 with pulseCount := 11 },
        { inState .offHook with lockoutTimer := 29995 }, inState .inBreak 0 160],
      (∀ s ∈ [withReceiver r, withReceiver r [⟨5, 17500⟩], onWaitList r],
        s.samples 3 ∧ (s.pair 3).freeze = .unfrozen) ∧
      (∀ s ∈ [withReceiver r, withReceiver r [⟨5, 17500⟩]],
        (s.pair 3).receiver = some 0 ∧ (s.receiver 0).pair = some 3 ∧ ∀ w ∈ s.waitList, w.pair ≠ 3) ∧
      (withReceiver r).waitList = [] ∧
      (withReceiver r [⟨5, 17500⟩]).waitList = { pair := 5, since := 17500 } :: [] ∧ (5 : Pair) ≠ 3 ∧
      ((onWaitList r).pair 3).receiver = none) ∧
    (turned { inState .offHook 29 with pulseCount := 1, receiver := some 0 } (-20) (-60)).classMemory = .closed ∧
    (turned { inState .inBreak 0 160 with receiver := some 0 } (-8) (-196)).classMemory = .openLoop := by decide +kernel

/-- R134, R138, R144: a holder that hears a QUIET or a RELEASE at itself loses the lock, its view HELD, and then
answers. -/
theorem test_holder_quieted :
    let q := after (.quietReceived (from_ 9 (.quiet 3 false .feedLoss))) mine
    let r := after (.releaseReceived (from_ 9 (.release 3))) (mine inAccess3)
    q.bus.view = .held 9 20000 ∧ q.unit.connected = false ∧ q.cells = ack ∧ (q.pair 3).freeze = .access ∧
      r.bus.view = .held 9 20000 ∧ r.bus.restraint = some 21000 ∧ r.cells = ack ∧ r.bus.access = none := by decide +kernel

theorem witness_AccessAtTarget_mine :
    let lost := fun (s : State) => ({ s with abandoned := false, cells := noCells } : State).loseLock (.held 9 s.now)
    let failing := spoilt (openEntry [member 5 2]) { running0 [member 9 3] with integrityAt := some 15000 }
    (∀ s ∈ [mine, mine inAccess3, ownMeasured true, failing],
      s.bus.view = .mine ∧ s.hears (.long .quiet) (from_ 9 (.quiet 3 true .foreign)) ∧
        s.hears (.long .release) (from_ 9 (.release 3))) ∧
      (from_ 9 (.quiet 3 true .foreign)).target = mine.straps.station ∧
      (from_ 9 (.release 3)).target = mine.straps.station ∧
      bodyOf (.long .quiet) (from_ 9 (.quiet 3 true .foreign)).body = some (.quiet 3 true .foreign) ∧
      bodyOf (.long .release) (from_ 9 (.release 3)).body = some (.release 3) ∧
      (lost failing).running = false ∧ (lost mine).running = true ∧ (lost mine).bus.access = none ∧
      ((lost mine).pair 3).freeze = .unfrozen ∧ (lost (mine inAccess3)).bus.access = some ⟨3, 9, 20000⟩ ∧
      (lost (ownMeasured true)).bus.access = none ∧ toPair 3 = some 3 ∧ mine.service 3 ≠ .absent := by decide +kernel

/-- R106, R109: a LINE EVENTS frame with STALL seen is busy, with ACK and without: its event stays, and its item counts
no attempt and waits 40 ms, the manual's figure for station 4 in round 1. -/
theorem test_lineEventsOutcome_stall :
    ∀ c ∈ [{ ack with stall := true }, { noCells with stall := true }],
      let s := after (.lineEventsOutcome (.sent c)) (sends (.lineEvents 3) eventsBody
        (with3 (PairRecord.initial.append 0 .offhook 0)))
      (s.pair 3).events.length = 1 ∧
        s.queue.map (fun x => (x.attempts, x.round, x.backoff, x.content)) = [(0, 1, some 20040, none)] := by decide

/-- R16: no ACK and no STALL is a failed attempt: nothing removed, counted, eligible at once. -/
theorem test_lineEventsOutcome_unacked :
    let s := after (.lineEventsOutcome (.sent noCells)) (sends (.lineEvents 3) eventsBody
      (with3 (PairRecord.initial.append 0 .offhook 0)))
    (s.pair 3).events.length = 1 ∧ s.queue.map Item.backoff = [none] ∧ s.queue.map Item.attempts = [1] := by decide

theorem witness_LineEventsFate_stall :
    { ack with stall := true }.void = false ∧ { ack with stall := true }.ack = true ∧
      { noCells with stall := true }.void = false ∧ { noCells with stall := true }.ack = false ∧
      noCells.ack = false ∧ noCells.stall = false ∧
      (sends (.lineEvents 3) eventsBody).sending (sent (.lineEvents 3) eventsBody) := by decide

/-- R107, R128, R143, R162, R171: at the fourth failure a closing report goes and its entry is empty, a slot is freed,
the restart that its mark asks for is made, and the test slot is freed with the last accepted time as it was. -/
theorem test_dropped_items :
    let fourth := fun (k : ItemKind) (b : Body) (s : State) => sendsAs { sent k b with attempts := 3 } s
    let asked := base.setSlot 0 (some ⟨.restart, 15, some .accepted, none, none, true⟩)
    ((after (.incidentOutcome .collision) (fourth (.incident 0) (.incident key7 .closed .lost false 0 [])
      (withEntry { Entry.empty with key := some key7, closing := some ⟨.lost, false⟩ }))).entry 0).key = none ∧
    (after (.replyOutcome (.sent noCells)) (fourth (.reply 0) (.reply .restart .accepted .nothing)
      (base.setSlot 0 (some ⟨.restart, 15, some .denied, none, none, false⟩)))).slot 0 = none ∧
    (after (.replyOutcome (.sent noCells)) (fourth (.reply 0) (.reply .restart .accepted .nothing) asked)).station =
      .listenIn ∧
    (let s := after (.testResultOutcome (.sent { noCells with void := true }))
      (fourth .testResult (.testResult 3 .busy []) (mine (testing (.ended .busy []))))
     s.bus.test = none ∧ s.bus.lastAccepted = some 19000) := by decide +kernel

theorem witness_DeliveredItemsLeave_dropped :
    (∀ x ∈ [(ItemKind.leave 3 key7, Body.leave key7 3), (.incident 0, .incident key7 .opened .unjudged false 1 []),
        (.reply 0, .reply .restart .done .nothing), (.testResult, .testResult 3 .busy [])],
      let y := { sent x.1 x.2 with attempts := 3 }
      (sendsAs y).sending y ∧ y.kind = x.1 ∧ 3 ≤ y.attempts) ∧
      { noCells with void := true }.void = true ∧ noCells.ack = false ∧ noCells.stall = false := by decide

/-- A queue whose first eligible item is the INCIDENT of entry 0, whose check fails. -/
def incidentDue (x : Entry) (s : State := base) : State := queued (.incident 0) (spoilt x s)

/-- R128, R131: it is built from the closing report LOST. -/
theorem test_incident_of_lost_entry :
    (after .contentionStart (incidentDue (openEntry [member 5 2]))).queue.map Item.content =
      [some (.incident key7 .closed .lost false 0 [])] := by decide +kernel

/-- Log entry 59: a FREE entry lost with no closing report has its INCIDENT item withdrawn, so the TEST RESULT behind it
is sent; an item whose frame is out is marked, and goes with its outcome. -/
theorem test_incident_of_lost_free_entry :
    let s := { incidentDue Entry.empty with queue := [newItem (.incident 0), newItem .testResult] }
    let out := sends (.incident 0) (.incident key7 .opened .unjudged false 1 []) (spoilt Entry.empty)
    (after .contentionStart s).queue.map Item.kind = [.testResult] ∧
      (out.loseEntry 0).queue.map Item.withdrawn = [true] ∧
      (after (.incidentOutcome .collision) (out.loseEntry 0)).queue = [] := by decide +kernel

/-- An entry whose check fails and for which the key store holds no key. -/
def unnamed (x : Entry) (s : State := base) : State := { s with entries := s.entries.set 0 { x with check := false } }

/-- Log entry 61: an entry lost with no key in the key store is plain FREE whatever its state reads, nothing is reported,
and its INCIDENT item is withdrawn. -/
theorem test_incident_of_unnamed_entry :
    ∀ x ∈ [openEntry [member 5 2], { Entry.empty with closing := some ⟨.confirmed, true⟩ }],
      ((unnamed x).loseEntry 0).entry 0 = Entry.empty ∧ ((unnamed x).loseEntry 0).queue = [] ∧
        ((unnamed x).loseEntry 0).integrityAt = some 20000 ∧
        (after .contentionStart { unnamed x with queue := [newItem (.incident 0), newItem .testResult] }).queue.map
          Item.kind = [.testResult] := by decide +kernel

theorem witness_IncidentLost_unnamed :
    (unnamed (openEntry [member 5 2])).running = true ∧ (unnamed (openEntry [member 5 2])).integrityAt = none ∧
      (unnamed (openEntry [member 5 2])).keyStore.get 0 = none ∧
      ((unnamed (openEntry [member 5 2])).entry 0).state ≠ .free ∧
      (spoilt { Entry.empty with closing := some ⟨.confirmed, true⟩ }).keyStore.get 0 = some key7 ∧
      ((spoilt { Entry.empty with closing := some ⟨.confirmed, true⟩ }).entry 0).state = .free := by decide +kernel

theorem witness_IncidentLost_called :
    (spoilt (openEntry [member 5 2])).callTest.station = .active ∧
      (spoilt (openEntry [member 5 2])).callTest.dueTest = true ∧ (spoilt (openEntry [member 5 2])).dueTest = false ∧
      ((spoilt (openEntry [member 5 2])).callTest.entry 0).check = false := by decide +kernel

theorem witness_IncidentLost_built :
    let lost := fun s : State => ((({ s with abandoned := false } : State).loseEntry 0).settle)
    let failing := { incidentDue (openEntry [member 5 2]) with integrityAt := some 15000 }
    (∀ s ∈ [incidentDue (openEntry [member 5 2]), incidentDue Entry.empty, failing],
      s.station = .active ∧ s.inFlight = none ∧ s.queue.find? s.eligible = some (newItem (.incident 0)) ∧
        (s.entry 0).check = false) ∧
      (newItem (.incident 0)).kind = .incident 0 ∧ (lost failing).running = false ∧
      (∀ s ∈ [incidentDue (openEntry [member 5 2]), incidentDue Entry.empty],
        (lost s).running = true ∧ ((lost s).entry 0).state = .free) ∧
      ((lost (incidentDue (openEntry [member 5 2]))).entry 0).key = some key7 ∧
      ((lost (incidentDue (openEntry [member 5 2]))).entry 0).closing = some ⟨.lost, false⟩ ∧
      ((lost (incidentDue Entry.empty)).entry 0).closing = none := by decide +kernel

/-- R181: a pair's record view is 11 bytes in part 0 and 10 in part 1, and an incident view of six members 14. -/
theorem test_reply_lengths :
    [bodyBytes (.reply (.queryPair 3 0) .done (.line (base.lineView 3))),
      bodyBytes (.reply (.queryPair 3 1) .done (.fault (base.faultView 3))),
      bodyBytes (.reply (.queryIncident key7 0) .done (.incident .opened .unjudged 6 0 0
        (List.replicate 6 ⟨5, 2, false⟩)))].map List.length = [11, 10, 14] := by decide +kernel

/-- R163, R181: REPLY, DONE, PARK of pair 3 with the previous word −1, written out bit by bit. -/
theorem test_reply_bits :
    bodyBytes (.reply (.park 3) .done (.previousWord (-1))) = [0b01100000#8, 0b01111111#8, 0b11100000#8] := by decide

theorem witness_BodyRoundTrip_replies :
    (∀ word ∈ [(-128 : Int), 127], View.fits (.previousWord word)) ∧
      View.answers (.park 3) .done (.previousWord (-1)) ∧ View.answers (.park 3) .denied .nothing ∧
      View.answers .restart .done .nothing ∧ View.answers (.queryPair 23 0) .done (.line (base.lineView 23)) ∧
      View.fits (.line (base.lineView 23)) ∧ View.answers (.queryPair 23 1) .done (.fault (base.faultView 23)) ∧
      View.fits (.fault (base.faultView 23)) ∧ View.answers (.queryPair 24 0) .done (.identity base.straps) ∧
      View.answers (.queryPair 25 0) .done (.condition true false true 15) ∧ View.fits (.condition true false true 15) ∧
      View.answers (.queryPair 26 0) .done (.testBus mine.busView) ∧
      View.answers (.queryPair 26 1) .done (.lastMeasured none) ∧ View.fits (.lastMeasured none) ∧
      View.fits (.lastMeasured (some ⟨3, true, [⟨.tip, -8192, none⟩, ⟨.ring, 8191, none⟩,
        ⟨.loop, 0, some ⟨100, 0, 65535, .good⟩⟩]⟩)) ∧
      View.answers (.queryPair 27 0) .done (.tonePool (List.replicate 4 (.idle, none)) 0 []) ∧
      View.fits (.tonePool (List.replicate 4 (.idle, none)) 31 (List.replicate 6 (5, 15))) ∧
      View.answers (.queryIncident key7 0) .done (.incident .opened .unjudged 6 0 0 []) ∧
      View.fits (.incident .closed .lost 63 255 15 (List.replicate 6 ⟨5, 2, true⟩)) := by
  refine ⟨?_, ⟨rfl, 3, .inl rfl⟩, .inl (by decide), .inr (.inr (.inr rfl)), ⟨rfl, 23, by decide, rfl⟩, ?_,
    ⟨rfl, 23, by decide, rfl⟩, ?_, ⟨rfl, rfl⟩, ⟨rfl, rfl⟩, ?_, ⟨rfl, rfl⟩, ⟨rfl, rfl⟩, nofun, ?_, ⟨rfl, rfl⟩, ?_,
    ⟨rfl, _, _, rfl⟩, ?_⟩ <;> simp [View.fits] <;> decide +kernel

theorem witness_BodyRoundTrip_busView : View.fits (.testBus mine.busView) := by
  have view : mine.busView.view = .mine 1 := by decide +kernel
  have vCal : mine.busView.vCal = some 4000 := by decide +kernel
  refine ⟨fun h a e => ?_, fun a e => ?_, by decide +kernel, by decide +kernel, fun x e => ?_⟩
  · rw [view] at e; cases e
  · rw [view] at e; cases e; decide
  · rw [vCal] at e; cases e; decide

theorem witness_BodyRoundTrip_fields :
    let fs : List Field := [(4, 2), (5, 31), (2, 3)]
    (∀ y ∈ fs, y.2 < 2 ^ y.1) ∧ fs[1]? = some (5, 31) ∧ fs[2]? = some (2, 3) := by decide

theorem witness_StepKeepsClaims :
    base.QueueOk ∧ base.ClaimsOk ∧ (base.claimPending 3 .foreign).QueueOk ∧ (base.claimPending 3 .foreign).ClaimsOk ∧
      deferred3.ClaimsOk := by
  refine ⟨?_, ?_, ?_, ?_, ?_⟩ <;> decide +kernel

theorem witness_StepKeepsRun : base.RunOk ∧ (confirming (some 50000)).RunOk := by
  refine ⟨?_, ?_⟩ <;> decide +kernel

theorem witness_invariants :
    base.RecordsOk ∧ base.EntriesOk ∧ base.QueueOk ∧ base.HolderOk ∧ base.AccessOk ∧ base.PoolOk ∧ base.ServicesOk ∧
      mine.HolderOk ∧ inAccess3.AccessOk ∧ inAccess3.RecordsOk := by
  refine ⟨?_, ?_, ?_, ?_, ?_, ?_, ?_, ?_, ?_, ?_⟩ <;> decide +kernel

theorem witness_step : step { base with pending := [.resetPinAssert] } = .next (pinAssert base) := rfl

theorem witness_BodyRoundTrip :
    Body.fits eventsBody ∧ Body.fits (.quiet 3 false .feedLoss) ∧ Body.fits claimBody :=
  ⟨by simp [Body.fits, eventsBody], fun _ => rfl, trivial⟩

end Sys2Proof.Tests
end

section
/-! PROOFS. One pair record: the event list under an append and a removal (R9, R10, R15, R17), and that the loop
supervisor, the ringing hold and the fault integrator keep a record within its bounds and leave its freeze cause to the
feed freeze alone. -/

namespace Sys2Proof.Machine

/-! ### The event list -/

/-- An append writes the list, its numbering and the two marks of a lost event, and no other field (R9, R10). -/
theorem PairRecord.append_eq (r : PairRecord) (now : Nat) (t : EventType) (v : Nat) :
    r.append now t v = { r with
      events := (r.append now t v).events, nextSeq := (r.append now t v).nextSeq
      gap := (r.append now t v).gap, discard := (r.append now t v).discard } := by
  unfold PairRecord.append; split <;> rfl

/-- One more event under the next number leaves the list numbered in one run (R9). -/
theorem seqsEndAt_snoc {next : BitVec 4} {l : List Event} (h : seqsEndAt next l = true) {e : Event}
    (he : e.seq = next) :
    seqsEndAt (next + 1) (l ++ [e]) = true := by
  induction l with
  | nil => simp [seqsEndAt, he]
  | cons x rest ih =>
    simp only [seqsEndAt, Bool.and_eq_true, beq_iff_eq, List.cons_append] at h ⊢
    refine ⟨?_, ih h.2⟩
    rw [← h.1]
    simp only [List.length_append, List.length_singleton, BitVec.ofNat_add, ← BitVec.add_assoc]
    rfl

/-- The events left after the oldest are removed are numbered in one run still (R9). -/
theorem seqsEndAt_drop {next : BitVec 4} {l : List Event} (h : seqsEndAt next l = true) (n : Nat) :
    seqsEndAt next (l.drop n) = true := by
  induction l generalizing n with
  | nil => simpa using h
  | cons x rest ih =>
    cases n with
    | zero => exact h
    | succ n => exact ih (by simp only [seqsEndAt, Bool.and_eq_true] at h; exact h.2) n

theorem PairRecord.EventsOk.append {r : PairRecord} (h : r.EventsOk) (now : Nat) (t : EventType) {v : Nat}
    (hv : v ≤ 15) : (r.append now t v).EventsOk := by
  obtain ⟨hlen, hseq, hval⟩ := h
  unfold PairRecord.append
  split
  · refine ⟨by simp; omega, seqsEndAt_snoc hseq rfl, fun e he => ?_⟩
    rcases List.mem_append.1 he with he | he
    · exact hval e he
    · obtain rfl := List.mem_singleton.1 he
      exact hv
  · exact ⟨hlen, hseq, hval⟩

theorem PairRecord.EventsOk.drop {r : PairRecord} (h : r.EventsOk) (n : Nat) :
    PairRecord.EventsOk { r with events := r.events.drop n } := by
  obtain ⟨hlen, hseq, hval⟩ := h
  exact ⟨by simp; omega, seqsEndAt_drop hseq n, fun e he => hval e (List.mem_of_mem_drop he)⟩

theorem PairRecord.Ok.append {r : PairRecord} (h : r.Ok) (now : Nat) (t : EventType) {v : Nat} (hv : v ≤ 15) :
    (r.append now t v).Ok := by
  obtain ⟨hev, hrange, hlatch, hstale⟩ := h
  refine ⟨hev.append now t hv, ?_⟩
  rw [PairRecord.append_eq]
  exact ⟨hrange, hlatch, hstale⟩

@[simp] theorem PairRecord.append_freeze (r : PairRecord) (now : Nat) (t : EventType) (v : Nat) :
    (r.append now t v).freeze = r.freeze := by rw [PairRecord.append_eq]

@[simp] theorem PairRecord.append_latched (r : PairRecord) (now : Nat) (t : EventType) (v : Nat) :
    (r.append now t v).latched = r.latched := by rw [PairRecord.append_eq]

@[simp] theorem PairRecord.append_acc (r : PairRecord) (now : Nat) (t : EventType) (v : Nat) :
    (r.append now t v).acc = r.acc := by rw [PairRecord.append_eq]

/-! ### The loop supervisor (R35 to R53) -/

theorem digitEvent_le {n : Nat} (h : n ≤ 15) : (digitEvent n).2 ≤ 15 := by
  unfold digitEvent; (repeat' split) <;> simp <;> omega

theorem enterLockout_ok {r : PairRecord} (h : r.Ok) (now : Nat) : (enterLockout now r).Ok := by
  obtain ⟨hev, hrange, hlatch, hstale⟩ := h
  unfold enterLockout
  rw [PairRecord.append_eq]
  exact ⟨hev.append now .lockout (v := 0) (by decide), by dsimp only [PairRecord.RangesOk]; omega, hlatch, hstale⟩

theorem offHookClosed_ok {r : PairRecord} (h : r.Ok) (now : Nat) : (offHookClosed now r).1.Ok := by
  obtain ⟨hev, hrange, hlatch, hstale⟩ := h
  unfold offHookClosed
  dsimp only
  split
  · rw [PairRecord.append_eq]
    exact ⟨hev.append now (digitEvent r.pulseCount).1 (digitEvent_le hrange.1),
      by dsimp only [PairRecord.RangesOk]; omega, hlatch, hstale⟩
  · split
    · exact ⟨hev, by dsimp only [PairRecord.RangesOk]; omega, hlatch, hstale⟩
    · have counted : PairRecord.Ok { r with
          closedRun := min 30 (r.closedRun + 1), lockoutTimer := min 30000 (r.lockoutTimer + 5) } :=
        ⟨hev, by dsimp only [PairRecord.RangesOk]; omega, hlatch, hstale⟩
      split
      · exact enterLockout_ok counted now
      · exact counted

theorem endBreak_ok {r : PairRecord} (h : r.Ok) (now : Nat) : (endBreak now r).1.Ok := by
  obtain ⟨hev, hrange, hlatch, hstale⟩ := h
  unfold endBreak
  split
  · exact offHookClosed_ok (r := { r with loop := .offHook, breakLength := 0 })
      ⟨hev, by dsimp only [PairRecord.RangesOk]; omega, hlatch, hstale⟩ now
  · split
    · exact ⟨hev, by dsimp only [PairRecord.RangesOk]; omega, hlatch, hstale⟩
    · rw [PairRecord.append_eq]
      exact ⟨hev.append now .flash hrange.1, by dsimp only [PairRecord.RangesOk]; omega, hlatch, hstale⟩

theorem seize_ok {r : PairRecord} (h : r.Ok) (now : Nat) : (seize now r).Ok := by
  obtain ⟨hev, hrange, hlatch, hstale⟩ := h
  unfold seize
  rw [PairRecord.append_eq]
  exact ⟨hev.append now .offhook (v := 0) (by decide), by dsimp only [PairRecord.RangesOk]; omega, hlatch, hstale⟩

theorem beginBreak_ok {r : PairRecord} (h : r.Ok) : (beginBreak r).Ok := by
  obtain ⟨hev, hrange, hlatch, hstale⟩ := h
  exact ⟨hev, by dsimp only [PairRecord.RangesOk, beginBreak]; omega, hlatch, hstale⟩

theorem hangUp_ok {r : PairRecord} (h : r.Ok) (now : Nat) : (hangUp now r).Ok := by
  obtain ⟨hev, hrange, hlatch, hstale⟩ := h
  unfold hangUp
  rw [PairRecord.append_eq]
  refine ⟨hev.append now .onhook (v := 0) (by decide), by dsimp only [PairRecord.RangesOk]; omega, ?_, hstale⟩
  dsimp only [PairRecord.LatchesOk]
  split <;> exact hlatch

/-- A row of the loop table keeps the record's bounds (section 3.9, R37 to R47). -/
theorem loopMachine_ok {r : PairRecord} (h : r.Ok) (now : Nat) (closed : Bool) : (loopMachine now r closed).1.Ok := by
  obtain ⟨hev, hrange, hlatch, hstale⟩ := id h
  unfold loopMachine
  split
  case h_3 => split; exacts [seize_ok h now, ⟨hev, by dsimp only [PairRecord.RangesOk]; omega, hlatch, hstale⟩]
  case h_5 => exact offHookClosed_ok h now
  case h_6 => exact beginBreak_ok h
  case h_7 => split; exacts [⟨hev, by dsimp only [PairRecord.RangesOk]; omega, hlatch, hstale⟩, endBreak_ok h now]
  case h_8 => split; exacts [hangUp_ok h now, ⟨hev, by dsimp only [PairRecord.RangesOk]; omega, hlatch, hstale⟩]
  case h_9 => exact h
  case h_10 => exact beginBreak_ok h
  all_goals exact ⟨hev, by dsimp only [PairRecord.RangesOk]; omega, hlatch, hstale⟩

theorem feedFreeze_ok {r : PairRecord} (h : r.Ok) (now : Nat) : (feedFreeze now r).Ok := by
  obtain ⟨hev, hrange, hlatch, -⟩ := h
  have hev' := hev.append now .feedLost (v := 0) (by decide)
  unfold feedFreeze
  rw [PairRecord.append_eq]
  dsimp only
  split <;> exact ⟨hev', by dsimp only [PairRecord.RangesOk]; omega, hlatch, rfl⟩

/-- A feed freeze begins on a record that is not frozen (R52). -/
theorem countDead_ok {r : PairRecord} (h : r.Ok) (now : Nat) (cls : SampleClass) : (countDead now r cls).Ok := by
  obtain ⟨hev, hrange, hlatch, hstale⟩ := id h
  unfold countDead
  split
  · split
    · exact feedFreeze_ok h now
    · exact ⟨hev, by dsimp only [PairRecord.RangesOk]; omega, hlatch, hstale⟩
  · exact ⟨hev, by dsimp only [PairRecord.RangesOk]; omega, hlatch, hstale⟩

theorem countBack_ok {r : PairRecord} (h : r.Ok) (now : Nat) (cls : SampleClass) : (countBack now r cls).Ok := by
  obtain ⟨hev, hrange, hlatch, hstale⟩ := h
  unfold countBack
  split
  · exact ⟨hev, by dsimp only [PairRecord.RangesOk]; omega, hlatch, hstale⟩
  · split
    · rw [PairRecord.append_eq]
      exact ⟨hev.append now .feedBack (v := 0) (by decide), by dsimp only [PairRecord.RangesOk]; omega, hlatch, rfl⟩
    · exact ⟨hev, by dsimp only [PairRecord.RangesOk]; omega, hlatch, hstale⟩

theorem sample_ok {r : PairRecord} (h : r.Ok) (vTip vRing : Int) : (r.sample vTip vRing).Ok := h

/-- One class handed over keeps the record's bounds (R36). -/
theorem loopSample_ok {r : PairRecord} (h : r.Ok) (now : Nat) (cls : SampleClass) : (loopSample now r cls).1.Ok := by
  unfold loopSample
  split
  · exact countDead_ok (loopMachine_ok h now _) now cls
  · exact countBack_ok h now cls
  · exact h

/-- The ringing hold at a close keeps the record's bounds (R48 to R50). -/
theorem ringingClose_ok {r : PairRecord} (h : r.Ok) (i : IntervalRecord) : (ringingClose r i).1.Ok := by
  obtain ⟨hev, hrange, hlatch, hstale⟩ := id h
  have rung : PairRecord.Ok (if r.loop == .seizePending then { r with loop := .onHook, closedRun := 0 } else r) := by
    split
    · exact ⟨hev, by dsimp only [PairRecord.RangesOk]; omega, hlatch, hstale⟩
    · exact h
  unfold ringingClose
  split
  · exact h
  split
  · split
    · exact ⟨hev, by dsimp only [PairRecord.RangesOk]; omega, hlatch, hstale⟩
    · obtain ⟨hev', hrange', hlatch', hstale'⟩ := rung
      exact ⟨hev', by dsimp only [PairRecord.RangesOk]; omega, hlatch', hstale'⟩
  · split
    · split <;> exact ⟨hev, by dsimp only [PairRecord.RangesOk]; omega, hlatch, hstale⟩
    · exact h

theorem ringingClose_freeze (r : PairRecord) (i : IntervalRecord) : (ringingClose r i).1.freeze = r.freeze := by
  unfold ringingClose; dsimp only; (repeat' split) <;> rfl

/-! ### The fault integrator (R74 to R83) -/

theorem riseOne_le (n : Nat) : riseOne n ≤ 15 := by unfold riseOne; omega

theorem feedLossStep_le {n : Nat} (h : n ≤ 15) (i : IntervalRecord) : feedLossStep n i ≤ 15 := by
  have := riseOne_le n; unfold feedLossStep; split <;> omega

theorem foreignStep_le {n : Nat} (h : n ≤ 15) (i : IntervalRecord) : foreignStep n i ≤ 15 := by
  have := riseOne_le n; unfold foreignStep; split <;> omega

theorem groundLeakStep_le {n : Nat} (h : n ≤ 15) (i : IntervalRecord) : groundLeakStep n i ≤ 15 := by
  have := riseOne_le n; unfold groundLeakStep; (repeat' split) <;> omega

/-- A class latched after its integrator has moved has an integrator of at least 1 (R79). -/
theorem latchStep_pos {was : Bool} {n : Nat} (h : latchStep was n = true) : 1 ≤ n := by
  cases was <;> simp [latchStep] at h <;> omega

theorem learned_le (dref16 mean : Nat) : learned dref16 mean ≤ 65520 := by
  have held (v : Int) : (clampTo 0 65520 v).toNat ≤ 65520 := by unfold clampTo; omega
  unfold learned
  dsimp only
  split_ifs <;> simp [held]

theorem learn_le {d : Nat} (h : d ≤ 65520) (groundLeak : Nat) (i : IntervalRecord) : learn d groundLeak i ≤ 65520 := by
  unfold learn; (repeat' split) <;> simp [learned_le, h]

theorem evaluateFault_ok {r : PairRecord} (h : r.Ok) (before after : Option FaultClass) (weighed : Bool) :
    (evaluateFault r before after weighed).1.Ok := by
  obtain ⟨hev, hrange, hlatch, hstale⟩ := id h
  unfold evaluateFault
  (repeat' split) <;> exact ⟨hev, by dsimp only [PairRecord.RangesOk]; omega, hlatch, hstale⟩

theorem evaluateFault_freeze (r : PairRecord) (before after : Option FaultClass) (weighed : Bool) :
    (evaluateFault r before after weighed).1.freeze = r.freeze := by
  unfold evaluateFault; (repeat' split) <;> rfl

theorem integrateClose_ok {r : PairRecord} (h : r.Ok) (i : IntervalRecord) : (integrateClose r i).1.Ok := by
  unfold integrateClose
  split
  · exact h
  obtain ⟨hev, ⟨hpulse, hclosed, hbreak, hlock, hdead, hback, hquiet, hfeed, hforeign, hground, hrec, hdref⟩, -,
    hstale⟩ := h
  apply evaluateFault_ok
  exact ⟨hev, ⟨hpulse, hclosed, hbreak, hlock, hdead, hback, hquiet, feedLossStep_le hfeed i,
    foreignStep_le hforeign i, groundLeakStep_le hground i, hrec, learn_le hdref _ i⟩,
    ⟨latchStep_pos, latchStep_pos, latchStep_pos⟩, hstale⟩

theorem integrateClose_freeze (r : PairRecord) (i : IntervalRecord) : (integrateClose r i).1.freeze = r.freeze := by
  unfold integrateClose; split <;> simp [evaluateFault_freeze]

/-- The value of a fault event is a class code or 0 (R81, R83). -/
theorem faultEvent_le {x : FaultStep} {f : EventType × Nat} (h : faultEvent x = some f) : f.2 ≤ 15 := by
  have code (cls : FaultClass) : classCode cls ≤ 15 := by cases cls <;> decide
  cases x <;> simp [faultEvent] at h <;> subst h <;> simp [code]

theorem appendClose_ok {r : PairRecord} (h : r.Ok) (now : Nat) (first : Bool) (ring : Option EventType)
    {fault : Option (EventType × Nat)} (hf : ∀ f, fault = some f → f.2 ≤ 15) :
    (appendClose now first r ring fault).Ok := by
  unfold appendClose
  split
  · exact h
  · exact h.append now _ (by decide)
  · exact h.append now _ (hf _ rfl)
  · split
    · exact (h.append now _ (by decide)).append now _ (hf _ rfl)
    · exact (h.append now _ (hf _ rfl)).append now _ (by decide)

theorem appendClose_freeze (now : Nat) (first : Bool) (r : PairRecord) (ring : Option EventType)
    (fault : Option (EventType × Nat)) : (appendClose now first r ring fault).freeze = r.freeze := by
  unfold appendClose; (repeat' split) <;> simp

/-! ### Records made anew, accepted and lost -/

theorem PairRecord.initial_ok : PairRecord.initial.Ok := by decide

theorem PairRecord.Ok.reserviced {r : PairRecord} (h : r.Ok) : r.reserviced.Ok :=
  ⟨h.1, PairRecord.initial_ok.2⟩

theorem PairRecord.reset_ok (r : PairRecord) (now : Nat) : (r.reset now).Ok := by
  have fresh : PairRecord.Ok { PairRecord.initial with nextSeq := r.nextSeq } :=
    ⟨⟨Nat.zero_le _, rfl, by simp [PairRecord.initial]⟩, PairRecord.initial_ok.2⟩
  exact fresh.append now .recordReset (v := 0) (by decide)

theorem PairRecord.Ok.endAccess {r : PairRecord} (h : r.Ok) (ha : r.freeze = .access) : r.endAccess.Ok := by
  obtain ⟨hev, hrange, hlatch, hstale⟩ := h
  rw [ha] at hstale
  exact ⟨hev, by dsimp only [PairRecord.RangesOk, PairRecord.endAccess]; omega, hlatch, hstale⟩

theorem toneDigit_le (rc : Fin 4 × Fin 4) : toneDigit rc ≤ 15 := by
  unfold toneDigit; split <;> decide

/-- The digit that a receiver reports is a digit code (R69). -/
theorem receiverBlock_digit_le {x : Receiver} {v : Option (Fin 4 × Fin 4)} {d : Nat}
    (h : (receiverBlock x v).2 = some d) : d ≤ 15 := by
  unfold receiverBlock at h
  (repeat' split at h) <;> simp at h
  exact h ▸ toneDigit_le _

end Sys2Proof.Machine
end

section
/-! PROOFS. What every operation of the station keeps: the pair records in bounds with the accessed pair frozen for its
access, the two copies of the service alike, the commands that wait and the straps. One lemma for each operation, in the
order of the model, up to `exec`; an operation that begins no access is `Calm`. -/

namespace Sys2Proof.Machine

/-! ### The relations -/

/-- The records within their bounds, and a pair in TEST_ACCESS frozen for it (the half of `State.AccessOk` that the end
of an access rests on, R140). -/
def State.Sound (s : State) : Prop :=
  s.RecordsOk ∧ ∀ p : Pair, s.inAccess p = true → (s.pair p).freeze = .access

/-- What every operation but the release of the reset pin keeps. -/
structure State.Kept (s t : State) : Prop where
  services : s.ServicesOk → t.ServicesOk
  pending : t.pending = s.pending
  straps : t.straps = s.straps
  sound : s.Sound → t.Sound

/-- What an operation that begins no access keeps. -/
structure State.Calm (s t : State) : Prop extends State.Kept s t where
  access : t.bus.access = none ∨ t.bus.access = s.bus.access

namespace State

theorem sound_of_ok {s : State} (hr : s.RecordsOk) (ha : s.AccessOk) : s.Sound :=
  ⟨hr, fun p hp => by have := ha p; rw [hp] at this; simpa using this⟩

theorem Kept.refl (s : State) : s.Kept s := ⟨id, rfl, rfl, id⟩

theorem Kept.trans {s t u : State} (h : s.Kept t) (k : t.Kept u) : s.Kept u :=
  ⟨k.services ∘ h.services, k.pending.trans h.pending, k.straps.trans h.straps, k.sound ∘ h.sound⟩

/-- `Kept.trans` with the later operation first. -/
theorem Kept.after {s t u : State} (k : t.Kept u) (h : s.Kept t) : s.Kept u := h.trans k

theorem Kept.of_calm {s t : State} (h : s.Calm t) : s.Kept t := h.toKept

theorem Kept.ite {s t u : State} {c : Prop} [Decidable c] (ht : s.Kept t) (hu : s.Kept u) :
    s.Kept (if c then t else u) := by
  split <;> assumption

theorem Calm.refl (s : State) : s.Calm s := ⟨.refl s, .inr rfl⟩

theorem Calm.trans {s t u : State} (h : s.Calm t) (k : t.Calm u) : s.Calm u := by
  refine ⟨h.toKept.trans k.toKept, ?_⟩
  rcases k.access with hk | hk
  · exact .inl hk
  · rw [hk]; exact h.access

/-- `Calm.trans` with the later operation first, as the term of a composed operation shows it. -/
theorem Calm.after {s t u : State} (k : t.Calm u) (h : s.Calm t) : s.Calm u := h.trans k

theorem Calm.ite {s t u : State} {c : Prop} [Decidable c] (ht : s.Calm t) (hu : s.Calm u) :
    s.Calm (if c then t else u) := by
  split <;> assumption

theorem Calm.foldl {α : Type} {f : State → α → State} (h : ∀ (s : State) (a : α), s.Calm (f s a)) (l : List α)
    (s : State) : s.Calm (l.foldl f s) := by
  induction l generalizing s with
  | nil => exact .refl s
  | cons a rest ih => exact (h s a).trans (ih _)

theorem inAccess_of_access_none {s : State} (h : s.bus.access = none) (p : Pair) : s.inAccess p = false := by
  simp [State.inAccess, h]

/-- A pair that is in no access stays so. -/
theorem Calm.inAccess {s t : State} (h : s.Calm t) {p : Pair} (hp : s.inAccess p = false) : t.inAccess p = false := by
  rcases h.access with ha | ha
  · exact inAccess_of_access_none ha p
  · rw [State.inAccess, ha]; exact hp

/-- An operation that writes no record, no service and no access record, and lets the straps and the commands stand. -/
theorem Calm.of_quiet {s t : State} (pairs : t.pairs = s.pairs := by simp) (a : t.serviceA = s.serviceA := by simp)
    (b : t.serviceB = s.serviceB := by simp) (pending : t.pending = s.pending := by simp)
    (straps : t.straps = s.straps := by simp) (access : t.bus.access = s.bus.access := by simp) : s.Calm t := by
  refine ⟨⟨fun h => ?_, pending, straps, fun h => ?_⟩, .inr access⟩
  · rw [State.ServicesOk, a, b]; exact h
  · simpa only [State.Sound, State.RecordsOk, State.pair, State.inAccess, pairs, access] using h

/-- A write to the test bus controller that leaves the access record alone. -/
theorem Calm.setBus (s : State) (b : TestBus) (h : b.access = s.bus.access) : s.Calm { s with bus := b } :=
  .of_quiet rfl rfl rfl rfl rfl h

theorem Calm.setUnit (s : State) (u : TestUnit) : s.Calm { s with unit := u } := .of_quiet

theorem Calm.setPair {s : State} {p : Pair} {r : PairRecord}
    (h : s.Sound → r.Ok ∧ (s.inAccess p = true → r.freeze = .access)) : s.Calm (s.setPair p r) := by
  refine ⟨⟨id, rfl, rfl, fun hs => ⟨fun q => ?_, fun q hq => ?_⟩⟩, .inr rfl⟩ <;> rw [State.pair_setPair] <;> split
  · exact (h hs).1
  · exact hs.1 q
  · next e => subst e; exact (h hs).2 hq
  · exact hs.2 q hq

theorem Calm.modPair {s : State} {p : Pair} {f : PairRecord → PairRecord} (ok : ∀ r : PairRecord, r.Ok → (f r).Ok)
    (freeze : ∀ r : PairRecord, (f r).freeze = r.freeze) : s.Calm (s.modPair p f) :=
  .setPair fun hs => ⟨ok _ (hs.1 p), fun hp => by rw [freeze]; exact hs.2 p hp⟩

/-- A record made anew, of a pair that is in no access. -/
theorem Calm.renewPair {s : State} {p : Pair} {f : PairRecord → PairRecord} (ok : ∀ r : PairRecord, r.Ok → (f r).Ok)
    (hp : s.inAccess p = false) : s.Calm (s.modPair p f) :=
  .setPair fun hs => ⟨ok _ (hs.1 p), fun h => absurd h (by simp [hp])⟩

/-! ### The named operations -/

theorem Calm.setService (s : State) (p : Pair) (v : Service) : s.Calm (s.setService p v) := by
  refine ⟨⟨fun h => ?_, rfl, rfl, id⟩, .inr rfl⟩
  simp only [State.ServicesOk, State.setService] at h ⊢
  rw [h]

theorem Calm.elapseTo (s : State) (t : Nat) : s.Calm (s.elapseTo t) := .of_quiet
theorem Calm.setReceiver (s : State) (r : ReceiverNo) (x : Receiver) : s.Calm (s.setReceiver r x) := .of_quiet
theorem Calm.setSlot (s : State) (i : Fin 4) (x : Option ReplySlot) : s.Calm (s.setSlot i x) := .of_quiet
theorem Calm.place (s : State) (k : ItemKind) : s.Calm (s.place k) := .of_quiet
theorem Calm.removeItem (s : State) (ref : ItemRef) : s.Calm (s.removeItem ref) := .of_quiet
theorem Calm.updateItem (s : State) (ref : ItemRef) (f : Item → Item) : s.Calm (s.updateItem ref f) := .of_quiet
theorem Calm.withdraw (s : State) (ref : ItemRef) (f : Item → Item) : s.Calm (s.withdraw ref f) := .of_quiet
theorem Calm.placeLineEvents (s : State) (p : Pair) : s.Calm (s.placeLineEvents p) := .of_quiet

theorem Calm.appendEvent (s : State) (p : Pair) (t : EventType) {v : Nat} (hv : v ≤ 15) :
    s.Calm (s.appendEvent p t v) :=
  .after (.placeLineEvents _ p) (.modPair (fun _ h => h.append _ t hv) fun _ => PairRecord.append_freeze ..)

/-- An access ends on a record frozen for it, so the record's stale mark is clear (R11, R140). -/
theorem Calm.endAccess (s : State) : s.Calm s.endAccess := by
  cases ha : s.bus.access with
  | none => rw [State.endAccess_of_none ha]; exact .refl s
  | some a =>
    rw [State.endAccess_of_some ha]
    refine ⟨⟨id, rfl, rfl, fun hs => ⟨fun q => ?_, fun q hq => by simp [State.inAccess] at hq⟩⟩, .inl rfl⟩
    show ((s.setPair a.pair (s.pair a.pair).endAccess).pair q).Ok
    rw [State.pair_setPair]
    split
    · exact (hs.1 a.pair).endAccess (hs.2 a.pair (by simp [State.inAccess, ha]))
    · exact hs.1 q

/-- An access begins on a pair that is not frozen (R138, R139). -/
theorem Kept.beginAccess {s : State} {p : Pair} (hf : (s.pair p).freeze = .unfrozen) (holder : StationNo) :
    s.Kept (s.beginAccess p holder) := by
  refine ⟨id, rfl, rfl, fun hs => ⟨fun q => ?_, fun q hq => ?_⟩⟩
  · show ((s.modPair p fun r => { r with freeze := .access }).pair q).Ok
    rw [State.pair_modPair]
    split
    · obtain ⟨hev, hrange, hlatch, hstale⟩ := hs.1 p
      exact ⟨hev, hrange, hlatch, by rw [hf] at hstale; exact hstale⟩
    · exact hs.1 q
  · obtain rfl : p = q := by simpa [State.inAccess, State.beginAccess] using hq
    show ((s.modPair p fun r => { r with freeze := .access }).pair p).freeze = .access
    simp

/-! ### The tone receiver pool (chapter 4) -/

theorem Calm.lend (s : State) (r : ReceiverNo) (p : Pair) : s.Calm (s.lend r p) :=
  .after (.setReceiver _ r _) (.modPair (fun _ h => h) fun _ => rfl)

theorem Calm.leaveWaitList (s : State) (p : Pair) : s.Calm (s.leaveWaitList p) := .of_quiet rfl rfl rfl rfl rfl rfl

theorem Calm.requestReceiver (s : State) (p : Pair) : s.Calm (s.requestReceiver p) := by
  unfold State.requestReceiver
  split
  · exact .refl s
  · split
    · exact .lend ..
    · exact .of_quiet

theorem Calm.releaseReceiver (s : State) (r : ReceiverNo) : s.Calm (s.releaseReceiver r) := by
  have handOn (t : State) (w : Waiting) (rest : List Waiting) : t.Calm
      ((({ t with waitList := rest } : State).lend r w.pair).appendEvent w.pair .receiverLate
        (min 15 ((t.now - w.since) / 1000))) :=
    .after (.appendEvent _ _ _ (by omega)) (.after (.lend ..) (.of_quiet rfl rfl rfl rfl rfl rfl))
  unfold State.releaseReceiver
  cases (s.receiver r).pair with
  | none => dsimp only; split; exacts [.setReceiver .., handOn ..]
  | some p =>
    have freed : s.Calm (s.modPair p fun x => { x with receiver := none }) := .modPair (fun _ h => h) fun _ => rfl
    dsimp only
    split
    · exact .after (.setReceiver ..) freed
    · exact .after (handOn ..) freed

theorem Calm.dropReceiver (s : State) (p : Pair) : s.Calm (s.dropReceiver p) := by
  unfold State.dropReceiver
  split
  · exact .releaseReceiver ..
  · exact .leaveWaitList ..

theorem Calm.reclaimReceiver (s : State) (p : Pair) : s.Calm (s.reclaimReceiver p) := by
  unfold State.reclaimReceiver
  refine (Calm.leaveWaitList s p).trans ?_
  dsimp only
  split
  · exact .releaseReceiver ..
  · exact .refl _

theorem Calm.poolMessage (s : State) (p : Pair) (m : PoolMessage) : s.Calm (s.poolMessage p m) := by
  cases m with
  | silent => exact .refl s
  | request => exact .requestReceiver ..
  | release => exact .dropReceiver ..

theorem Calm.noteAudio (s : State) (p : Pair) : s.Calm (s.noteAudio p) := by
  unfold State.noteAudio
  split
  · exact .refl s
  · exact .setReceiver ..

theorem Calm.completeBlock (s : State) (r : ReceiverNo) (p : Pair) (samples : List Int) :
    s.Calm (s.completeBlock r p samples) := by
  unfold State.completeBlock
  dsimp only
  split
  · exact .setReceiver ..
  · next hd =>
    exact .after (.appendEvent _ _ _ (receiverBlock_digit_le hd)) (.after (.modPair (fun _ h => h) fun _ => rfl)
      (.after (.setReceiver ..) (.setReceiver ..)))

theorem Calm.toneBlock (s : State) (r : ReceiverNo) (samples : Vector Int 80) : s.Calm (toneBlock r samples s) := by
  unfold Machine.toneBlock
  split
  · exact .refl s
  · split
    · exact .refl s
    · exact .completeBlock ..

theorem Calm.digitPause (s : State) (r : ReceiverNo) : s.Calm (digitPause r s) := by
  unfold Machine.digitPause
  split
  · exact .refl s
  · split
    · exact .refl s
    · exact .ite (.refl s) (.after (.releaseReceiver ..) (.elapseTo ..))

theorem Calm.noDigit (s : State) (r : ReceiverNo) : s.Calm (noDigit r s) := by
  unfold Machine.noDigit
  split
  · exact .refl s
  · split
    · exact .ite (.refl s) (.after (.releaseReceiver ..) (.elapseTo ..))
    · exact .refl s

/-! ### Station control (chapter 11) -/

theorem Calm.stopUnit (s : State) : s.Calm s.stopUnit := .of_quiet
theorem Calm.disconnectUnit (s : State) : s.Calm s.disconnectUnit := .of_quiet

theorem Calm.enterFailed (s : State) : s.Calm s.enterFailed :=
  ((Calm.endAccess s).trans (.disconnectUnit _)).trans (.of_quiet rfl rfl rfl rfl rfl rfl)

theorem Calm.pinAssert (s : State) : s.Calm (pinAssert s) :=
  ((Calm.endAccess s).trans (.disconnectUnit _)).trans (.of_quiet rfl rfl rfl rfl rfl rfl)

theorem Calm.reportIntegrity (s : State) : s.Calm s.reportIntegrity := by
  unfold State.reportIntegrity
  split
  · exact .of_quiet
  · exact .ite (.enterFailed s) .of_quiet

/-- Every block at its values of R174 is sound, and the two copies of the service are alike (R1). -/
theorem initialise_ok (s : State) (straps : Straps) (station : StationState) :
    (s.initialise straps station).ServicesOk ∧ (s.initialise straps station).pending = s.pending ∧
      (s.initialise straps station).Sound := by
  refine ⟨rfl, rfl, fun p => ?_, fun p hp => by simp [State.inAccess, State.initialise, TestBus.initial] at hp⟩
  have : (s.initialise straps station).pair p = PairRecord.initial := by
    simp [State.pair, State.initialise, Vector.get]
  rw [this]
  exact PairRecord.initial_ok

theorem Calm.restartStation (s : State) : s.Calm s.restartStation :=
  have ⟨services, pending, sound⟩ := initialise_ok s s.straps .listenIn
  ⟨⟨fun _ => services, pending, rfl, fun _ => sound⟩, .inl rfl⟩

/-! ### Claims (chapter 5) -/

theorem Calm.retireTag (s : State) (p : Pair) : s.Calm (s.retireTag p) := .of_quiet
theorem Calm.allocateTag (s : State) (p : Pair) (cls : FaultClass) : s.Calm (s.allocateTag p cls) := .of_quiet

theorem Calm.setClaim (s : State) (p : Pair) (c : ClaimState) (t : Option Nat) : s.Calm (s.setClaim p c t) :=
  .modPair (fun _ h => h) fun _ => rfl

theorem Calm.holdOff (s : State) (p : Pair) : s.Calm (s.holdOff p) := .setClaim ..

theorem Calm.claimPending (s : State) (p : Pair) (cls : FaultClass) : s.Calm (s.claimPending p cls) :=
  .after (.ite (.updateItem ..) (.place ..)) (.after (.setClaim ..) (.allocateTag s p cls))

theorem Calm.withdrawClaim (s : State) (p : Pair) : s.Calm (s.withdrawClaim p) :=
  .after (.retireTag ..) (.withdraw ..)

/-! ### The incident table (chapter 7) -/

theorem Calm.writeEntry (s : State) (e : EntryNo) (x : Entry) : s.Calm (s.writeEntry e x) := .of_quiet

theorem Calm.leaveEntry (s : State) (e : EntryNo) (st : StationNo) (pr : PairNo) : s.Calm (s.leaveEntry e st pr) :=
  .ite (.refl s) (.writeEntry ..)

theorem Calm.callTest (s : State) : s.Calm s.callTest := .of_quiet

theorem Calm.joinOwn (s : State) (e : EntryNo) (p : Pair) (cls : FaultClass) : s.Calm (s.joinOwn e p cls) :=
  .after (.setClaim ..) (.writeEntry ..)

theorem Calm.clearRun (s : State) : s.Calm s.clearRun := .of_quiet rfl rfl rfl rfl rfl rfl

theorem Calm.endLocalAccess (s : State) : s.Calm s.endLocalAccess := by
  unfold State.endLocalAccess
  split
  · exact .ite (.endAccess s) (.refl s)
  · exact .refl s

theorem Calm.withdrawQuiet (s : State) : s.Calm s.withdrawQuiet := by
  unfold State.withdrawQuiet
  split
  · split
    · exact .withdraw ..
    · exact .refl s
  · exact .refl s

theorem Calm.abandonRun (s : State) (e : EntryNo) : s.Calm (s.abandonRun e) := by
  unfold State.abandonRun
  split
  · exact .refl s
  · split
    · exact (Calm.clearRun s).trans (.of_quiet rfl rfl rfl rfl rfl rfl)
    · have ended : s.Calm s.clearRun.endLocalAccess.withdrawQuiet :=
        .after (.withdrawQuiet _) (.after (.endLocalAccess _) (.clearRun s))
      exact ended.trans (.of_quiet rfl rfl rfl rfl rfl rfl)

theorem Calm.answerDefer (e : EntryNo) (s : State) (d : Defer) : s.Calm (State.answerDefer e s d) := by
  unfold State.answerDefer
  refine .ite (.refl s) (.ite (.after (.place ..) (.writeEntry ..)) ?_)
  dsimp only
  split
  · exact .writeEntry ..
  · refine .ite ?_ (.writeEntry ..)
    split
    · exact .after (.holdOff ..) (.after (.retireTag ..) (.writeEntry ..))
    · exact .after (.joinOwn ..) (.after (.retireTag ..) (.writeEntry ..))
    · exact .after (.holdOff ..) (.after (.retireTag ..) (.writeEntry ..))

theorem Calm.answerDefers (s : State) (e : EntryNo) : s.Calm (s.answerDefers e) := .foldl (Calm.answerDefer e) _ s

theorem Calm.unlinkOwn (k : Key) (forced : Bool) (s : State) (p : Pair) : s.Calm (State.unlinkOwn k forced s p) :=
  .ite (.ite (.holdOff s p) (.claimPending s p k.cls)) (.refl s)

theorem Calm.closeEntry (s : State) (e : EntryNo) (v : Verdict) (forced : Bool) : s.Calm (s.closeEntry e v forced) := by
  unfold State.closeEntry
  dsimp only
  split
  · exact .after (.answerDefers ..)
      (.after (.foldl (Calm.unlinkOwn _ _) _ _) (.after (.abandonRun ..) (.writeEntry ..)))
  · exact .after (.answerDefers ..) (.after (.abandonRun ..) (.writeEntry ..))

theorem Calm.withdrawReplies (s : State) (e : EntryNo) : s.Calm (s.withdrawReplies e) :=
  .of_quiet rfl rfl rfl rfl rfl rfl

theorem Calm.loseFree (s : State) (e : EntryNo) (x : Entry) (key : Option Key) : s.Calm (s.loseFree e x key) :=
  .after (.ite (.withdraw ..) (.refl _)) (.after (.abandonRun ..) (.writeEntry ..))

theorem Calm.loseEntry (s : State) (e : EntryNo) : s.Calm (s.loseEntry e) :=
  .after (.reportIntegrity _)
    (.after (.ite (.loseFree ..) (.after (.closeEntry ..) (.writeEntry ..))) (.withdrawReplies ..))

theorem Calm.readEntry (s : State) (e : EntryNo) : s.Calm (s.readEntry e) := .ite (.refl s) (.loseEntry s e)

theorem Calm.localJoin (s : State) (e : EntryNo) (p : Pair) (cls : FaultClass) : s.Calm (s.localJoin e p cls) := by
  unfold State.localJoin
  refine .ite (.joinOwn ..) (.ite (.after (.setClaim ..) (.writeEntry ..)) ?_)
  dsimp only
  split
  · exact .after (.writeEntry ..) (.after (.setClaim ..) (.allocateTag ..))
  · exact .after (.setClaim ..) (.allocateTag ..)

theorem Calm.claimMake (s : State) (p : Pair) (cls : FaultClass) : s.Calm (s.claimMake p cls) := by
  unfold State.claimMake
  split
  · exact .claimPending ..
  · exact .after (.ite (.refl _) (.ite (.claimPending ..) (.localJoin ..))) (.readEntry ..)

theorem Calm.localLeave (s : State) (k : Key) (p : Pair) : s.Calm (s.localLeave k p) := by
  unfold State.localLeave
  split
  · exact .refl s
  · exact .after (.ite (.leaveEntry ..) (.refl _)) (.readEntry ..)

theorem Calm.leaveIncident (s : State) (p : Pair) (cls : FaultClass) (owned : Bool) :
    s.Calm (s.leaveIncident p cls owned) :=
  .after (.ite (.localLeave ..) (.after (.place ..) (.withdrawClaim ..))) (.setClaim ..)

theorem Calm.endStanding (s : State) (p : Pair) : s.Calm (s.endStanding p) := by
  unfold State.endStanding
  split
  · exact .refl s
  · exact .after (.setClaim ..) (.withdrawClaim ..)
  · exact .after (.setClaim ..) (.retireTag ..)
  · exact .leaveIncident ..
  · exact .setClaim ..

theorem Calm.turnClaim (s : State) (p : Pair) (cls : FaultClass) : s.Calm (s.turnClaim p cls) := by
  unfold State.turnClaim
  split
  · exact .after (.claimPending ..) (.retireTag ..)
  · exact .after (.ite (.refl _)
      (.ite (.after (.claimPending ..) (.retireTag ..)) (.after (.localJoin ..) (.withdrawClaim ..)))) (.readEntry ..)

theorem Calm.claimFor (s : State) (p : Pair) (cls : FaultClass) : s.Calm (s.claimFor p cls) := by
  unfold State.claimFor
  split
  · exact .claimMake ..
  · exact .ite (.refl s) (.turnClaim ..)
  · exact .ite (.refl s) (.after (.claimMake ..) (.retireTag ..))
  · exact .ite (.refl s) (.after (.ite (.claimMake ..) (.refl _)) (.leaveIncident ..))
  · exact .refl s

theorem Calm.faultConsequence (s : State) (p : Pair) (x : FaultStep) : s.Calm (s.faultConsequence p x) := by
  cases x with
  | quiet => exact .refl s
  | entered cls => exact .claimFor ..
  | turned cls => exact .claimFor ..
  | cleared => exact .endStanding ..

theorem Calm.gatherPending (e : EntryNo) (k : Key) (first : Pair) (s : State) (p : Pair) :
    s.Calm (State.gatherPending e k first s p) :=
  .ite (.after (.joinOwn ..) (.withdrawClaim ..)) (.refl s)

theorem Calm.gatherLinked (e : EntryNo) (k : Key) (first : Pair) (s : State) (p : Pair) :
    s.Calm (State.gatherLinked e k first s p) :=
  .ite (.after (.joinOwn ..) (.withdrawClaim ..)) (.refl s)

theorem Calm.readToTake (s : State) (k : Key) : s.Calm (s.readToTake k) := by
  unfold State.readToTake
  split
  · exact .refl s
  · exact .readEntry ..

theorem Calm.becomeOwner (s : State) (k : Key) (p : Pair) : s.Calm (s.becomeOwner k p) := by
  unfold State.becomeOwner
  refine .after (.ite (.refl _) ?_) (.after (.readToTake _ k) (.readToTake s k))
  split
  · exact .place ..
  · exact .after (.foldl (Calm.gatherLinked _ _ _) _ _) (.after (.foldl (Calm.gatherPending _ _ _) _ _)
      (.after (.setClaim ..) (.after (.retireTag ..) (.writeEntry ..))))

theorem Calm.beginConfirmation (s : State) (e : EntryNo) : s.Calm (s.beginConfirmation e) := by
  unfold State.beginConfirmation
  dsimp only
  split
  · exact .refl s
  · exact .ite (.writeEntry ..) (.ite (.writeEntry ..) .of_quiet)

theorem Calm.dueStep {s t : State} (h : s.dueStep = some t) : s.Calm t := by
  unfold State.dueStep at h
  split at h
  · cases h
  · split at h
    · cases h; exact .loseEntry ..
    · split at h <;> cases h
      · exact .of_quiet
      · exact .beginConfirmation ..
      · exact .after (.beginConfirmation ..) (.of_quiet rfl rfl rfl rfl rfl rfl)

/-! ### The test bus controller (chapter 8) -/

theorem Calm.concludeRun (s : State) (result : RunResult) : s.Calm (s.concludeRun result) := by
  unfold State.concludeRun
  split
  · exact .refl s
  · exact .after (.ite (.refl _) (.ite (.closeEntry ..)
      (.after (.ite (.refl _) (.writeEntry ..)) (.after (.answerDefers ..) (.writeEntry ..)))))
      (.after (.readEntry ..) (.clearRun s))

theorem Calm.endTest (s : State) (outcome : TestOutcome) (legs : List LegRecord) : s.Calm (s.endTest outcome legs) := by
  unfold State.endTest
  split
  · exact .refl s
  · exact .after (.place ..) (.of_quiet rfl rfl rfl rfl rfl rfl)

theorem Calm.beginMeasurement (s : State) (station : StationNo) (pair : PairNo) (forRun : Bool) :
    s.Calm (s.beginMeasurement station pair forRun) :=
  .ite (.of_quiet rfl rfl rfl rfl rfl rfl) (.refl s)

/-- A pair that can be tested is not frozen (R138). -/
theorem unfrozen_of_testable {s : State} {p : Pair} (h : s.untestable p = false) : (s.pair p).freeze = .unfrozen := by
  simp only [State.untestable, Bool.or_eq_false_iff, bne_eq_false_iff_eq] at h
  exact h.1.2

theorem Kept.accessOwn {s : State} {p : Pair} (h : s.untestable p = false) (forRun : Bool) :
    s.Kept (s.accessOwn p forRun) :=
  (Kept.beginAccess (unfrozen_of_testable h) _).trans (.of_calm (.beginMeasurement ..))

theorem Calm.abandonLocal (s : State) (p : Pair) : s.Calm (s.abandonLocal p) := by
  unfold State.abandonLocal
  split
  · exact .refl s
  · exact .ite (.after (.ite (.setBus _ _ rfl) (.endTest ..)) (.stopUnit s)) (.refl s)

theorem Calm.cutAccess (s : State) (p : Pair) : s.Calm (s.cutAccess p) :=
  .ite (.after (.abandonLocal ..) (.endAccess s)) (.refl s)

/-- After the access of a pair is cut the pair is in no access (R140). -/
theorem inAccess_cutAccess (s : State) (p : Pair) : (s.cutAccess p).inAccess p = false := by
  unfold State.cutAccess
  split
  · have ended : s.endAccess.inAccess p = false := by
      cases ha : s.bus.access with
      | none => simp [State.endAccess_of_none ha, State.inAccess, ha]
      | some a => simp [State.endAccess_of_some ha, State.inAccess]
    exact (Calm.abandonLocal _ p).inAccess ended
  · next h => simpa using h

theorem Calm.leaveMine (s : State) (view : BusHolder) : s.Calm (s.leaveMine view) :=
  (Calm.disconnectUnit s).trans (.setBus _ _ rfl)

theorem Calm.loseLock (s : State) (view : BusHolder) : s.Calm (s.loseLock view) :=
  .after (.concludeRun ..) (.after (.ite (.endTest ..) (.refl _))
    (.after (.leaveMine ..) (.after (.withdraw ..) (.endLocalAccess s))))

theorem Kept.visitMember {s t : State} {run : Run} {m : Member} (h : s.visitMember run m = some t) : s.Kept t := by
  have skip : s.Kept { s with bus := { s.bus with position := s.bus.position + 1 } } :=
    .of_calm (.setBus _ _ rfl)
  unfold State.visitMember at h
  split at h
  · cases h; exact skip
  split at h
  · split at h
    · cases h; exact skip
    · split at h <;> cases h
      · exact skip
      · next hu => exact .accessOwn (by simpa using hu) true
  · split at h <;> cases h
    exact .of_calm (.place ..)

theorem Kept.startTest (s : State) (t : UplinkTest) : s.Kept (s.startTest t) := by
  unfold State.startTest
  split
  · exact .of_calm (.endTest ..)
  split
  · exact .of_calm (.endTest ..)
  · next h =>
    simp only [Bool.or_eq_true, not_or, Bool.not_eq_true] at h
    have testable :
        State.untestable { s with bus := { s.bus with test := some { t with phase := .running } } } t.pair = false :=
      h.1
    exact .after (.accessOwn testable false) (.of_calm (.setBus _ _ rfl))

/-- A next action, where there is one, keeps what every command keeps. -/
def KeptBy (s : State) (o : Option State) : Prop := ∀ t, o = some t → s.Kept t

theorem KeptBy.none {s : State} : s.KeptBy .none := fun _ h => absurd h (Option.some_ne_none _).symm

theorem KeptBy.some {s t : State} (h : s.Kept t) : s.KeptBy (.some t) := fun _ e => Option.some.inj e ▸ h

theorem KeptBy.ite {s : State} {o o' : Option State} {c : Prop} [Decidable c] (h : s.KeptBy o) (h' : s.KeptBy o') :
    s.KeptBy (if c then o else o') := by
  split <;> assumption

/-- What the holder does next, by its kind (R137, R141, R142). -/
theorem KeptBy.holderStep (s : State) : s.KeptBy s.holderStep := by
  have placed (k : ItemKind) : s.KeptBy (.some (s.place k)) := .some (.of_calm (.place s k))
  have concluded (r : RunResult) : s.KeptBy (.some (s.concludeRun r)) := .some (.of_calm (.concludeRun s r))
  have visited (run : Run) (m : Member) : s.KeptBy (s.visitMember run m) := fun _ h => .visitMember h
  have unlocked : s.KeptBy (.some { (s.place .unlock) with bus := { s.bus with unlockDue := false } }) :=
    .some (.of_calm ((Calm.place s .unlock).trans (.setBus _ _ (by simp))))
  have started (b : TestBus) (h : b.access = s.bus.access) : s.KeptBy (.some { s with bus := b }) :=
    .some (.of_calm (.setBus s b h))
  unfold State.holderStep
  refine .ite .none (.ite ?remote (.ite (.ite .none unlocked) (.ite (.ite .none (placed _)) (.ite .none ?job))))
  case remote =>
    split
    · exact .ite .none (placed _)
    · exact .none
  case job =>
    split
    · refine .ite ?_ (.ite .none (.ite (concluded _) (started _ rfl)))
      split
      · refine .ite (concluded _) (.ite .none ?_)
        split
        · split
          · exact visited _ _
          · exact .none
        · exact visited _ _
      · exact concluded _
    · refine .ite .none ?_
      split
      · exact .ite (.ite (.some (.of_calm (.endTest ..))) (.some (.startTest ..))) (.ite .none (placed _))
      · exact .ite .none (placed _)

theorem Kept.busStep {s t : State} (h : s.busStep = some t) : s.Kept t := by
  unfold State.busStep at h
  split at h
  · cases h
  split at h
  · exact KeptBy.holderStep s t h
  · split at h
    · cases h; exact .of_calm (.withdraw ..)
    · split at h <;> cases h
      exact .of_calm (.place ..)
  · split at h <;> cases h
    exact .of_calm (.withdraw ..)

theorem Kept.nextStep {s t : State} (h : s.nextStep = some t) : s.Kept t := by
  unfold State.nextStep at h
  split at h
  · next hd => cases h; exact .of_calm (.dueStep hd)
  · exact .busStep h

/-- What the station does of its own accord keeps what every command keeps. -/
theorem Kept.settleUpTo (n : Nat) (s : State) : s.Kept (s.settleUpTo n) := by
  induction n generalizing s with
  | zero => exact .refl s
  | succ n ih =>
    unfold State.settleUpTo
    split
    · exact .refl s
    · next t h => exact (Kept.nextStep h).trans (ih t)

theorem Kept.settle (s : State) : s.Kept s.settle := .settleUpTo 400 s

theorem Kept.settleIf (s : State) (changed : Bool) : s.Kept (s.settleIf changed) := .ite (.settle s) (.refl s)

/-- A calm operation, and then what the station does of its own accord. -/
theorem Kept.settled {s t : State} (h : s.Calm t) : s.Kept t.settle := h.toKept.trans (.settle t)

theorem Kept.onEntry {s : State} {act : State → State} (e : EntryNo) (h : s.Kept (act s)) : s.Kept (s.onEntry e act) :=
  .ite h (.settled (.loseEntry s e))

/-! ### Frames received (chapters 6 to 8) -/

theorem Calm.drive (s : State) (c : Cells) : s.Calm (s.drive c) := .of_quiet
theorem Calm.setView (s : State) (v : BusHolder) : s.Calm (s.setView v) := .setBus _ _ rfl

theorem Kept.receive {s : State} {act : State → State} (kind : FrameKind) (f : RxFrame)
    (h : ∀ t : State, t.Kept (act t)) : s.Kept (s.receive kind f act) := by
  unfold State.receive
  split
  · exact .refl s
  · split
    · exact .of_calm (.enterFailed s)
    · exact .of_calm (.of_quiet rfl rfl rfl rfl rfl rfl)
    · exact .of_calm (.of_quiet rfl rfl rfl rfl rfl rfl)
    · exact .after (h _) (.of_calm (.of_quiet rfl rfl rfl rfl rfl rfl))

theorem Kept.takeLock (f : RxFrame) (ownSeen : Bool) (s : State) : s.Kept (s.takeLock f ownSeen) :=
  .ite (.of_calm (.drive ..)) (.ite (.of_calm (.drive ..)) (.settled (.after (.setView ..) (.drive ..))))

theorem Kept.takeUnlock (s : State) : s.Kept s.takeUnlock :=
  .settled (.after (.ite (.loseLock ..) (.setView ..)) (.drive ..))

theorem Calm.noteTestFrame (s : State) (kind : TestBusFrame) (sender : StationNo) :
    s.Calm (s.noteTestFrame kind sender) := by
  cases kind with
  | quiet => exact .ite (.loseLock ..) (.setView ..)
  | release => exact .ite (.loseLock ..) (.setView ..)
  | testResult =>
    unfold State.noteTestFrame
    dsimp only
    split
    · exact .ite (.setView ..) (.refl s)
    · exact .refl s
    · exact .refl s

theorem Kept.answerQuiet (s : State) (sender : StationNo) (pair : PairNo) (confirmation : Bool) (cls : FaultClass) :
    s.Kept (s.answerQuiet sender pair confirmation cls) := by
  unfold State.answerQuiet
  split
  · exact .refl s
  split
  · exact .refl s
  split
  · exact .of_calm (.drive ..)
  · next h =>
    simp only [State.stalls, Bool.or_eq_true, not_or, Bool.not_eq_true] at h
    exact (Kept.beginAccess (unfrozen_of_testable h.1) sender).trans (.of_calm (.drive ..))

theorem Calm.answerRelease (s : State) (pair : PairNo) : s.Calm (s.answerRelease pair) := by
  unfold State.answerRelease
  dsimp only
  split
  · exact .drive ..
  · exact .after (.cutAccess ..) (.drive ..)

theorem Kept.answerTestFrame (s : State) (sender : StationNo) (body : Option Body) :
    s.Kept (s.answerTestFrame sender body) := by
  unfold State.answerTestFrame
  split
  · exact .answerQuiet ..
  · exact .of_calm (.answerRelease ..)
  · exact .refl s

theorem Kept.takeTestFrame (kind : TestBusFrame) (f : RxFrame) (s : State) : s.Kept (s.takeTestFrame kind f) :=
  .after (.settle _) (.after (.ite (.answerTestFrame ..) (.refl _)) (.of_calm (.noteTestFrame ..)))

theorem Calm.answerClaim (s : State) (e : EntryNo) (st : StationNo) (pr : PairNo) (tag : BitVec 5) (renew : Bool) :
    s.Calm (s.answerClaim e st pr tag renew) := by
  unfold State.answerClaim
  refine .ite ?_ (.after (.drive ..) (.writeEntry ..))
  split
  · exact .drive ..
  · exact .after (.drive ..) (.writeEntry ..)

theorem Kept.takeClaim (st : StationNo) (key : Key) (pr : PairNo) (tag : BitVec 5) (renew : Bool) (s : State) :
    s.Kept (s.takeClaim st key pr tag renew) := by
  have read (e : EntryNo) : s.Calm ((s.drive ackCell).readEntry e) := .after (.readEntry ..) (.drive ..)
  unfold State.takeClaim
  dsimp only
  split
  · exact .of_calm (.drive ..)
  · exact .ite (.of_calm (read _)) (.ite (.settled (read _)) (.settled ((read _).trans (.answerClaim ..))))

theorem Kept.takeLeave (st : StationNo) (key : Key) (pr : PairNo) (s : State) : s.Kept (s.takeLeave st key pr) := by
  have read (e : EntryNo) : s.Calm ((s.drive ackCell).readEntry e) := .after (.readEntry ..) (.drive ..)
  unfold State.takeLeave
  dsimp only
  split
  · exact .of_calm (.drive ..)
  · exact .ite (.of_calm (read _)) (.ite (.settled (read _)) (.of_calm ((read _).trans (.leaveEntry ..))))

theorem Calm.takeDeferredReply (tag : BitVec 5) (pr : PairNo) (key : Key) (joined : Bool) (s : State) :
    s.Calm (s.takeDeferredReply tag pr key joined) := by
  unfold State.takeDeferredReply
  split
  · exact .refl s
  · exact .ite (.after (.ite (.setClaim ..) (.holdOff ..)) (.after (.drive ..) (.retireTag ..))) (.refl s)

theorem Calm.hearClosed (key : Key) (forced : Bool) (s : State) (p : Pair) :
    s.Calm (State.hearClosed key forced s p) := by
  unfold State.hearClosed
  refine .ite (.refl s) ?_
  split
  · exact .ite (.after (.ite (.holdOff ..) (.after (.claimMake ..) (.setClaim ..))) (.withdrawClaim ..)) (.refl s)
  · exact .ite (.after (.ite (.holdOff ..) (.after (.claimMake ..) (.setClaim ..))) (.retireTag ..)) (.refl s)
  · exact .refl s

theorem Kept.takeIncident (key : Key) (state : ReportedState) (forced : Bool) (s : State) :
    s.Kept (s.takeIncident key state forced) :=
  .ite (.settled (.foldl (Calm.hearClosed _ _) _ s)) (.refl s)

theorem Kept.frameCheckedOnly (kind : LongKind) (f : RxFrame) (s : State) : s.Kept (frameCheckedOnly kind f s) :=
  .receive _ f .refl

theorem Kept.unhandledKindFrame (s : State) : s.Kept (unhandledKindFrame s) :=
  .ite (.of_calm (.of_quiet rfl rfl rfl rfl rfl rfl)) (.refl s)

theorem Kept.lockReceived (f : RxFrame) (ownSeen : Bool) (s : State) : s.Kept (lockReceived f ownSeen s) :=
  .receive _ f (.takeLock f ownSeen)

theorem Kept.unlockReceived (f : RxFrame) (s : State) : s.Kept (unlockReceived f s) := .receive _ f .takeUnlock

theorem Kept.faultClaimReceived (f : RxFrame) (s : State) : s.Kept (faultClaimReceived f s) := by
  refine .receive _ f fun t => ?_
  split
  · exact .takeClaim ..
  · exact .refl t

theorem Kept.leaveReceived (f : RxFrame) (s : State) : s.Kept (leaveReceived f s) := by
  refine .receive _ f fun t => ?_
  split
  · exact .takeLeave ..
  · exact .refl t

theorem Kept.testFrameReceived (kind : TestBusFrame) (f : RxFrame) (s : State) : s.Kept (testFrameReceived kind f s) :=
  .receive _ f (.takeTestFrame kind f)

theorem Kept.deferredReplyReceived (f : RxFrame) (s : State) : s.Kept (deferredReplyReceived f s) := by
  refine .receive _ f fun t => .ite (.refl t) ?_
  split
  · exact .of_calm (.takeDeferredReply ..)
  · exact .refl t

theorem Kept.incidentSnooped (f : RxFrame) (s : State) : s.Kept (incidentSnooped f s) := by
  refine .receive _ f fun t => ?_
  split
  · exact .takeIncident ..
  · exact .refl t

/-! ### Commands and replies (chapter 10) -/

theorem Calm.doTestPair (s : State) (pr : PairNo) : s.Calm (s.doTestPair pr).state := by
  unfold State.doTestPair
  split
  · exact .refl s
  split
  · exact .refl s
  split
  · exact .refl s
  split
  · exact .refl s
  · exact .setBus _ _ rfl

theorem Kept.parkPair {s : State} {p : Pair} (hp : s.inAccess p = false) : s.Kept (s.parkPair p) := by
  have freed : s.Calm ((s.endStanding p).dropReceiver p) := .after (.dropReceiver ..) (.endStanding ..)
  exact .ite (.of_calm (.endStanding ..))
    (.settled ((freed.trans (.renewPair (fun _ h => h.reserviced) (freed.inAccess hp))).trans (.setService ..)))

theorem Kept.doPark (s : State) (pr : PairNo) : s.Kept (s.doPark pr).state := by
  unfold State.doPark
  split
  · exact .refl s
  split
  · exact .refl s
  · exact .refl s
  split
  · exact .refl s
  · next h => exact .parkPair (by simpa using h)

theorem Kept.unparkPair (s : State) (p : Pair) : s.Kept (s.unparkPair p) :=
  have cut : s.Calm (s.cutAccess p) := .cutAccess s p
  ((cut.trans (.renewPair (fun _ h => h.reserviced) (inAccess_cutAccess s p))).trans (.setService ..)).toKept.trans
    (.settleIf ..)

theorem Kept.doUnpark (s : State) (pr : PairNo) : s.Kept (s.doUnpark pr).state := by
  unfold State.doUnpark
  split
  · exact .refl s
  split
  · exact .refl s
  · exact .refl s
  · exact .unparkPair ..

theorem Kept.doClearIncident (s : State) (key : Key) : s.Kept (s.doClearIncident key).state := by
  unfold State.doClearIncident
  split
  · exact .refl s
  split
  · exact .settled (.loseEntry ..)
  split
  · exact .refl s
  · exact .settled (.closeEntry ..)

theorem Kept.carryOut (s : State) (c : Command) : s.Kept (s.carryOut c).state := by
  cases c with
  | queryPair index part => exact .refl s
  | queryIncident key page => exact .refl s
  | testPair pr => exact .of_calm (.doTestPair ..)
  | park pr => exact .doPark ..
  | unpark pr => exact .doUnpark ..
  | clearIncident key => exact .doClearIncident ..
  | restart => exact .refl s

theorem Calm.occupy (s : State) (i : Fin 4) (r : ReplySlot) : s.Calm (s.occupy i r) :=
  .after (.place ..) (.after (.drive ..) (.setSlot ..))

theorem Kept.takeCommand (sender : StationNo) (field : BitVec 2) (c : Command) (s : State) :
    s.Kept (s.takeCommand sender field c) := by
  unfold State.takeCommand
  split
  · exact .refl s
  · exact .ite (.after (.ite (.refl _) (.after (.settleIf ..) (.of_calm (.occupy ..)))) (Kept.carryOut s c))
      (.of_calm (.occupy ..))

theorem Kept.commandReceived (kind : LongKind) (f : RxFrame) (s : State) : s.Kept (commandReceived kind f s) := by
  refine .receive _ f fun t => .ite (.refl t) ?_
  split
  · exact .takeCommand ..
  · exact .refl t

/-! ### Contention and outcomes (chapter 6) -/

theorem Kept.incidentQuery (s : State) (key : Key) (page : BitVec 3) : s.Kept (s.incidentQuery key page).1 := by
  unfold State.incidentQuery
  split
  · exact .refl s
  split
  · exact .settled (.loseEntry ..)
  split <;> exact .refl s

theorem Kept.buildReply (s : State) (r : ReplySlot) : s.Kept (s.buildReply r).1 := by
  unfold State.buildReply
  split
  · exact .refl s
  split
  · exact .refl s
  · exact .incidentQuery ..
  · exact .refl s

theorem Kept.buildContent (s : State) (k : ItemKind) : s.Kept (s.buildContent k).1 := by
  cases k with
  | reply i =>
    unfold State.buildContent
    dsimp only
    split
    · exact .buildReply ..
    · exact .refl s
  | lineEvents p =>
    show s.Kept (s.modPair p fun r => { r with discard := false })
    exact .of_calm (.modPair (fun _ h => h) fun _ => rfl)
  | incident e =>
    have told (t : State) : t.Kept
        (if !t.running then (t, none) else
          (t.writeEntry e { t.entry e with changed := false }, incidentBody (t.entry e))).1 := by
      split
      · exact .refl t
      · show t.Kept (t.writeEntry e { t.entry e with changed := false })
        exact .of_calm (.writeEntry ..)
    unfold State.buildContent
    by_cases hc : (s.entry e).check = true
    · simp only [if_pos hc]; exact told s
    · simp only [if_neg hc]; exact .after (told _) (.settled (.loseEntry s e))
  | _ => exact .refl s

theorem Kept.offer (s : State) (x : Item) : s.Kept (s.offer x) := by
  unfold State.offer
  refine .ite (.buildContent ..) ?_
  split
  · exact .buildContent ..
  · exact .after (.of_calm (.updateItem ..)) (.buildContent ..)

theorem Kept.contentionStart (s : State) : s.Kept (contentionStart s) := by
  have quiet : s.Kept { s with abandoned := false } := .of_calm (.of_quiet rfl rfl rfl rfl rfl rfl)
  unfold Machine.contentionStart
  refine .ite (.refl s) ?_
  dsimp only
  split
  · exact quiet
  · exact quiet.trans (.offer ..)

theorem Kept.arbitrationLost (s : State) : s.Kept (arbitrationLost s) := by
  unfold Machine.arbitrationLost
  refine .ite (.refl s) ?_
  split
  · exact .refl s
  · exact .ite (.settled (.removeItem ..)) (.of_calm (.updateItem ..))

theorem Calm.dispose (s : State) (x : Item) (o : Outcome) : s.Calm (s.dispose x o).1 := by
  cases o <;> unfold State.dispose <;> dsimp only
  case delivered => exact .removeItem ..
  all_goals split; exacts [.removeItem .., .updateItem ..]

/-- The state an item's own part of an outcome leaves, as the producers take it apart. -/
theorem Calm.of_dispose {s t : State} {x : Item} {o : Outcome} {fate : Fate} (h : s.dispose x o = (t, fate)) :
    s.Calm t := by
  simpa [h] using Calm.dispose s x o

theorem accept_ok {r : PairRecord} (h : r.Ok) (n : Nat) (gap : Bool) : (r.accept n gap).Ok := ⟨h.1.drop n, h.2⟩

theorem lose_ok {r : PairRecord} (h : r.Ok) (n : Nat) : (r.lose n).Ok := ⟨h.1.drop n, h.2⟩

theorem Calm.lineEventsDone (s : State) (x : Item) (p : Pair) (o : Outcome) : s.Calm (s.lineEventsDone x p o) := by
  unfold State.lineEventsDone
  split
  · next h => exact .of_dispose h
  · next h =>
    exact .after (.placeLineEvents ..)
      (.after (.ite (.refl _) (.modPair (fun _ h => accept_ok h _ _) fun _ => rfl)) (.of_dispose h))
  · next h =>
    exact .after (.placeLineEvents ..)
      (.after (.ite (.refl _) (.modPair (fun _ h => lose_ok h _) fun _ => rfl)) (.of_dispose h))

theorem Calm.noAttempt (s : State) (x : Item) : s.Calm (s.noAttempt x) := .ite (.removeItem ..) (.updateItem ..)

theorem Calm.supersededDone (s : State) (x : Item) (p : Pair) (r : TxResult) : s.Calm (s.supersededDone x p r) := by
  unfold State.supersededDone
  dsimp only
  split
  · exact .after (.ite (.place ..) (.refl _)) (.noAttempt ..)
  · exact .noAttempt ..

theorem Kept.faultClaimDone (s : State) (x : Item) (p : Pair) (r : TxResult) : s.Kept (s.faultClaimDone x p r) := by
  unfold State.faultClaimDone
  refine .ite (.of_calm (.noAttempt ..)) (.ite (.of_calm (.supersededDone ..)) ?_)
  split
  · exact .ite (.of_calm (.after (.modPair (fun _ h => h) fun _ => rfl) (.updateItem ..))) (.of_calm (.updateItem ..))
  · exact .of_calm (.after (.modPair (fun _ h => h) fun _ => rfl) (.updateItem ..))
  · refine .after (.ite (.ite (.of_calm (.setClaim ..)) (.of_calm (.after (.setClaim ..) (.retireTag ..))))
      (.settled (.becomeOwner ..))) (.of_calm (.removeItem ..))
  · exact .refl s

theorem Calm.accepted (s : State) : s.Calm s.accepted := .ite (.setBus _ _ rfl) (.refl s)

theorem Calm.becomeHolder (s : State) : s.Calm s.becomeHolder := .of_quiet rfl rfl rfl rfl rfl rfl

theorem Kept.lockDone (s : State) (x : Item) (keepAlive : Bool) (o : Outcome) : s.Kept (s.lockDone x keepAlive o) := by
  unfold State.lockDone
  refine .ite (.settled (.removeItem ..)) (.ite ?_ ?_)
  · split
    · exact .settled (.after (.accepted _) (.removeItem ..))
    · exact .settled (.after (.loseLock ..) (.removeItem ..))
    · split
      · next h => exact .of_calm (.of_dispose h)
      · next h => exact .settled (.after (.loseLock ..) (.of_dispose h))
  · split
    · next h => exact .of_calm (.of_dispose h)
    · next h => exact .settled (.after (.becomeHolder _) (.of_dispose h))
    · next h => exact .settled (.of_dispose h)

theorem Kept.unlockDone (s : State) (x : Item) (o : Outcome) : s.Kept (s.unlockDone x o) := by
  unfold State.unlockDone
  refine .ite (.settled (.removeItem ..)) ?_
  split
  · next h => exact .of_calm (.of_dispose h)
  · next h => exact .settled (.after (.leaveMine ..) (.of_dispose h))

theorem Calm.passMember (s : State) (x : Item) : s.Calm (s.passMember x) := .ite (.refl s) (.setBus _ _ rfl)

theorem Kept.quietDone (s : State) (x : Item) (st : StationNo) (pr : PairNo) (o : Outcome) :
    s.Kept (s.quietDone x st pr o) := by
  unfold State.quietDone
  refine .ite (.settled (.removeItem ..)) ?_
  split
  · exact .settled (.after (.ite (.refl _) (.beginMeasurement ..))
      (.after (.setBus _ _ rfl) (.after (.accepted _) (.removeItem ..))))
  · exact .settled (.after (.passMember ..) (.after (.accepted _) (.removeItem ..)))
  · split
    · next h => exact .of_calm (.of_dispose h)
    · next h => exact .settled (.after (.passMember ..) (.of_dispose h))

theorem Kept.releaseDone (s : State) (x : Item) (o : Outcome) : s.Kept (s.releaseDone x o) := by
  unfold State.releaseDone
  refine .ite (.settled (.removeItem ..)) ?_
  split
  · next h => exact .of_calm (.of_dispose h)
  · next h => exact .settled (.after (.accepted _) (.after (.setBus _ _ rfl) (.of_dispose h)))
  · next h => exact .settled (.after (.setBus _ _ rfl) (.of_dispose h))

theorem Calm.addReplied (s : State) (e : EntryNo) (st : StationNo) (pr : PairNo) (body : Option Body) :
    s.Calm (s.addReplied e st pr body) := by
  unfold State.addReplied
  dsimp only
  split
  · exact .ite (.writeEntry ..) (.refl s)
  · exact .refl s

theorem Kept.deferredReplyDone (s : State) (x : Item) (e : EntryNo) (st : StationNo) (pr : PairNo) (o : Outcome) :
    s.Kept (s.deferredReplyDone x e st pr o) := by
  unfold State.deferredReplyDone
  refine .ite (.settled (.after (.removeItem ..) (.loseEntry ..))) (.ite (.settled (.removeItem ..)) ?_)
  split
  · next h => exact .of_calm (.of_dispose h)
  · next h => exact .settled (.after (.writeEntry ..) (.after (.addReplied ..) (.of_dispose h)))
  · next h => exact .settled (.after (.writeEntry ..) (.of_dispose h))

theorem Kept.incidentLeft (s : State) (e : EntryNo) : s.Kept (s.incidentLeft e) :=
  .onEntry e (.ite (.of_calm (.place ..)) (.ite (.of_calm (.writeEntry ..)) (.refl s)))

theorem Kept.incidentDone (s : State) (x : Item) (e : EntryNo) (o : Outcome) : s.Kept (s.incidentDone x e o) := by
  unfold State.incidentDone
  split
  · next h => exact .of_calm (.of_dispose h)
  · next h => exact .after (.incidentLeft ..) (.of_calm (.of_dispose h))

theorem Calm.replyLeft (s : State) (i : Fin 4) : s.Calm (s.replyLeft i) := by
  unfold State.replyLeft
  split
  · exact .ite (.restartStation s) (.setSlot ..)
  · exact .refl s

theorem Calm.replyDone (s : State) (x : Item) (i : Fin 4) (o : Outcome) : s.Calm (s.replyDone x i o) := by
  unfold State.replyDone
  split
  · next h => exact .of_dispose h
  · next h => exact .after (.replyLeft ..) (.of_dispose h)

theorem Calm.testResultDone (s : State) (x : Item) (o : Outcome) : s.Calm (s.testResultDone x o) := by
  unfold State.testResultDone
  split
  · next h => exact .of_dispose h
  · next h => exact .after (.ite (.accepted _) (.refl _)) (.after (.setBus _ _ rfl) (.of_dispose h))

theorem Kept.produce (s : State) (x : Item) (r : TxResult) : s.Kept (s.produce x r) := by
  unfold State.produce
  dsimp only
  split
  · exact .of_calm (.lineEventsDone ..)
  · exact .faultClaimDone ..
  · exact .of_calm (.dispose ..)
  · exact .lockDone ..
  · exact .unlockDone ..
  · exact .quietDone ..
  · exact .releaseDone ..
  · exact .deferredReplyDone ..
  · exact .incidentDone ..
  · exact .of_calm (.replyDone ..)
  · exact .of_calm (.testResultDone ..)

theorem Calm.noteEnd (s : State) (r : TxResult) : s.Calm (s.noteEnd r) := by
  cases r with
  | collision => exact .ite (.of_quiet rfl rfl rfl rfl rfl rfl) (.refl s)
  | sent seen => exact .of_quiet rfl rfl rfl rfl rfl rfl

theorem Kept.frameOutcome (kind : SentKind) (r : TxResult) (s : State) : s.Kept (frameOutcome kind r s) := by
  unfold Machine.frameOutcome
  refine .ite (.refl s) ?_
  split
  · exact .refl s
  · exact .ite (.after (.produce ..) (.of_calm (.noteEnd ..))) (.refl s)

theorem Kept.frameTruncated (s : State) : s.Kept (frameTruncated s) := by
  have cleared : s.Kept { s with abandoned := false, cells := noCells } := .of_calm (.of_quiet rfl rfl rfl rfl rfl rfl)
  unfold Machine.frameTruncated
  refine .ite (.refl s) ?_
  dsimp only
  split
  · exact cleared
  · exact cleared.trans (.produce ..)

/-! ### The test unit (chapter 9) -/

theorem Calm.handOver (s : State) (m : Measurement) (legs : List LegRecord) : s.Calm (s.handOver m legs) := by
  unfold State.handOver
  refine .ite ?_ (.endTest ..)
  split
  · exact .refl s
  · exact .setBus _ _ rfl

theorem Kept.completeMeasurement (s : State) (m : Measurement) (legs : List LegRecord) :
    s.Kept (s.completeMeasurement m legs) :=
  .settled (.after (.ite (.endAccess _) (.refl _))
    (.after (.handOver ..) (.after (.setUnit ..) (.stopUnit s))))

theorem Kept.legDone (s : State) (m : Measurement) (l : LegRecord) : s.Kept (s.legDone m l) := by
  unfold State.legDone
  split
  · exact .of_calm (.setUnit ..)
  · exact .completeMeasurement ..

theorem Kept.calibrationDone (volts : Int) (s : State) : s.Kept (calibrationDone volts s) := by
  unfold Machine.calibrationDone
  refine .ite (.refl s) ?_
  split
  · exact .refl s
  · refine .after (.ite (.settled (.setUnit ..)) ?_) (.of_calm (.elapseTo ..))
    exact .settled (.after (.ite (.endTest ..) (.refl _)) (.after (.ite (.concludeRun ..) (.refl _)) (.setUnit ..)))

theorem Kept.legOffReadingDone (volts : Int) (s : State) : s.Kept (legOffReadingDone volts s) := by
  unfold Machine.legOffReadingDone
  refine .ite (.refl s) ?_
  split
  · exact .ite (.refl s) (.after (.ite (.legDone ..) (.of_calm (.setUnit ..))) (.of_calm (.elapseTo ..)))
  · exact .refl s

theorem Kept.legOnReadingDone (volts : Int) (s : State) : s.Kept (legOnReadingDone volts s) := by
  unfold Machine.legOnReadingDone
  refine .ite (.refl s) ?_
  split
  · split
    · exact .refl s
    · exact .after (.legDone ..) (.of_calm (.elapseTo ..))
  · exact .refl s

/-! ### The scan (chapters 1 to 3 and 5) -/

theorem Calm.orphanClaim (s : State) (p : Pair) : s.Calm (s.orphanClaim p) := by
  unfold State.orphanClaim
  split
  · exact .ite (.refl s) (.withdraw ..)
  · exact .refl s

theorem Calm.dropClaim (s : State) (p : Pair) : s.Calm (s.dropClaim p) := by
  have dropped : s.Calm ((s.orphanClaim p).retireTag p) := .after (.retireTag ..) (.orphanClaim ..)
  unfold State.dropClaim
  dsimp only
  split
  · exact .after (.localLeave ..) (.after (.setClaim ..) dropped)
  · exact dropped

/-- The record is made anew once the access of its pair has ended (R6, R7). -/
theorem Kept.reinitialise (s : State) (p : Pair) : s.Kept (s.reinitialise p) := by
  have cut : s.Calm (((s.dropClaim p).reclaimReceiver p).cutAccess p) :=
    .after (.cutAccess ..) (.after (.reclaimReceiver ..) (.dropClaim ..))
  exact .settled (.after (.reportIntegrity _) (.after (.placeLineEvents ..) (.after (.updateItem ..)
    (cut.trans (.renewPair (fun r _ => r.reset_ok _) (inAccess_cutAccess _ p))))))

theorem Kept.closeInterval (s : State) (p : Pair) : s.Kept (s.closeInterval p) := by
  have chosen (c : Bool) : s.Calm (if c then { s with choices := s.choices + 1 } else s) :=
    .ite (.of_quiet rfl rfl rfl rfl rfl rfl) (.refl s)
  have pairs (c : Bool) : (if c then { s with choices := s.choices + 1 } else s).pair p = s.pair p := by
    split <;> rfl
  unfold State.closeInterval
  refine .after (.settleIf _ _) (.of_calm (.after (.faultConsequence ..) (.after (.placeLineEvents ..)
    ((chosen _).trans (.setPair fun hs => ⟨?_, fun hp => ?_⟩)))))
  · have ok : PairRecord.Ok { s.pair p with acc := .empty } := by rw [← pairs]; exact hs.1 p
    exact appendClose_ok (integrateClose_ok (ringingClose_ok ok _) _) _ _ _ fun _ h => faultEvent_le h
  · rw [appendClose_freeze, integrateClose_freeze, ringingClose_freeze]
    have := hs.2 p hp
    rwa [pairs] at this

theorem Kept.closeIfFull (s : State) (p : Pair) : s.Kept (s.closeIfFull p) := .ite (.closeInterval ..) (.refl s)

theorem Kept.evaluateLoop (s : State) (p : Pair) (before : LatchedSet) : s.Kept (s.evaluateLoop p before) := by
  unfold State.evaluateLoop
  refine .ite (.refl s) (.after (.settleIf _ _) (.of_calm (.after (.faultConsequence ..) (.after (.placeLineEvents ..)
    (.setPair fun hs => ?_)))))
  have ok := evaluateFault_ok (hs.1 p) (pairClass before) (pairClass (s.pair p).latched) false
  have freeze := evaluateFault_freeze (s.pair p) (pairClass before) (pairClass (s.pair p).latched) false
  split
  · next e he => exact ⟨ok.append _ _ (faultEvent_le he), fun hp => by rw [PairRecord.append_freeze, freeze, hs.2 p hp]⟩
  · exact ⟨ok, fun hp => by rw [freeze, hs.2 p hp]⟩

/-- A sampled turn writes the record of a pair that is in no access, its freeze cause not being ACCESS (R54). -/
theorem Kept.sampleTurn {s : State} {p : Pair} (h : (s.pair p).freeze ≠ .access) (tip ring : Int) :
    s.Kept (s.sampleTurn p tip ring) := by
  unfold State.sampleTurn
  refine .after (.of_calm (.noteAudio ..)) (.after (.closeIfFull ..) (.after (.evaluateLoop ..) (.of_calm
    (.after (.poolMessage ..)
      (.after (.placeLineEvents ..) (.setPair fun hs => ⟨?_, fun hp => absurd (hs.2 p hp) h⟩))))))
  exact loopSample_ok (sample_ok (hs.1 p) _ _) _ _

theorem Kept.accessTurn (s : State) (p : Pair) : s.Kept (s.accessTurn p) :=
  .after (.closeIfFull ..) (.of_calm (.modPair (fun _ h => h) fun _ => rfl))

theorem Kept.scanTurn (p : Pair) (tip ring : Int) (s : State) : s.Kept (scanTurn p tip ring s) := by
  unfold Machine.scanTurn
  refine .ite (.refl s) ?_
  split
  · exact .refl s
  · exact .ite (.refl s) (.reinitialise ..)
  · refine .ite (.reinitialise ..) ?_
    split
    · exact .accessTurn ..
    · next h => exact .sampleTurn (by simpa using h) tip ring

/-! ### Timers -/

theorem Kept.listenInExpiry (s : State) : s.Kept (listenInExpiry s) := by
  unfold Machine.listenInExpiry
  split
  · next t _ _ => exact .settled ((Calm.elapseTo s t).trans (.of_quiet rfl rfl rfl rfl rfl rfl))
  · exact .refl s

theorem Calm.itemBackoffExpiry (ref : ItemRef) (s : State) : s.Calm (itemBackoffExpiry ref s) := by
  unfold Machine.itemBackoffExpiry
  refine .ite (.refl s) ?_
  split
  · split
    · exact .ite (.after (.modPair (fun _ h => h) fun _ => rfl) (.elapseTo ..)) (.refl s)
    · exact .refl s
  · split
    · exact .after (.updateItem ..) (.elapseTo ..)
    · exact .refl s

theorem Kept.claimWaitEnd (s : State) (p : Pair) : s.Kept (s.claimWaitEnd p) := by
  unfold State.claimWaitEnd
  split
  · split
    · exact .settled (.after (.claimMake ..) (.after (.setClaim ..) (.retireTag ..)))
    · exact .refl s
  · exact .ite (.refl s) (.of_calm (.after (.place ..) (.after (.allocateTag ..) (.setClaim ..))))
  · dsimp only
    split
    · exact .settled (.after (.claimMake ..) (.setClaim ..))
    · exact .of_calm (.setClaim ..)
  · exact .refl s

theorem Kept.claimWaitsEnd (s : State) (t : Nat) (p : Pair) : s.Kept (s.claimWaitsEnd t p) := by
  have turns (l : List Pair) (u : State) : u.Kept (l.foldl (claimWaitTurn t) u) := by
    induction l generalizing u with
    | nil => exact .refl u
    | cons q rest ih => exact .after (ih _) (.ite (.claimWaitEnd u q) (.refl u))
  exact .after (turns _ _) (.of_calm (.elapseTo ..))

theorem Kept.deferWaitExpiry (p : Pair) (s : State) : s.Kept (deferWaitExpiry p s) := by
  unfold Machine.deferWaitExpiry
  refine .ite (.refl s) ?_
  split
  · exact .claimWaitsEnd ..
  · exact .refl s

theorem Kept.renewTimerExpiry (p : Pair) (s : State) : s.Kept (renewTimerExpiry p s) := by
  unfold Machine.renewTimerExpiry
  refine .ite (.refl s) ?_
  split
  · exact .ite (.refl s) (.claimWaitsEnd ..)
  · exact .refl s

theorem Kept.holdOffExpiry (p : Pair) (s : State) : s.Kept (holdOffExpiry p s) := by
  unfold Machine.holdOffExpiry
  refine .ite (.refl s) ?_
  split
  · exact .claimWaitsEnd ..
  · exact .refl s

theorem Kept.memberExpiry (e : EntryNo) (st : StationNo) (pr : PairNo) (s : State) :
    s.Kept (memberExpiry e st pr s) := by
  unfold Machine.memberExpiry
  refine .ite (.refl s) ?_
  split
  · exact .refl s
  · exact .after (.onEntry e (.of_calm (.writeEntry ..))) (.of_calm (.elapseTo ..))

theorem Kept.emptyListExpiry (e : EntryNo) (s : State) : s.Kept (emptyListExpiry e s) := by
  unfold Machine.emptyListExpiry
  refine .ite (.refl s) ?_
  split
  · exact .refl s
  · exact .after (.onEntry e (.of_calm (.writeEntry ..))) (.of_calm (.elapseTo ..))

theorem Kept.clearHoldExpiry (e : EntryNo) (s : State) : s.Kept (clearHoldExpiry e s) := by
  unfold Machine.clearHoldExpiry
  refine .ite (.refl s) ?_
  split
  · exact .refl s
  · exact .after (.onEntry e (.of_calm (.closeEntry ..))) (.of_calm (.elapseTo ..))

theorem Kept.confirmationRetryExpiry (e : EntryNo) (s : State) : s.Kept (confirmationRetryExpiry e s) := by
  unfold Machine.confirmationRetryExpiry
  refine .ite (.refl s) ?_
  split
  · exact .refl s
  · exact .after (.onEntry e (.settled (.after (.callTest _) (.writeEntry ..)))) (.of_calm (.elapseTo ..))

theorem Kept.viewLapse (s : State) : s.Kept (viewLapse s) := by
  unfold Machine.viewLapse
  refine .ite (.refl s) ?_
  split
  · exact .settled (.after (.setView ..) (.elapseTo ..))
  · exact .refl s
  · exact .refl s

theorem Calm.keepAliveDue (s : State) : s.Calm (keepAliveDue s) := by
  unfold Machine.keepAliveDue
  refine .ite (.refl s) ?_
  split
  · exact .refl s
  · exact .ite (.after (.place ..) (.elapseTo ..)) (.refl s)

theorem Kept.selfLimitExpiry (s : State) : s.Kept (selfLimitExpiry s) := by
  unfold Machine.selfLimitExpiry
  refine .ite (.refl s) ?_
  split
  · exact .refl s
  · exact .settled (.after (.loseLock ..) (.elapseTo ..))

theorem Kept.restraintExpiry (s : State) : s.Kept (restraintExpiry s) := by
  unfold Machine.restraintExpiry
  refine .ite (.refl s) ?_
  split
  · exact .refl s
  · exact .settled ((Calm.elapseTo s _).trans (.setBus _ _ rfl))

theorem Kept.jobDeadlineExpiry (job : Job) (s : State) : s.Kept (jobDeadlineExpiry job s) := by
  unfold Machine.jobDeadlineExpiry
  refine .ite (.refl s) ?_
  split
  · exact .refl s
  · cases job with
    | confirmation => exact .settled (.after (.concludeRun ..) (.elapseTo ..))
    | uplinkTest => exact .settled (.after (.endTest ..) (.elapseTo ..))

theorem Kept.releaseWaitExpiry (s : State) : s.Kept (releaseWaitExpiry s) := by
  unfold Machine.releaseWaitExpiry
  refine .ite (.refl s) ?_
  split
  · exact .refl s
  · exact .settled ((Calm.elapseTo s _).trans (.setBus _ _ rfl))

theorem Kept.selfReleaseExpiry (s : State) : s.Kept (selfReleaseExpiry s) := by
  unfold Machine.selfReleaseExpiry
  refine .ite (.refl s) ?_
  split
  · exact .refl s
  · exact .after (.settleIf ..) (.of_calm (.after (.cutAccess ..) (.elapseTo ..)))

/-! ### Commands and steps -/

theorem Kept.of_next {s t u : State} (h : s.Kept t)
    (e : (Host.Outcome.next t : Host.Outcome State Fault Refusal) = .next u) : s.Kept u := by
  cases e; exact h

/-- Every command but the release of the reset pin keeps the services, the commands that wait, the straps and the
records. -/
theorem Kept.exec {c : Instr} {s t : State} (h : exec c s = .next t) (hc : ∀ straps, c ≠ .resetPinRelease straps) :
    s.Kept t := by
  cases c with
  | resetPinAssert => exact .of_next (.of_calm (.pinAssert s)) h
  | resetPinRelease straps => exact absurd rfl (hc straps)
  | listenInExpiry => exact .of_next (.listenInExpiry s) h
  | scanTurn p tip ring => exact .of_next (.scanTurn p tip ring s) h
  | toneBlockComplete r samples => exact .of_next (.of_calm (.toneBlock s r samples)) h
  | digitPauseExpiry r => exact .of_next (.of_calm (.digitPause s r)) h
  | noDigitExpiry r => exact .of_next (.of_calm (.noDigit s r)) h
  | contentionStart => exact .of_next (.contentionStart s) h
  | arbitrationLost => exact .of_next (.arbitrationLost s) h
  | frameTruncated => exact .of_next (.frameTruncated s) h
  | frameCheckedOnly kind f => exact .of_next (.frameCheckedOnly kind f s) h
  | unhandledKindFrame long kind => exact .of_next (.unhandledKindFrame s) h
  | lockReceived f ownSeen => exact .of_next (.lockReceived f ownSeen s) h
  | unlockReceived f => exact .of_next (.unlockReceived f s) h
  | faultClaimReceived f => exact .of_next (.faultClaimReceived f s) h
  | leaveReceived f => exact .of_next (.leaveReceived f s) h
  | quietReceived f => exact .of_next (.testFrameReceived .quiet f s) h
  | releaseReceived f => exact .of_next (.testFrameReceived .release f s) h
  | testFrameSnooped kind f => exact .of_next (.testFrameReceived kind f s) h
  | deferredReplyReceived f => exact .of_next (.deferredReplyReceived f s) h
  | incidentSnooped f => exact .of_next (.incidentSnooped f s) h
  | queryPair f => exact .of_next (.commandReceived .queryPair f s) h
  | queryIncident f => exact .of_next (.commandReceived .queryIncident f s) h
  | testPair f => exact .of_next (.commandReceived .testPair f s) h
  | park f => exact .of_next (.commandReceived .park f s) h
  | unpark f => exact .of_next (.commandReceived .unpark f s) h
  | clearIncident f => exact .of_next (.commandReceived .clearIncident f s) h
  | restart f => exact .of_next (.commandReceived .restart f s) h
  | lineEventsOutcome r => exact .of_next (.frameOutcome .lineEvents r s) h
  | faultClaimOutcome r => exact .of_next (.frameOutcome .faultClaim r s) h
  | leaveOutcome r => exact .of_next (.frameOutcome .leave r s) h
  | lockOutcome r => exact .of_next (.frameOutcome .lock r s) h
  | unlockOutcome r => exact .of_next (.frameOutcome .unlock r s) h
  | quietOutcome r => exact .of_next (.frameOutcome .quiet r s) h
  | releaseOutcome r => exact .of_next (.frameOutcome .release r s) h
  | deferredReplyOutcome r => exact .of_next (.frameOutcome .deferredReply r s) h
  | incidentOutcome r => exact .of_next (.frameOutcome .incident r s) h
  | replyOutcome r => exact .of_next (.frameOutcome .reply r s) h
  | testResultOutcome r => exact .of_next (.frameOutcome .testResult r s) h
  | itemBackoffExpiry ref => exact .of_next (.of_calm (.itemBackoffExpiry ref s)) h
  | deferWaitExpiry p => exact .of_next (.deferWaitExpiry p s) h
  | renewTimerExpiry p => exact .of_next (.renewTimerExpiry p s) h
  | holdOffExpiry p => exact .of_next (.holdOffExpiry p s) h
  | memberExpiry e st pr => exact .of_next (.memberExpiry e st pr s) h
  | emptyListExpiry e => exact .of_next (.emptyListExpiry e s) h
  | clearHoldExpiry e => exact .of_next (.clearHoldExpiry e s) h
  | confirmationRetryExpiry e => exact .of_next (.confirmationRetryExpiry e s) h
  | viewLapse => exact .of_next (.viewLapse s) h
  | keepAliveDue => exact .of_next (.of_calm (.keepAliveDue s)) h
  | selfLimitExpiry => exact .of_next (.selfLimitExpiry s) h
  | restraintExpiry => exact .of_next (.restraintExpiry s) h
  | jobDeadlineExpiry job => exact .of_next (.jobDeadlineExpiry job s) h
  | releaseWaitExpiry => exact .of_next (.releaseWaitExpiry s) h
  | selfReleaseExpiry => exact .of_next (.selfReleaseExpiry s) h
  | calibrationDone volts => exact .of_next (.calibrationDone volts s) h
  | legOffReadingDone volts => exact .of_next (.legOffReadingDone volts s) h
  | legOnReadingDone volts => exact .of_next (.legOnReadingDone volts s) h

/-- The release of the reset pin sets every block on the new straps (R174), and lets the commands that wait stand. -/
theorem exec_resetPinRelease {straps : Straps} {s t : State} (h : exec (.resetPinRelease straps) s = .next t) :
    t.ServicesOk ∧ t.pending = s.pending ∧ t.Sound := by
  cases h; exact initialise_ok s straps _

/-- Every command keeps the records sound. -/
theorem Sound.exec {c : Instr} {s t : State} (hs : s.Sound) (h : exec c s = .next t) : t.Sound := by
  by_cases hc : ∃ straps, c = .resetPinRelease straps
  · obtain ⟨straps, rfl⟩ := hc
    exact (exec_resetPinRelease h).2.2
  · exact (Kept.exec h (not_exists.1 hc)).sound hs

theorem Calm.idle (s : State) : s.Calm s.idle := .ite (.of_quiet rfl rfl rfl rfl rfl rfl) (.refl s)

end State

/-- Settles O52: the records are sound through every operation of a command, and an idle step writes none. -/
theorem stepKeepsRecords : Obligations.StepKeepsRecords := by
  intro s t hr ha h
  have sound : s.Sound := State.sound_of_ok hr ha
  unfold step at h
  split at h
  · exact ((State.Calm.idle s).toKept.of_next h).sound sound |>.1
  · next rest _ =>
    have sound' : State.Sound { s with pending := rest } := sound
    exact (sound'.exec h).1

/-- Settles O58: every operation but the release of the reset pin keeps the services, the commands that wait and the
straps, and the release writes the two copies of the service alike. -/
theorem commandsKeepServiceAndStraps : Obligations.CommandsKeepServiceAndStraps := by
  intro c s t h
  by_cases hc : ∃ straps, c = .resetPinRelease straps
  · obtain ⟨straps, rfl⟩ := hc
    obtain ⟨services, pending, -⟩ := State.exec_resetPinRelease h
    exact ⟨fun _ => services, pending, fun hne => absurd rfl (hne straps)⟩
  · have kept := State.Kept.exec h (not_exists.1 hc)
    exact ⟨kept.services, kept.pending, fun _ => kept.straps⟩

end Sys2Proof.Machine
end

section
/-! PROOFS. The outcomes of this station's frames: what an outcome command does to the item in flight (R105 to R108),
the fate of a LINE EVENTS frame (R15 to R17) and the outcomes of a FAULT CLAIM (R91, R107, R114, R116). -/

namespace Sys2Proof.Machine

/-! ### The outcome commands -/

theorem exec_outcomeOf (k : ItemKind) (r : TxResult) (s : State) :
    exec (outcomeOf k r) s = .next (frameOutcome (sentKind k) r s) := by
  cases k <;> rfl

theorem exec_frameTruncated (s : State) : exec .frameTruncated s = .next (frameTruncated s) := rfl

theorem frameOutcome_of_sending {s : State} {x : Item} (h : s.sending x) (r : TxResult) :
    frameOutcome (sentKind x.kind) r s = ({ s with abandoned := r == .collision } : State).produce x r := by
  obtain ⟨hrun, hx⟩ := h
  cases r with
  | collision => simp [frameOutcome, hrun, hx, State.noteEnd]
  | sent c => simp [frameOutcome, hrun, hx, State.noteEnd, show (TxResult.sent c == .collision) = false from rfl]

theorem frameTruncated_of_sending {s : State} {x : Item} (h : s.sending x) :
    frameTruncated s = ({ s with abandoned := false, cells := noCells } : State).produce x .collision := by
  obtain ⟨hrun, hx⟩ := h
  have hx' : State.inFlight { s with abandoned := false, cells := noCells } = some x := hx
  simp [frameTruncated, hrun, hx']

/-- What an outcome command answers, with the state as `noteEnd` leaves it. -/
theorem exec_outcome_of_sending {s : State} {x : Item} (h : s.sending x) (r : TxResult) :
    exec (outcomeOf x.kind r) s = .next (({ s with abandoned := r == .collision } : State).produce x r) := by
  rw [exec_outcomeOf, frameOutcome_of_sending h]

/-! ### The item's own part (R106 to R109) -/

theorem dispose_failed_kept {x : Item} (hw : x.withdrawn = false) (ha : x.attempts < 3) (s : State) :
    s.dispose x .failed = (s.updateItem (itemRef x.kind) failedItem, .kept) := by
  have : ¬ 4 ≤ x.attempts + 1 := by omega
  simp [State.dispose, hw, this]

theorem dispose_failed_dropped {x : Item} (ha : 3 ≤ x.attempts) (s : State) :
    s.dispose x .failed = (s.removeItem (itemRef x.kind), .dropped) := by
  have : 4 ≤ x.attempts + 1 := by omega
  simp [State.dispose, this]

theorem dispose_busy_kept {x : Item} (hw : x.withdrawn = false) (s : State) :
    s.dispose x .busy = (s.updateItem (itemRef x.kind) s.busyItem, .kept) := by
  simp [State.dispose, hw]

theorem dispose_delivered (x : Item) (s : State) :
    s.dispose x .delivered = (s.removeItem (itemRef x.kind), .delivered) := rfl

/-- Which outcomes O29 and R106 count as failed: a collision, a VOID, and a long frame with neither ACK nor STALL. -/
theorem classifyOutcome_failed {k : ItemKind} {r : TxResult}
    (h : r = .collision ∨ ∃ c, r = .sent c ∧ (c.void = true ∨ (isShort k = false ∧ c.ack = false ∧ c.stall = false))) :
    classifyOutcome k r = .failed := by
  rcases h with rfl | ⟨c, rfl, hv | ⟨hk, ha, hs⟩⟩
  · exact classifyOutcome_collision k
  · exact classifyOutcome_of_void k hv
  · cases hv : c.void with
    | true => exact classifyOutcome_of_void k hv
    | false => rw [classifyOutcome_long hk hv hs, ha]; rfl

/-- A failed outcome of an item that stands, and has failed fewer than three times, only counts the attempt. -/
theorem produce_failed {s : State} {x : Item} {r : TxResult} (hr : classifyOutcome x.kind r = .failed)
    (hw : x.withdrawn = false) (hs : x.superseded = false) (ho : x.orphaned = false) (ha : x.attempts < 3)
    (he : ∀ e st pr, x.kind = .deferredReply e st pr → (s.entry e).check = true) :
    s.produce x r = s.updateItem (itemRef x.kind) failedItem := by
  have kept := dispose_failed_kept hw ha s
  unfold State.produce
  rw [hr]
  cases hk : x.kind with
  | faultClaim p =>
    have : ¬ 4 ≤ x.attempts + 1 := by omega
    simp [State.faultClaimDone, ho, hs, hw, hr, State.claimFailed, this, ← hk]
  | deferredReply e st pr =>
    rw [hk] at kept
    simp [State.deferredReplyDone, he e st pr hk, hw, kept]
  | lock keepAlive =>
    rw [hk] at kept
    cases keepAlive <;> simp [State.lockDone, ho, kept]
  | lineEvents p => rw [hk] at kept; simp [State.lineEventsDone, kept]
  | leave p key => rw [hk] at kept; simp [kept]
  | unlock => rw [hk] at kept; simp [State.unlockDone, ho, kept]
  | quiet st pr cls => rw [hk] at kept; simp [State.quietDone, ho, kept]
  | release st pr => rw [hk] at kept; simp [State.releaseDone, ho, kept]
  | incident e => rw [hk] at kept; simp [State.incidentDone, kept]
  | reply i => rw [hk] at kept; simp [State.replyDone, kept]
  | testResult => rw [hk] at kept; simp [State.testResultDone, kept]

/-- Settles O29: every producer keeps a failed item that has failed fewer than three times, and a truncation is a
collision to it. -/
theorem failedAttemptKeepsItem : Obligations.FailedAttemptKeepsItem := by
  intro s x r hx hw hs ho ha he
  have truncated := produce_failed (s := { s with abandoned := false, cells := noCells })
    (classifyOutcome_collision x.kind) hw hs ho ha he
  refine ⟨fun hr => ?_, congrArg Host.Outcome.next ((frameTruncated_of_sending hx).trans truncated)⟩
  have hfailed : classifyOutcome x.kind r = .failed := by
    refine classifyOutcome_failed (hr.imp_right fun ⟨c, hc, h⟩ =>
      ⟨c, hc, h.imp_right fun ⟨hlong, hcells⟩ => ⟨?_, hcells⟩⟩)
    cases hk : x.kind <;> simp_all [isShort]
  have counted := produce_failed (s := { s with abandoned := r == .collision }) hfailed hw hs ho ha he
  exact (exec_outcome_of_sending hx r).trans (congrArg Host.Outcome.next counted)

/-! ### LINE EVENTS (R15 to R17, R106) -/

section LineEvents

variable {s : State} {x : Item} {p : Pair} (hk : x.kind = .lineEvents p) (hw : x.withdrawn = false)
include hk

theorem lineEventsDone_delivered : s.lineEventsDone x p .delivered =
    (if x.orphaned then s.removeItem (.lineEvents p)
      else (s.removeItem (.lineEvents p)).setPair p
        ((s.pair p).accept (carried x.content).1 (carried x.content).2)).placeLineEvents p := by
  simp [State.lineEventsDone, dispose_delivered, hk, itemRef, State.modPair]

theorem lineEventsDone_dropped (ha : 3 ≤ x.attempts) : s.lineEventsDone x p .failed =
    (if x.orphaned then s.removeItem (.lineEvents p)
      else (s.removeItem (.lineEvents p)).setPair p ((s.pair p).lose (carried x.content).1)).placeLineEvents p := by
  simp [State.lineEventsDone, dispose_failed_dropped ha, hk, itemRef, State.modPair]

include hw

theorem lineEventsDone_failed (ha : x.attempts < 3) :
    s.lineEventsDone x p .failed = s.updateItem (.lineEvents p) failedItem := by
  simp [State.lineEventsDone, dispose_failed_kept hw ha, hk, itemRef]

theorem lineEventsDone_busy : s.lineEventsDone x p .busy = s.updateItem (.lineEvents p) s.busyItem := by
  simp [State.lineEventsDone, dispose_busy_kept hw, hk, itemRef]

end LineEvents

/-- Settles O31: the three outcomes that R106 makes of the cells, each at the pair table's side. -/
theorem lineEventsFate : Obligations.LineEventsFate := by
  intro s x p pr seq gap stale es c hx hk hw hcontent r ended gone ends leaves accepted failed busy
  have outcome {o : Outcome} {t : State} (ho : classifyOutcome (.lineEvents p) (.sent c) = o)
      (hd : ended.lineEventsDone x p o = t) : ends t := by
    have hexec := exec_outcome_of_sending hx (.sent c)
    rw [hk] at hexec
    rw [show ends t = (exec (outcomeOf (.lineEvents p) (.sent c)) s = .next t) from rfl, hexec, ← hd, ← ho]
    simp only [State.produce, hk]
    rfl
  have hfailed : ended.lineEventsDone x p .failed = failed := by
    by_cases ha : 3 ≤ x.attempts
    · simp only [failed, if_pos ha]
      rw [lineEventsDone_dropped hk ha, hcontent]
      rfl
    · simp only [failed, if_neg ha]
      rw [lineEventsDone_failed hk hw (by omega)]
      rfl
  refine ⟨fun hv => ?_, fun hv hs => ⟨fun ha => ?_, fun ha => ?_⟩, fun hv hs => ?_⟩
  · exact outcome (classifyOutcome_of_void _ hv) hfailed
  · refine outcome (o := .delivered) (by rw [classifyOutcome_long rfl hv hs, ha]; rfl) ?_
    rw [lineEventsDone_delivered hk, hcontent]
    have haccept : (s.pair p).accept es.length gap = { r with
        events := r.events.drop es.length, gap := if gap = true ∧ r.discard = false then false else r.gap } := by
      simp [PairRecord.accept, r]
    exact congrArg (fun y => (if x.orphaned = true then gone else gone.setPair p y).placeLineEvents p) haccept
  · exact outcome (by rw [classifyOutcome_long rfl hv hs, ha]; rfl) hfailed
  · refine outcome (classifyOutcome_of_stall _ hv hs) ?_
    rw [lineEventsDone_busy hk hw]
    rfl

/-! ### FAULT CLAIM (R91, R107, R114, R116) -/

/-- A FAULT CLAIM command reaches the claimant's part. -/
theorem exec_faultClaimOutcome {s : State} {x : Item} {p : Pair} (h : s.sending x) (hk : x.kind = .faultClaim p)
    (r : TxResult) :
    exec (.faultClaimOutcome r) s =
      .next (({ s with abandoned := r == .collision } : State).faultClaimDone x p r) := by
  have := exec_outcome_of_sending h r
  rw [hk] at this
  simpa only [outcomeOf, State.produce, hk] using this

section FaultClaim

variable {s : State} {x : Item} {p : Pair}

theorem faultClaimDone_of_orphaned (ho : x.orphaned = true) (r : TxResult) :
    s.faultClaimDone x p r = s.noAttempt x := by
  simp [State.faultClaimDone, ho]

theorem faultClaimDone_of_superseded {key : Key} {pr : PairNo} {tag : BitVec 5} {renew : Bool}
    (hc : x.content = some (.faultClaim key pr tag renew)) (ho : x.orphaned = false)
    (h : x.superseded = true ∨ x.withdrawn = true) (r : TxResult) :
    s.faultClaimDone x p r =
      if ownAlone r then (s.noAttempt x).place (.leave p key) else s.noAttempt x := by
  simp [State.faultClaimDone, ho, h, State.supersededDone, hc]

variable (hk : x.kind = .faultClaim p) (hw : x.withdrawn = false)
include hk

theorem noAttempt_of_withdrawn (h : x.withdrawn = true) : s.noAttempt x = s.removeItem (.faultClaim p) := by
  simp [State.noAttempt, h, hk, itemRef]

theorem claimAnswered_deferred (key : Key) (tag : BitVec 5) : s.claimAnswered x p key tag true true =
    (s.removeItem (.faultClaim p)).setClaim p (.deferred tag.toFin) (some (s.now + 10000)) := by
  simp [State.claimAnswered, hk, itemRef]

theorem claimAnswered_linked (key : Key) (tag : BitVec 5) : s.claimAnswered x p key tag true false =
    ((s.removeItem (.faultClaim p)).retireTag p).setClaim p (.linked key.cls false) (some (s.now + 60000)) := by
  simp [State.claimAnswered, hk, itemRef]

include hw

theorem noAttempt_of_standing : s.noAttempt x = s.updateItem (.faultClaim p) clearBuild := by
  simp [State.noAttempt, hw, hk, itemRef]

variable (hs : x.superseded = false) (ho : x.orphaned = false)
include hs ho

theorem faultClaimDone_fourth_failure {c : Cells} (hv : c.void = true) (ha : 3 ≤ x.attempts) :
    s.faultClaimDone x p (.sent c) =
      (s.updateItem (.faultClaim p) fun i => { clearBuild i with attempts := 0, round := 0 }).setPair p
        { s.pair p with claimTimer := some (s.now + 1000) } := by
  have : 4 ≤ x.attempts + 1 := by omega
  simp [State.faultClaimDone, ho, hs, hw, hk, classifyOutcome_of_void _ hv, State.claimFailed, this, itemRef,
    State.modPair]

theorem faultClaimDone_answered {c : Cells} {key : Key} {pr : PairNo} {tag : BitVec 5} {renew : Bool}
    (hc : x.content = some (.faultClaim key pr tag renew)) (hv : c.void = false) (hst : c.stall = false) :
    s.faultClaimDone x p (.sent c) = s.claimAnswered x p key tag c.own c.defer := by
  have delivered : classifyOutcome (.faultClaim p) (.sent c) = .delivered := by
    simp [classifyOutcome, hv, hst, isLock, isShort]
  simp [State.faultClaimDone, ho, hs, hw, hk, delivered, hc]

end FaultClaim

/-- Settles O32: the claimant's part of an outcome, by what has become of its claim while the frame was out. -/
theorem faultClaimAnswered : Obligations.FaultClaimAnswered := by
  intro s x p key pr tag renew hx hk hcontent ended gone again alone
  have sent (c : Cells) : exec (.faultClaimOutcome (.sent c)) s = .next (ended.faultClaimDone x p (.sent c)) :=
    exec_faultClaimOutcome hx hk (.sent c)
  have ownAlone_sent (c : Cells) : ownAlone (.sent c) = true ↔ alone c := by
    simp [ownAlone, alone, and_assoc]
  refine ⟨fun c hv hst hown hw hs ho => ?_, fun c hv ha hw hs ho => ?_, fun c hw ho => ?_, fun c hw hs ho => ?_,
    fun hw hs ho => ?_, fun c ho => ?_⟩
  · rw [sent, faultClaimDone_answered hk hw hs ho hcontent hv hst, hown]
    exact ⟨fun hd => by rw [hd, claimAnswered_deferred hk]; rfl, fun hd => by rw [hd, claimAnswered_linked hk]; rfl⟩
  · rw [sent, faultClaimDone_fourth_failure hk hw hs ho hv ha]
    rfl
  · rw [sent, faultClaimDone_of_superseded hcontent ho (.inr hw), noAttempt_of_withdrawn hk hw, ← ownAlone_sent]
    exact ⟨fun h => by rw [if_pos h], fun h => by rw [if_neg h]⟩
  · rw [sent, faultClaimDone_of_superseded hcontent ho (.inl hs), noAttempt_of_standing hk hw, ← ownAlone_sent]
    exact ⟨fun h => by rw [if_pos h]; rfl, fun h => by rw [if_neg h]; rfl⟩
  · rw [exec_faultClaimOutcome hx hk, faultClaimDone_of_superseded hcontent ho (.inl hs), noAttempt_of_standing hk hw]
    rfl
  · rw [sent, faultClaimDone_of_orphaned ho]
    exact ⟨fun hw => by rw [noAttempt_of_withdrawn hk hw], fun hw => by rw [noAttempt_of_standing hk hw]; rfl⟩

end Sys2Proof.Machine
end

section
/-! PROOFS. The turns of the scan that change little: an unsampled turn (R18, R19, R75), and the sampled turns at which
the feed freezes or returns (R52, R53). -/

namespace Sys2Proof.Machine

/-! ### The turns of R18 -/

theorem State.setPair_setPair (s : State) (p : Pair) (a b : PairRecord) :
    (s.setPair p a).setPair p b = s.setPair p b := by
  simp [State.setPair]

theorem exec_scanTurn (p : Pair) (tip ring : Int) (s : State) :
    exec (.scanTurn p tip ring) s = .next (scanTurn p tip ring s) := rfl

theorem scanTurn_of_absent {s : State} {p : Pair} (h : s.service p = .absent) (tip ring : Int) :
    scanTurn p tip ring s = s := by
  simp [scanTurn, h]

theorem scanTurn_of_parked {s : State} {p : Pair} (h : s.service p = .parked) (hc : (s.pair p).check = true)
    (tip ring : Int) : scanTurn p tip ring s = s := by
  simp [scanTurn, h, hc]

theorem scanTurn_of_access {s : State} {p : Pair} (hr : s.running = true) (h : s.service p = .equipped)
    (hc : (s.pair p).check = true) (hf : (s.pair p).freeze = .access) (tip ring : Int) :
    scanTurn p tip ring s = s.accessTurn p := by
  simp [scanTurn, hr, h, hc, hf]

theorem scanTurn_of_samples {s : State} {p : Pair} (h : s.samples p) (tip ring : Int) :
    scanTurn p tip ring s = s.sampleTurn p tip ring := by
  obtain ⟨hr, hs, hc, hf, -⟩ := h
  simp [scanTurn, hr, hs, hc, hf]

theorem closeIfFull_of_lt {s : State} {p : Pair} (h : (s.pair p).acc.scans < 20) : s.closeIfFull p = s := by
  have : ¬ 20 ≤ (s.pair p).acc.scans := by omega
  simp [State.closeIfFull, this]

theorem closeIfFull_of_ge {s : State} {p : Pair} (hr : s.running = true) (h : 20 ≤ (s.pair p).acc.scans) :
    s.closeIfFull p = s.closeInterval p := by
  simp [State.closeIfFull, hr, h]

/-! ### Unsampled turns -/

theorem ringingClose_of_frozen {i : IntervalRecord} (h : i.freeze ≠ .unfrozen) (r : PairRecord) :
    ringingClose r i = (r, none) := by
  simp [ringingClose, h]

theorem integrateClose_of_access {i : IntervalRecord} (h : i.freeze = .access) (r : PairRecord) :
    integrateClose r i = (r, .quiet) := by
  simp [integrateClose, h]

/-- The close of an interval in ACCESS empties the accumulator and weighs nothing (R75). -/
theorem closeInterval_of_access {s : State} {p : Pair} (h : (s.pair p).freeze = .access) :
    s.closeInterval p = (s.setPair p { s.pair p with acc := .empty }).placeLineEvents p := by
  have hi : (intervalRecord (s.pair p).acc (s.pair p).freeze).freeze = .access := h
  have hne : (intervalRecord (s.pair p).acc (s.pair p).freeze).freeze ≠ .unfrozen := by rw [hi]; decide
  simp only [State.closeInterval, ringingClose_of_frozen hne, integrateClose_of_access hi]
  simp [faultEvent, appendClose, State.faultConsequence, State.settleIf]

/-- Settles O5: by the branches of R18, and by the fill of the accumulator in TEST_ACCESS. -/
theorem unsampledTurns : Obligations.UnsampledTurns := by
  intro s p tip ring hr
  refine ⟨fun h => ?_, fun h hc => ?_, fun h hc hf => ?_⟩
  · rw [exec_scanTurn, scanTurn_of_absent h]
  · rw [exec_scanTurn, scanTurn_of_parked h hc]
  · rw [exec_scanTurn, scanTurn_of_access hr h hc hf]
    refine ⟨fun hn => ?_, fun hn => ?_⟩
    · rw [State.accessTurn, closeIfFull_of_lt (by simp; omega)]
      rfl
    · rw [State.accessTurn, closeIfFull_of_ge (by simp [hr]) (by simp; omega), closeInterval_of_access (by simp [hf]),
        State.modPair, State.setPair_setPair, State.pair_setPair_same]
      rfl

/-! ### A sampled turn away from a close -/

theorem sample_scans (r : PairRecord) (tip ring : Int) : (r.sample tip ring).acc.scans = r.acc.scans + 1 := by
  simp only [PairRecord.sample, Accumulator.addSample]
  split
  · rfl
  · split <;> rfl

/-- A sampled turn at which the loop supervisor tells no receiver, latches nothing and no interval closes writes the
record, and beside it only places the LINE EVENTS item and notes the audio. -/
theorem exec_scanTurn_of_silent {s : State} {p : Pair} {tip ring : Int} {x : PairRecord} (h : s.samples p)
    (hx : loopSample s.now ((s.pair p).sample (senseReading tip) (senseReading ring))
      ((s.pair p).sample (senseReading tip) (senseReading ring)).classMemory = (x, .silent))
    (hl : x.latched = ((s.pair p).sample (senseReading tip) (senseReading ring)).latched)
    (ha : x.acc = ((s.pair p).sample (senseReading tip) (senseReading ring)).acc) :
    exec (.scanTurn p tip ring) s = .next (((s.setPair p x).placeLineEvents p).noteAudio p) := by
  have hscans := h.2.2.2.2
  rw [exec_scanTurn, scanTurn_of_samples h]
  simp only [State.sampleTurn, hx, State.poolMessage]
  rw [State.evaluateLoop, if_pos (by simp [hl]), closeIfFull_of_lt]
  simp [ha, sample_scans]
  omega

section FeedFreeze

@[simp] theorem PairRecord.append_loop (r : PairRecord) (now : Nat) (t : EventType) (v : Nat) :
    (r.append now t v).loop = r.loop := by rw [PairRecord.append_eq]

@[simp] theorem PairRecord.append_closedRun (r : PairRecord) (now : Nat) (t : EventType) (v : Nat) :
    (r.append now t v).closedRun = r.closedRun := by rw [PairRecord.append_eq]

@[simp] theorem PairRecord.append_breakLength (r : PairRecord) (now : Nat) (t : EventType) (v : Nat) :
    (r.append now t v).breakLength = r.breakLength := by rw [PairRecord.append_eq]

@[simp] theorem PairRecord.append_beforeBreak (r : PairRecord) (now : Nat) (t : EventType) (v : Nat) :
    (r.append now t v).beforeBreak = r.beforeBreak := by rw [PairRecord.append_eq]

variable {now : Nat} {r : PairRecord}

/-- An append and a write of the loop state, the closed run and the break length do not meet. -/
theorem append_setLoop (r : PairRecord) (t : EventType) (v : Nat) (l : LoopState) (c b : Nat) :
    ({ r with loop := l, closedRun := c, breakLength := b } : PairRecord).append now t v =
      { r.append now t v with loop := l, closedRun := c, breakLength := b } := by
  unfold PairRecord.append; split <;> rfl

/-- The twentieth DEAD sample in a row freezes the record that the loop machine leaves (R36, R52). -/
theorem loopSample_dead_full {y : PairRecord} {m : PoolMessage} (h : r.freeze = .unfrozen) (hd : r.classMemory = .dead)
    (hn : y.feedDead = 19) (hy : loopMachine now r false = (y, m)) :
    loopSample now r r.classMemory = (feedFreeze now y, m) := by
  have : effectiveClosed r .dead = false := rfl
  simp [loopSample, h, hd, this, hy, countDead, hn]

theorem loopMachine_onHook_open (h : r.loop = .onHook) :
    loopMachine now r false = ({ r with closedRun := 0 }, .silent) := by
  simp [loopMachine, h]

theorem loopMachine_seizePending_open (h : r.loop = .seizePending) :
    loopMachine now r false = ({ r with loop := .onHook, closedRun := 0 }, .silent) := by
  simp [loopMachine, h]

theorem loopMachine_inBreak_open (h : r.loop = .inBreak) (hb : r.breakLength < 160) :
    loopMachine now r false = ({ r with breakLength := r.breakLength + 1 }, .silent) := by
  have : ¬ 160 ≤ r.breakLength := by omega
  simp [loopMachine, h, this]

theorem feedFreeze_onHook (h : r.loop = .onHook) : feedFreeze now r =
    { r.append now .feedLost 0 with freeze := .feed, stale := true, feedDead := 0, feedBack := 0 } := by
  simp [feedFreeze, h]

theorem feedFreeze_inBreak (h : r.loop = .inBreak) : feedFreeze now r =
    { r.append now .feedLost 0 with
      loop := r.beforeBreak, breakLength := 0, freeze := .feed, stale := true, feedDead := 0, feedBack := 0 } := by
  simp [feedFreeze, h]

theorem loopSample_feed (h : r.freeze = .feed) :
    loopSample now r r.classMemory = (countBack now r r.classMemory, .silent) := by
  simp [loopSample, h]

end FeedFreeze

/-- Settles O9: the turns are silent ones, so the record that the loop supervisor leaves is all there is to compute. -/
theorem feedFreezeAndReturn : Obligations.FeedFreezeAndReturn := by
  intro s p tip ring h r
  have silent {x : PairRecord} (hx : loopSample s.now r r.classMemory = (x, .silent)) (hl : x.latched = r.latched)
      (ha : x.acc = r.acc) : exec (.scanTurn p tip ring) s = .next (((s.setPair p x).placeLineEvents p).noteAudio p) :=
    exec_scanTurn_of_silent h hx hl ha
  have feed (hf : (s.pair p).freeze = .feed) := loopSample_feed (now := s.now) (r := r) hf
  refine ⟨fun hf hd hn hl hb => silent ?_ ?_ ?_, fun hf hd hn hl => silent ?_ ?_ ?_, fun hf hd => silent ?_ rfl rfl,
    fun hf hd hn => silent ?_ rfl rfl, fun hf hd hn => silent ?_ ?_ ?_⟩
  · rw [loopSample_dead_full (r := r) hf hd (by exact hn) (loopMachine_inBreak_open hl hb),
      feedFreeze_inBreak (by exact hl), append_setLoop]
    simp only [PairRecord.append_closedRun]
  · exact PairRecord.append_latched ..
  · exact PairRecord.append_acc ..
  · rcases hl with hl | hl
    · rw [loopSample_dead_full (r := r) hf hd (by exact hn) (loopMachine_onHook_open hl),
        feedFreeze_onHook (by exact hl), append_setLoop]
      simp only [PairRecord.append_breakLength, hl]
    · rw [loopSample_dead_full (r := r) hf hd (by exact hn) (loopMachine_seizePending_open hl),
        feedFreeze_onHook rfl, append_setLoop]
      simp only [PairRecord.append_breakLength]
  · exact PairRecord.append_latched ..
  · exact PairRecord.append_acc ..
  · rw [feed hf]
    simp [countBack, hd]
  · rw [feed hf]
    have : ¬ 3 ≤ r.feedBack := by omega
    simp [countBack, hd, this]
  · rw [feed hf]
    simp [countBack, hd, hn]
  · exact PairRecord.append_latched ..
  · exact PairRecord.append_acc ..

end Sys2Proof.Machine
end

section
/-! PROOFS. Contention: the build of the first eligible item's content, kind by kind (R105), a lost arbitration (R97,
R108), and the header of the frame sent (R95, R102, R179). -/

namespace Sys2Proof.Machine

/-! ### The START -/

theorem running_of_active {s : State} (h : s.station = .active) : s.running = true := by
  simp [State.running, h]

theorem exec_contentionStart (s : State) : exec .contentionStart s = .next (contentionStart s) := rfl

section Start

variable {s : State} (ha : s.station = .active) (hf : s.inFlight = none)
include ha hf

/-- A START that finds no eligible item only begins a new frame on the bus (R98, R105). -/
theorem exec_contentionStart_of_none (hx : s.queue.find? s.eligible = none) :
    exec .contentionStart s = .next { s with abandoned := false } := by
  have hx' : s.queue.find? (State.eligible { s with abandoned := false }) = none := hx
  rw [exec_contentionStart, contentionStart, if_neg (by simp [ha, hf])]
  simp only [hx']

/-- The first eligible item's content, as its producer builds it, is fixed in the item (R105). -/
theorem exec_contentionStart_of_built {x : Item} {t : State} {b : Body} (hx : s.queue.find? s.eligible = some x)
    (hb : State.buildContent { s with abandoned := false } x.kind = (t, some b)) (ht : t.running = true) :
    exec .contentionStart s = .next (t.updateItem (itemRef x.kind) fun y => { y with content := some b }) := by
  have hx' : s.queue.find? (State.eligible { s with abandoned := false }) = some x := hx
  rw [exec_contentionStart, contentionStart, if_neg (by simp [ha, hf])]
  simp [hx', State.offer, hb, ht]

end Start

/-! ### The contents -/

theorem buildContent_faultClaim {s : State} {p : Pair} {tag : Tag} {cls : FaultClass}
    (h : s.tagOf p = some (tag, cls)) :
    s.buildContent (.faultClaim p) =
      (s, some (.faultClaim (s.pairKey p cls) (pairNo p) (BitVec.ofFin tag) (isRenewal (s.pair p).claim))) := by
  simp [State.buildContent, h]

theorem buildContent_lineEvents {s : State} {p : Pair} {e : Event} {rest : List Event}
    (h : (s.pair p).events = e :: rest) :
    s.buildContent (.lineEvents p) = (s.modPair p fun r => { r with discard := false },
      some (.lineEvents (pairNo p) e.seq (s.pair p).gap (s.pair p).stale
        (((s.pair p).events.take 6).map (wireEvent s.now)))) := by
  simp [State.buildContent, lineEventsBody, h]

theorem buildContent_deferredReply {s : State} {e : EntryNo} {st : StationNo} {pr : PairNo} {d : Defer} {key : Key}
    (hk : (s.entry e).key = some key) (hd : (s.entry e).defers.find? (Defer.isOf st pr) = some d) :
    s.buildContent (.deferredReply e st pr) =
      (s, some (.deferredReply d.tag d.pair key ((s.entry e).state != .free))) := by
  simp [State.buildContent, hk, hd]

theorem buildContent_incident {s : State} {e : EntryNo} (hr : s.running = true) (hc : (s.entry e).check = true) :
    s.buildContent (.incident e) =
      (s.writeEntry e { s.entry e with changed := false }, incidentBody (s.entry e)) := by
  simp [State.buildContent, hc, hr]

/-- Telling an entry clears its changed flag, which calls for no test and places no item (R128). -/
theorem writeEntry_told (s : State) (e : EntryNo) :
    s.writeEntry e { s.entry e with changed := false } =
      { s with
        entries := s.entries.set e.val { s.entry e with changed := false, check := true } e.isLt
        keyStore := s.keyStore.set e.val (s.entry e).key e.isLt } := by
  simp [State.writeEntry, Entry.callsTest]

theorem incidentBody_closed {x : Entry} {key : Key} {c : ClosingReport} (hk : x.key = some key) (hs : x.state = .free)
    (hc : x.closing = some c) : incidentBody x = some (.incident key .closed c.verdict c.forced 0 []) := by
  simp [incidentBody, hk, hs, hc]

theorem incidentBody_of_owned {x : Entry} {key : Key} (hk : x.key = some key) (hs : x.state ≠ .free) :
    incidentBody x = some (.incident key (reportedState x.state) x.verdict false
      (min 255 (x.members.length + x.overflow)) ((x.members.take 5).map wireMember)) := by
  cases hst : x.state <;> simp_all [incidentBody]

/-- How the obligations name the state that a report or a view gives an owned entry (R128, R182). -/
theorem reportedState_of_named {x : EntryState} {st : ReportedState}
    (h : (x = .opened ∧ st = .opened) ∨ (x = .confirming ∧ st = .confirming) ∨
      (x = .confirmed ∧ st = .confirmed) ∨ (x = .clearing ∧ st = .clearing)) : x ≠ .free ∧ reportedState x = st := by
  rcases h with ⟨rfl, rfl⟩ | ⟨rfl, rfl⟩ | ⟨rfl, rfl⟩ | ⟨rfl, rfl⟩ <;> exact ⟨by decide, rfl⟩

theorem buildContent_testResult {s : State} {p : Pair} {outcome : TestOutcome} {legs : List LegRecord}
    (h : s.bus.test = some { pair := p, phase := .ended outcome legs }) :
    s.buildContent .testResult =
      (s, some (.testResult (pairNo p) outcome (if outcome == .done then legs.map wireLeg else []))) := by
  simp [State.buildContent, testResultBody, h]

theorem buildContent_reply {s : State} {i : Fin 4} {slot : ReplySlot} (h : s.slot i = some slot) :
    s.buildContent (.reply i) = ((s.buildReply slot).1, some (s.buildReply slot).2) := by
  simp [State.buildContent, h]

theorem buildReply_of_status {slot : ReplySlot} {status : Status} (h : slot.status = some status) (s : State) :
    s.buildReply slot = (s, .reply slot.command status (slotView slot)) := by
  simp [State.buildReply, h]

/-! ### A lost arbitration -/

theorem exec_arbitrationLost {s : State} {x : Item} (h : s.sending x) :
    exec .arbitrationLost s = .next
      (if x.withdrawn then (s.removeItem (itemRef x.kind)).settle else s.updateItem (itemRef x.kind) clearBuild) := by
  obtain ⟨hr, hx⟩ := h
  show Host.Outcome.next (arbitrationLost s) = _
  simp [arbitrationLost, hr, hx]

/-! ### The frame sent -/

theorem outgoing_of_built {s : State} {x : Item} {b : Body} (hx : s.inFlight = some x) (hb : x.content = some b) :
    s.outgoing = some (sentFrame s.straps.station (s.targetOf x.kind) 2 b) := by
  simp [State.outgoing, hx, hb]

/-- The precedence of R102, for the kinds of one row. -/
theorem precedence_of_mem {kinds : List FrameKind} {n : Nat} (h : ∀ k ∈ kinds, kindPrecedence k = n) {b : Body}
    (hb : bodyKind b ∈ kinds) (sender target : StationNo) (authority : BitVec 2) :
    (sentFrame sender target authority b).frame.precedence = BitVec.ofNat 3 n :=
  congrArg (BitVec.ofNat 3) (h _ hb)

/-- Settles O17: the build by the kind of the first eligible item, a lost arbitration, and the frame sent. -/
theorem contention : Obligations.Contention := by
  refine ⟨?_, fun s x hx => ?_, fun s x b hx hb => ?_⟩
  · intro s ha hf quiet
    refine ⟨exec_contentionStart_of_none ha hf, ?_⟩
    intro x hx built
    have hr : quiet.running = true := running_of_active ha
    have states {t : State} {b : Body} (hb : quiet.buildContent x.kind = (t, some b)) (ht : t.running = true) :
        exec .contentionStart s = built t b := exec_contentionStart_of_built ha hf hx hb ht
    refine ⟨fun b hb => states ?_ hr, fun p hk e rest he => ?_, fun e st pr d key hk hkey hd => ?_, ?_,
      fun p outcome legs hk ht => ?_, fun i slot status hk hslot hst => ?_⟩
    · rcases hb with ⟨k, hk, rfl⟩ | ⟨hk, rfl⟩ | ⟨st, pr, cls, hk, rfl⟩ | ⟨st, pr, hk, rfl⟩ | ⟨p, key, hk, rfl⟩ |
        ⟨p, tag, cls, hk, htag, rfl⟩
      case inr.inr.inr.inr.inr => rw [hk]; exact buildContent_faultClaim htag
      all_goals rw [hk]; rfl
    · exact states (by rw [hk]; exact buildContent_lineEvents he) (by simpa using hr)
    · exact states (by rw [hk]; exact buildContent_deferredReply hkey hd) hr
    · intro e key hk hc hkey y told
      have tells {b : Body} (hb : incidentBody y = some b) : exec .contentionStart s = built told b := by
        refine states ?_ hr
        rw [hk, buildContent_incident hr hc, writeEntry_told, ← hb]
        simp only [told, ← hkey]
        rfl
      refine ⟨fun st hst => ?_, fun c hs hclosing => tells (incidentBody_closed hkey hs hclosing)⟩
      obtain ⟨hne, rfl⟩ := reportedState_of_named hst
      exact tells (incidentBody_of_owned hkey hne)
    · have := states (by rw [hk]; exact buildContent_testResult ht) hr
      simp only [beq_iff_eq] at this
      exact this
    · refine states ?_ hr
      rw [hk, buildContent_reply (s := quiet) hslot, buildReply_of_status hst]
      rfl
  · rw [exec_arbitrationLost hx]
    exact ⟨fun hw => by rw [hw]; rfl, fun hw => by rw [hw]; rfl⟩
  · refine ⟨_, outgoing_of_built hx hb, rfl, rfl, rfl, rfl, rfl, rfl,
      ⟨fun st pr cls hk => ?_, fun st pr hk => ?_, fun e st pr hk => ?_, fun i slot hk hslot => ?_, fun hk => ?_⟩,
      fun h => precedence_of_mem (by decide) h .., fun h => precedence_of_mem (by decide) h ..,
      fun h => precedence_of_mem (kinds := [.long .reply]) (by decide) (List.mem_singleton.2 h) ..,
      fun h => precedence_of_mem (kinds := [.long .lineEvents]) (by decide) (List.mem_singleton.2 h) ..,
      fun h => precedence_of_mem (by decide) h ..⟩
    · show s.targetOf x.kind = st
      rw [hk]; rfl
    · show s.targetOf x.kind = st
      rw [hk]; rfl
    · show s.targetOf x.kind = st
      rw [hk]; rfl
    · show s.targetOf x.kind = slot.sender
      simp [hk, State.targetOf, hslot]
    · show s.targetOf x.kind = 15
      rcases hk with ⟨p, hk⟩ | ⟨e, hk⟩ | hk <;> rw [hk] <;> rfl

/-! ### Replies to queries (R163 to R166) -/

theorem buildReply_queryPair {slot : ReplySlot} {index : BitVec 5} {part : BitVec 2} (hst : slot.status = none)
    (hc : slot.command = .queryPair index part) (s : State) :
    s.buildReply slot = (s, .reply slot.command (s.pairQuery index part slot.stationAtTaking).1
      (s.pairQuery index part slot.stationAtTaking).2) := by
  simp [State.buildReply, hst, hc]

theorem buildReply_queryIncident {slot : ReplySlot} {key : Key} {page : BitVec 3} (hst : slot.status = none)
    (hc : slot.command = .queryIncident key page) (s : State) :
    s.buildReply slot = ((s.incidentQuery key page).1, .reply slot.command (s.incidentQuery key page).2.1
      (s.incidentQuery key page).2.2) := by
  simp [State.buildReply, hst, hc]

section PairQuery

variable {s : State} {index : BitVec 5} {p : Pair} {kept : Option StationState}

theorem pairQuery_of_absent (hp : toPair index = some p) (h : s.service p = .absent) (part : BitVec 2) :
    s.pairQuery index part kept = (.absent, .nothing) := by
  simp [State.pairQuery, hp, h]

theorem pairQuery_of_present (hp : toPair index = some p) (h : s.service p ≠ .absent) (part : BitVec 2) :
    s.pairQuery index part kept =
      if part = 0 then (.done, .line (s.lineView p)) else if part = 1 then (.done, .fault (s.faultView p))
      else (.noSuch, .nothing) := by
  simp [State.pairQuery, hp, h]

/-- An index past the pairs and the pseudo-pairs, or a part that a pseudo-pair does not have (R164, R165). -/
theorem pairQuery_noSuch {part : BitVec 2}
    (h : 28 ≤ index.toNat ∨ (24 ≤ index.toNat ∧ index ≠ 26 ∧ part ≠ 0) ∨ (index = 26 ∧ part ≠ 0 ∧ part ≠ 1)) :
    s.pairQuery index part kept = (.noSuch, .nothing) := by
  have hpair : toPair index = none := by
    have : ¬ index.toNat < 24 := by
      rcases h with h | ⟨h, -⟩ | ⟨rfl, -⟩
      · omega
      · omega
      · decide
    simp [toPair, this]
  simp only [State.pairQuery, hpair]
  split
  case h_6 => rfl
  all_goals next hi hp => exfalso; revert h; bv_omega

/-- The pseudo-pairs and their parts (R164, R165). -/
theorem pairQuery_identity : s.pairQuery 24 0 kept = (.done, .identity s.straps) := rfl

theorem pairQuery_condition : s.pairQuery 25 0 kept =
    (.done, .condition (kept == some .active) s.unit.failed s.integrityMark s.incidentsHeld) := rfl

theorem pairQuery_testBus : s.pairQuery 26 0 kept = (.done, .testBus s.busView) := rfl

theorem pairQuery_lastMeasured : s.pairQuery 26 1 kept = (.done, .lastMeasured s.unit.last) := rfl

theorem pairQuery_tonePool : s.pairQuery 27 0 kept = (.done, s.poolView) := rfl

end PairQuery

section IncidentQuery

variable {s : State} {key : Key} {page : BitVec 3}

theorem ownedEntry_eq_none {s : State} {key : Key}
    (h : ∀ e : EntryNo, (s.entry e).key = some key → (s.entry e).state = .free) : s.ownedEntry key = none := by
  refine List.find?_eq_none.2 fun e _ => ?_
  simp only [Bool.and_eq_true, bne_iff_ne, beq_iff_eq, not_and]
  exact fun hs hk => hs (h e hk)

/-- A key that stands in no entry, or in a FREE one alone, answers NO_SUCH and changes nothing (R166). -/
theorem incidentQuery_of_free
    (h : ∀ e : EntryNo, (s.entry e).key = some key → (s.entry e).state = .free ∧ (s.entry e).check = true) :
    s.incidentQuery key page = (s, .noSuch, .nothing) := by
  unfold State.incidentQuery
  cases he : s.entryHolding key with
  | none => rfl
  | some e =>
    have hkey : (s.entry e).key = some key := by
      rw [State.entryHolding, ownedEntry_eq_none fun e he => (h e he).1] at he
      simpa using List.find?_some he
    obtain ⟨hs, hc⟩ := h e hkey
    simp [hs, hc]

theorem entryHolding_of_owned {e : EntryNo} (h : s.ownedEntry key = some e) : s.entryHolding key = some e := by
  simp [State.entryHolding, h]

theorem incidentQuery_of_owned {e : EntryNo} (h : s.ownedEntry key = some e) (hc : (s.entry e).check = true) :
    s.incidentQuery key page = (s, .done, incidentView (s.entry e) page) := by
  have hs := (State.ownedEntry_state h).1
  simp [State.incidentQuery, entryHolding_of_owned h, hc, hs]

/-- An entry whose check fails at the reading is lost, and answers NO_SUCH (R131, R166). -/
theorem incidentQuery_of_lost {e : EntryNo} (h : s.ownedEntry key = some e) (hc : (s.entry e).check = false) :
    s.incidentQuery key page = ((s.loseEntry e).settle, .noSuch, .nothing) := by
  simp [State.incidentQuery, entryHolding_of_owned h, hc]

end IncidentQuery

/-- The service word of R4, as the obligation writes it. -/
theorem serviceWord_eq (v : Service) (c : ClaimState) : serviceWord v c =
    match v, c with
    | .absent, _ => -2
    | .parked, _ => -1
    | .equipped, .linked cls false => classCode cls + 1
    | .equipped, .linked cls true => classCode cls + 5
    | .equipped, _ => 0 := by
  cases v with
  | absent => rfl
  | parked => rfl
  | equipped =>
    cases c with
    | linked cls owned => cases owned <;> rfl
    | _ => rfl

/-- Settles O18: the build of a REPLY whose slot holds no status yet, by its query. -/
theorem queryRepliesBuilt : Obligations.QueryRepliesBuilt := by
  intro s x i slot ha hf hx hk hslot hst quiet built states
  have hr : quiet.running = true := running_of_active ha
  have builds {t : State} {status : Status} {view : View} (ht : t.running = true)
      (hb : quiet.buildReply slot = (t, .reply slot.command status view)) :
      exec .contentionStart s = .next (built t status view) := by
    have := exec_contentionStart_of_built ha hf hx (t := t) (b := .reply slot.command status view)
      (by rw [hk, buildContent_reply (s := quiet) hslot, hb]) ht
    rw [hk] at this
    exact this
  refine ⟨?_, ?_⟩
  · intro index part hc
    have answers {status : Status} {view : View}
        (h : quiet.pairQuery index part slot.stationAtTaking = (status, view)) : states status view :=
      builds hr (by rw [buildReply_queryPair hst hc, h])
    refine ⟨?_, fun hi hp => ?_, fun hi hp => ?_, fun hi hp => ?_, fun hi hp => ?_, fun hi hp => ?_,
      fun h => answers (pairQuery_noSuch h)⟩
    · intro p hp r word
      have hword : quiet.serviceWordOf p = word := serviceWord_eq _ _
      have present (h : s.service p ≠ .absent) :=
        pairQuery_of_present (s := quiet) (kept := slot.stationAtTaking) hp h part
      refine ⟨fun h => answers (pairQuery_of_absent hp h part), fun h h0 => answers ?_, fun h h1 => answers ?_,
        fun h h0 h1 => answers ?_⟩
      · rw [present h, if_pos h0, State.lineView, hword]
        simp only [beq_iff_eq]
        rfl
      · rw [present h, if_neg (by rw [h1]; decide), if_pos h1, State.faultView, hword]
        rfl
      · rw [present h, if_neg h0, if_neg h1]
    · subst hi hp; exact answers pairQuery_identity
    · subst hi hp; exact answers pairQuery_condition
    · subst hi hp
      refine answers (pairQuery_testBus.trans ?_)
      simp only [State.busView, Prod.mk.injEq, View.testBus.injEq, true_and]
      congr 1
      · rcases s.bus.run with _ | ⟨entry, key, _ | deadline⟩ <;> rfl
      · rcases s.bus.test with _ | ⟨pair, _ | _ | _⟩ <;> rfl
    · subst hi hp; exact answers pairQuery_lastMeasured
    · subst hi hp; exact answers pairQuery_tonePool
  · intro key page hc
    have answers {t : State} {status : Status} {view : View} (ht : t.running = true)
        (h : quiet.incidentQuery key page = (t, status, view)) :
        exec .contentionStart s = .next (built t status view) :=
      builds ht (by rw [buildReply_queryIncident hst hc, h])
    refine ⟨fun h => answers hr (incidentQuery_of_free h), ?_⟩
    intro e he y
    refine ⟨fun hcheck st hnamed => ?_, ?_⟩
    · obtain ⟨-, rfl⟩ := reportedState_of_named hnamed
      exact answers hr (incidentQuery_of_owned (s := quiet) he hcheck)
    · intro hcheck t ht
      exact answers ht (incidentQuery_of_lost (s := quiet) he hcheck)

end Sys2Proof.Machine
end

section
/-! PROOFS. The record of one pair apart from the rest of the station: an operation that makes a record anew at its end
(R6, R8) may be followed on the rest of the state alone. With the steps that end a pair's standing, its receiver and its
access, as PARK, UNPARK and an integrity error use them (R7, R59, R60, R62, R140, R154). -/

namespace Sys2Proof.Machine

namespace State

/-! ### States that agree off one pair -/

/-- `t` is `x` but for the record of pair `p`, in which it has kept of `r` what a change of service keeps (R8). -/
structure AgreesOff (p : Pair) (r : PairRecord) (t x : State) : Prop where
  rest : ∀ y : PairRecord, t.setPair p y = x.setPair p y
  kept : (t.pair p).reserviced = r.reserviced

section AgreesOff

variable {p : Pair} {r : PairRecord} {t x : State}

theorem AgreesOff.refl (h : t.pair p = r) : AgreesOff p r t t := ⟨fun _ => rfl, by rw [h]⟩

/-- What does not read the record of the pair reads the same in both states. -/
theorem AgreesOff.congr {α : Type} (h : AgreesOff p r t x) (g : State → α)
    (hg : ∀ (u : State) (y : PairRecord), g (u.setPair p y) = g u := by intros; rfl) : g t = g x := by
  rw [← hg t r, h.rest, hg]

/-- A write of the pair's own record that keeps what a change of service keeps. -/
theorem AgreesOff.modPair (h : AgreesOff p r t x) {f : PairRecord → PairRecord}
    (hf : ∀ y, (f y).reserviced = y.reserviced) : AgreesOff p r (t.modPair p f) x where
  rest y := by rw [State.modPair, setPair_setPair, h.rest]
  kept := by
    rw [pair_modPair_same, ← h.kept]
    exact hf _

/-- An operation that neither reads nor writes the record of the pair. -/
theorem AgreesOff.map (h : AgreesOff p r t x) {f : State → State}
    (comm : ∀ (u : State) (y : PairRecord), f (u.setPair p y) = (f u).setPair p y)
    (frame : ∀ u : State, (f u).pair p = u.pair p) : AgreesOff p r (f t) (f x) where
  rest y := by rw [← comm, h.rest, comm]
  kept := by rw [frame, h.kept]

theorem AgreesOff.retireTag (h : AgreesOff p r t x) (q : Pair) : AgreesOff p r (t.retireTag q) (x.retireTag q) :=
  h.map (f := fun u => u.retireTag q) (fun _ _ => rfl) (by simp)

theorem AgreesOff.place (h : AgreesOff p r t x) (k : ItemKind) : AgreesOff p r (t.place k) (x.place k) :=
  h.map (f := fun u => u.place k) (fun u y => by simp only [place_eq]; rfl) (by simp)

theorem AgreesOff.withdraw (h : AgreesOff p r t x) (ref : ItemRef) (mark : Item → Item) :
    AgreesOff p r (t.withdraw ref mark) (x.withdraw ref mark) :=
  h.map (f := fun u => u.withdraw ref mark) (fun u y => by simp only [withdraw_eq]; rfl) (by simp)

theorem setPair_leaveEntry (u : State) (p : Pair) (y : PairRecord) (e : EntryNo) (st : StationNo) (pr : PairNo) :
    (u.setPair p y).leaveEntry e st pr = (u.leaveEntry e st pr).setPair p y := by
  simp only [leaveEntry, setPair_entry, setPair_now, writeEntry_eq]
  split <;> rfl

@[simp] theorem leaveEntry_pair (s : State) (e : EntryNo) (st : StationNo) (pr : PairNo) (q : Pair) :
    (s.leaveEntry e st pr).pair q = s.pair q := by
  simp only [leaveEntry]; split <;> simp

theorem AgreesOff.leaveEntry (h : AgreesOff p r t x) (e : EntryNo) (st : StationNo) (pr : PairNo) :
    AgreesOff p r (t.leaveEntry e st pr) (x.leaveEntry e st pr) :=
  h.map (f := fun u => u.leaveEntry e st pr) (fun u y => setPair_leaveEntry ..) (by simp)

theorem AgreesOff.setReceiver (h : AgreesOff p r t x) (j : ReceiverNo) (v : Receiver) :
    AgreesOff p r (t.setReceiver j v) (x.setReceiver j v) :=
  h.map (f := fun u => u.setReceiver j v) (fun _ _ => rfl) (by simp)

/-- Writes of the records of two pairs do not meet. -/
theorem setPair_comm (u : State) {p q : Pair} (h : q ≠ p) (a b : PairRecord) :
    (u.setPair p a).setPair q b = (u.setPair q b).setPair p a := by
  have : p.val ≠ q.val := fun e => h (Fin.ext e.symm)
  simp only [State.setPair, Vector.set_comm _ _ this]

theorem AgreesOff.lend (h : AgreesOff p r t x) {q : Pair} (hq : q ≠ p) (j : ReceiverNo) :
    AgreesOff p r (t.lend j q) (x.lend j q) := by
  refine h.map (f := fun u => u.lend j q) (fun u y => ?_) fun u => ?_
  · simp only [State.lend, State.modPair, pair_setPair_ne _ _ _ _ hq, setPair_comm _ hq]
    rfl
  · simp only [State.lend, setReceiver_pair]
    exact pair_modPair_ne _ _ _ _ hq.symm

theorem AgreesOff.appendEvent (h : AgreesOff p r t x) {q : Pair} (hq : q ≠ p) (e : EventType) (v : Nat) :
    AgreesOff p r (t.appendEvent q e v) (x.appendEvent q e v) := by
  refine h.map (f := fun u => u.appendEvent q e v) (fun u y => ?_) fun u => ?_
  · simp only [State.appendEvent, State.modPair, pair_setPair_ne _ _ _ _ hq, setPair_comm _ hq, placeLineEvents_eq]
    rfl
  · simp only [State.appendEvent, placeLineEvents_pair]
    exact pair_modPair_ne _ _ _ _ hq.symm

/-! ### The receiver and the wait list (R59, R60, R62) -/

theorem leaveWaitList_of_absent {s : State} {p : Pair} (h : ∀ w ∈ s.waitList, w.pair ≠ p) : s.leaveWaitList p = s := by
  have : s.waitList.filter (fun w => w.pair != p) = s.waitList := List.filter_eq_self.2 (by simpa using h)
  rw [leaveWaitList, this]

theorem AgreesOff.leaveWaitList (h : AgreesOff p r t x) (q : Pair) :
    AgreesOff p r (t.leaveWaitList q) (x.leaveWaitList q) :=
  h.map (f := fun u => u.leaveWaitList q) (fun _ _ => rfl) fun _ => rfl

/-- The receiver of the pair goes IDLE, no pair waiting for it. -/
theorem AgreesOff.releaseReceiver_idle (h : AgreesOff p r t x) {j : ReceiverNo} (hj : (x.receiver j).pair = some p)
    (hw : x.waitList = []) : AgreesOff p r (t.releaseReceiver j) (x.setReceiver j Receiver.idle) := by
  have hjt : (t.receiver j).pair = some p := (h.congr fun u => (u.receiver j).pair).trans hj
  have hwt : t.waitList = [] := (h.congr State.waitList).trans hw
  have freed : AgreesOff p r (t.modPair p fun y => { y with receiver := none }) x := h.modPair fun _ => rfl
  have : t.releaseReceiver j = (t.modPair p fun y => { y with receiver := none }).setReceiver j Receiver.idle := by
    simp [releaseReceiver, hjt, hwt]
  rw [this]
  exact freed.setReceiver ..

/-- The receiver of the pair goes to the pair at the head of the wait list, which is another. -/
theorem AgreesOff.releaseReceiver_next (h : AgreesOff p r t x) {j : ReceiverNo} {q : Pair} {since : Nat}
    {rest : List Waiting} (hq : q ≠ p) (hj : (x.receiver j).pair = some p)
    (hw : x.waitList = { pair := q, since := since } :: rest) :
    AgreesOff p r (t.releaseReceiver j)
      ((({ x with waitList := rest } : State).lend j q).appendEvent q .receiverLate
        (min 15 ((x.now - since) / 1000))) := by
  have hjt : (t.receiver j).pair = some p := (h.congr fun u => (u.receiver j).pair).trans hj
  have hwt : t.waitList = { pair := q, since := since } :: rest := (h.congr State.waitList).trans hw
  have hnow : t.now = x.now := h.congr State.now
  have freed : AgreesOff p r (t.modPair p fun y => { y with receiver := none }) x := h.modPair fun _ => rfl
  have shorter := freed.map (f := fun u => { u with waitList := rest }) (fun _ _ => rfl) fun _ => rfl
  have : t.releaseReceiver j = (({ t.modPair p (fun y => { y with receiver := none }) with
      waitList := rest } : State).lend j q).appendEvent q .receiverLate (min 15 ((x.now - since) / 1000)) := by
    simp [releaseReceiver, hjt, hwt, hnow]
  rw [this]
  exact (shorter.lend hq j).appendEvent hq ..

/-! ### The access and the measurement (R140, R143, R154) -/

theorem cutAccess_of_no_access {s : State} (h : s.inAccess p = false) : s.cutAccess p = s := by
  simp [cutAccess, h]

theorem AgreesOff.endAccess (h : AgreesOff p r t x) (ha : x.inAccess p = true) :
    AgreesOff p r t.endAccess { x with bus := { x.bus with access := none } } := by
  have hbus : t.bus = x.bus := h.congr State.bus
  obtain ⟨a, hacc, rfl⟩ : ∃ a, t.bus.access = some a ∧ a.pair = p := by simpa [State.inAccess, hbus] using ha
  rw [endAccess_of_some hacc]
  have ended := h.modPair (f := PairRecord.endAccess) fun _ => rfl
  have := ended.map (f := fun u => { u with bus := { u.bus with access := none } }) (fun _ _ => rfl) fun _ => rfl
  exact this

theorem AgreesOff.stopUnit (h : AgreesOff p r t x) : AgreesOff p r t.stopUnit x.stopUnit :=
  h.map (f := State.stopUnit) (fun _ _ => rfl) fun _ => rfl

section CutAccess

variable (h : AgreesOff p r t x) (ha : x.inAccess p = true)
include h ha

theorem AgreesOff.cutAccess_eq : t.cutAccess p = t.endAccess.abandonLocal p := by
  have : t.inAccess p = true := (h.congr fun u => u.inAccess p).trans ha
  simp [cutAccess, this]

/-- The access ends alone where this station does not measure the pair. -/
theorem AgreesOff.cutAccess_unmeasured
    (hm : ∀ m, x.unit.measurement = some m → ¬(m.station = x.straps.station ∧ m.pair = pairNo p)) :
    AgreesOff p r (t.cutAccess p) { x with bus := { x.bus with access := none } } := by
  have ended := h.endAccess ha
  have hunit : t.endAccess.unit = x.unit := ended.congr State.unit
  have hstraps : t.endAccess.straps = x.straps := ended.congr State.straps
  have : t.endAccess.abandonLocal p = t.endAccess := by
    unfold abandonLocal
    rw [hunit, hstraps]
    split
    · rfl
    · next m hmeas => rw [if_neg (by simpa using hm m hmeas)]
  rw [h.cutAccess_eq ha, this]
  exact ended

variable {m : Measurement} (hm : x.unit.measurement = some m) (hst : m.station = x.straps.station)
  (hpr : m.pair = pairNo p)
include hm hst hpr

/-- Where this station measures the pair, the measurement is discarded and what it was made for goes on. -/
theorem AgreesOff.cutAccess_measured : t.cutAccess p =
    if m.forRun then
      { t.endAccess.stopUnit with bus := { t.endAccess.bus with position := t.endAccess.bus.position + 1 } }
    else t.endAccess.stopUnit.endTest .abandoned [] := by
  have ended := h.endAccess ha
  have hunit : t.endAccess.unit = x.unit := ended.congr State.unit
  have hstraps : t.endAccess.straps = x.straps := ended.congr State.straps
  rw [h.cutAccess_eq ha, abandonLocal, hunit, hm, hstraps]
  simp [hst, hpr]

theorem AgreesOff.cutAccess_run (hrun : m.forRun = true) : AgreesOff p r (t.cutAccess p)
    { x with bus := { x.bus with access := none, position := x.bus.position + 1 }, unit := x.unit.stop } := by
  rw [h.cutAccess_measured ha hm hst hpr, if_pos hrun]
  exact (h.endAccess ha).map
    (f := fun u => { u.stopUnit with bus := { u.bus with position := u.bus.position + 1 } }) (fun _ _ => rfl)
    fun _ => rfl

theorem AgreesOff.cutAccess_test (hrun : m.forRun = false) {q : Pair}
    (ht : x.bus.test = some { pair := q, phase := .running }) : AgreesOff p r (t.cutAccess p)
      (({ x with
        bus := { x.bus with access := none, test := some { pair := q, phase := .ended .abandoned [] } }
        unit := x.unit.stop } : State).place .testResult) := by
  rw [h.cutAccess_measured ha hm hst hpr, hrun, if_neg Bool.false_ne_true]
  have ended := (h.endAccess ha).stopUnit
  have htest : t.endAccess.stopUnit.bus.test = some { pair := q, phase := .running } :=
    (ended.congr fun u => u.bus.test).trans ht
  simp only [endTest, htest]
  exact (ended.map (f := fun u => { u with bus := { u.bus with
    test := some { pair := q, phase := .ended .abandoned [] } } }) (fun _ _ => rfl) fun _ => rfl).place _

end CutAccess

end AgreesOff

/-! ### A leave at an entry of this station's own (R86, R119) -/

theorem localLeave_of_check {s : State} {k : Key} {e : EntryNo} (hr : s.running = true) (h : s.ownedEntry k = some e)
    (hc : (s.entry e).check = true) (p : Pair) : s.localLeave k p = s.leaveEntry e s.straps.station (pairNo p) := by
  have hs := (ownedEntry_state h).1
  simp [localLeave, h, readEntry_of_check hc, hr, hs]

@[simp] theorem leaveEntry_running (s : State) (e : EntryNo) (st : StationNo) (pr : PairNo) :
    (s.leaveEntry e st pr).running = s.running := by
  simp only [leaveEntry]; split <;> simp

@[simp] theorem leaveEntry_waitList (s : State) (e : EntryNo) (st : StationNo) (pr : PairNo) :
    (s.leaveEntry e st pr).waitList = s.waitList := by
  simp only [leaveEntry]; split <;> simp

end State

/-- A pair that a pair field names is named by that field. -/
theorem pairNo_of_toPair {pr : PairNo} {p : Pair} (h : toPair pr = some p) : pairNo p = pr := by
  unfold toPair at h
  split at h
  · cases h
    simp [pairNo]
  · cases h

end Sys2Proof.Machine
end

section
/-! PROOFS. PARK and UNPARK at their taking (R8, R168, R169), with the standing, the receiver and the access they
end. -/

namespace Sys2Proof.Machine

/-! ### A command taken (R160, R161) -/

/-- The lowest index that meets a condition is the one that a search in ascending order finds. -/
theorem find?_finRange {n : Nat} {c : Fin n → Bool} {i : Fin n} (hi : c i = true) (hlow : ∀ j, j < i → c j = false) :
    (List.finRange n).find? c = some i := by
  refine List.find?_eq_some_iff_getElem.2 ⟨hi, i.val, by simp, by simp, fun j hj => ?_⟩
  have : c ⟨j, hj.trans i.isLt⟩ = false := hlow _ hj
  simpa using this

theorem freeSlot_of_lowest {s : State} {i : Fin 4} (hi : s.slot i = none)
    (hlow : ∀ j : Fin 4, j < i → s.slot j ≠ none) : s.freeSlot = some i :=
  find?_finRange (by simp [hi]) fun j hj => by simpa using Option.isSome_iff_ne_none.2 (hlow j hj)

theorem commandReceived_of_hears {k : LongKind} {f : RxFrame} {s : State} {cmd : Command} (h : s.hears (.long k) f)
    (ht : f.target = s.straps.station) (hb : bodyOf (.long k) f.body = some (.command cmd)) :
    commandReceived k f s =
      State.takeCommand f.sender f.authority cmd { s with abandoned := false, cells := noCells } := by
  rw [commandReceived, receive_of_hears h]
  simp [ht, hb]

/-- The uplink unit at level 0 may have any command carried out (R161). -/
theorem authorised_uplink (cmd : Command) : authorised 15 0 cmd = true := by
  simp [authorised, ceilingOf, uplinkUnit]

theorem occupy_eq {u : State} (hr : u.running = true) (i : Fin 4) (v : ReplySlot) :
    u.occupy i v =
      (({ u with cells := { noCells with ack := true } } : State).setSlot i (some v)).place (.reply i) := by
  rw [State.occupy, drive_running ackCell (s := u.setSlot i (some v)) hr]
  rfl

/-- A command carried out with a status that starts no job is answered from the state it leaves. -/
theorem takeCommand_of_effect {s u : State} {i : Fin 4} {sender : StationNo} {field : BitVec 2} {cmd : Command}
    {status : Status} {word : Option Int} (hi : s.freeSlot = some i) (ha : authorised sender field cmd = true)
    (hx : s.carryOut cmd = { state := u, status := some status, previousWord := word }) (hr : u.running = true)
    (hst : status ≠ .accepted) :
    s.takeCommand sender field cmd = u.occupy i
      { command := cmd, sender := sender, status := some status, previousWord := word
        stationAtTaking := keptStation s cmd, restartMark := cmd == .restart } := by
  simp [State.takeCommand, hi, ha, hx, hr, hst, State.settleIf]

/-! ### PARK -/

namespace State

section Park

variable {s : State} {p : Pair}

theorem doPark_of_equipped {pr : PairNo} (hp : toPair pr = some p) (hs : s.service p = .equipped)
    (ha : s.inAccess p = false) :
    s.doPark pr = { state := s.parkPair p, status := some .done, previousWord := some (s.serviceWordOf p) } := by
  simp [doPark, hp, hs, ha]

theorem doPark_of_access {pr : PairNo} (hp : toPair pr = some p) (hs : s.service p = .equipped)
    (ha : s.inAccess p = true) : s.doPark pr = { state := s, status := some .busy, previousWord := none } := by
  simp [doPark, hp, hs, ha]

theorem doPark_of_parked {pr : PairNo} (hp : toPair pr = some p) (hs : s.service p = .parked) :
    s.doPark pr = { state := s, status := some .done, previousWord := some (-1) } := by
  simp [doPark, hp, hs, serviceWordOf, serviceWord]

/-- The record is made anew on whatever the standing and the receiver have left of the state. -/
theorem parkPair_eq {x : State} (h : AgreesOff p (s.pair p) ((s.endStanding p).dropReceiver p) x)
    (hr : (s.endStanding p).running = true) :
    s.parkPair p = ((x.setPair p (s.pair p).reserviced).setService p .parked).settle := by
  have renewed : ((s.endStanding p).dropReceiver p).modPair p PairRecord.reserviced =
      x.setPair p (s.pair p).reserviced := by
    rw [State.modPair, h.kept, h.rest]
  simp [parkPair, hr, renewed]

/-- The standing ends leaving `x` off the pair's record, whose receiver field stands. -/
structure StandingEnds (s : State) (p : Pair) (x : State) : Prop where
  agrees : AgreesOff p (s.pair p) (s.endStanding p) x
  receiver : ((s.endStanding p).pair p).receiver = (s.pair p).receiver

theorem standingEnds_unclaimed (h : (s.pair p).claim = .unclaimed ∨ (s.pair p).claim = .heldOff) :
    s.StandingEnds p s := by
  have start : AgreesOff p (s.pair p) s s := .refl rfl
  rcases h with h | h
  · have : s.endStanding p = s := by simp [endStanding, h]
    exact ⟨by rw [this]; exact start, by rw [this]⟩
  · have : s.endStanding p = s.setClaim p .unclaimed none := by simp [endStanding, h]
    exact ⟨by rw [this]; exact start.modPair fun _ => rfl, by rw [this]; simp [setClaim]⟩

theorem standingEnds_pending (h : (s.pair p).claim = .pending) :
    s.StandingEnds p ((s.withdraw (.faultClaim p) markSuperseded).retireTag p) := by
  have start : AgreesOff p (s.pair p) s s := .refl rfl
  have : s.endStanding p = (s.withdrawClaim p).setClaim p .unclaimed none := by simp [endStanding, h]
  exact ⟨by rw [this]; exact ((start.withdraw ..).retireTag p).modPair fun _ => rfl,
    by rw [this]; simp [setClaim, withdrawClaim]⟩

theorem standingEnds_deferred {g : Tag} (h : (s.pair p).claim = .deferred g) : s.StandingEnds p (s.retireTag p) := by
  have start : AgreesOff p (s.pair p) s s := .refl rfl
  have : s.endStanding p = (s.retireTag p).setClaim p .unclaimed none := by simp [endStanding, h]
  exact ⟨by rw [this]; exact (start.retireTag p).modPair fun _ => rfl, by rw [this]; simp [setClaim]⟩

theorem standingEnds_linked {cls : FaultClass} (h : (s.pair p).claim = .linked cls false) :
    s.StandingEnds p
      (((s.withdraw (.faultClaim p) markSuperseded).retireTag p).place (.leave p (s.pairKey p cls))) := by
  have start : AgreesOff p (s.pair p) s s := .refl rfl
  have unclaimed : AgreesOff p (s.pair p) (s.setClaim p .unclaimed none) s := start.modPair fun _ => rfl
  have : s.endStanding p =
      ((s.setClaim p .unclaimed none).withdrawClaim p).place (.leave p (s.pairKey p cls)) := by
    simp [endStanding, h, leaveIncident]
  refine ⟨?_, by rw [this]; simp [setClaim, withdrawClaim]⟩
  rw [this]
  exact ((unclaimed.withdraw ..).retireTag p).place _

theorem standingEnds_linkedHere {cls : FaultClass} {e : EntryNo} (hr : s.running = true)
    (h : (s.pair p).claim = .linked cls true) (he : s.ownedEntry (s.pairKey p cls) = some e)
    (hc : (s.entry e).check = true) :
    s.StandingEnds p (s.leaveEntry e s.straps.station (pairNo p)) := by
  have start : AgreesOff p (s.pair p) s s := .refl rfl
  have unclaimed : AgreesOff p (s.pair p) (s.setClaim p .unclaimed none) s := start.modPair fun _ => rfl
  have : s.endStanding p = (s.setClaim p .unclaimed none).leaveEntry e s.straps.station (pairNo p) := by
    simp only [endStanding, h, leaveIncident, if_true]
    exact localLeave_of_check (s := s.setClaim p .unclaimed none) hr he hc p
  exact ⟨by rw [this]; exact unclaimed.leaveEntry .., by rw [this]; simp [setClaim]⟩

section StandingEnds

variable {x : State} (h : s.StandingEnds p x)
include h

theorem StandingEnds.dropReceiver_served {j : ReceiverNo} (hn : (s.pair p).receiver = some j) :
    (s.endStanding p).dropReceiver p = (s.endStanding p).releaseReceiver j := by
  simp [State.dropReceiver, h.receiver, hn]

variable (hr : x.running = true)
include hr

theorem StandingEnds.running : (s.endStanding p).running = true := (h.agrees.congr State.running).trans hr

/-- A pair without a receiver leaves the wait list (R59). -/
theorem StandingEnds.parkPair_waiting (hn : (s.pair p).receiver = none) :
    s.parkPair p = (((x.leaveWaitList p).setPair p (s.pair p).reserviced).setService p .parked).settle := by
  refine parkPair_eq ?_ (h.running hr)
  have : (s.endStanding p).dropReceiver p = (s.endStanding p).leaveWaitList p := by
    simp [dropReceiver, h.receiver, hn]
  rw [this]
  exact h.agrees.leaveWaitList p

theorem StandingEnds.parkPair_free (hn : (s.pair p).receiver = none) (hw : ∀ w ∈ x.waitList, w.pair ≠ p) :
    s.parkPair p = ((x.setPair p (s.pair p).reserviced).setService p .parked).settle := by
  rw [h.parkPair_waiting hr hn, leaveWaitList_of_absent hw]

theorem StandingEnds.parkPair_release {j : ReceiverNo} (hn : (s.pair p).receiver = some j)
    (hj : (x.receiver j).pair = some p) (hw : x.waitList = []) : s.parkPair p =
      (((x.setReceiver j Receiver.idle).setPair p (s.pair p).reserviced).setService p .parked).settle := by
  refine parkPair_eq ?_ (h.running hr)
  rw [h.dropReceiver_served hn]
  exact h.agrees.releaseReceiver_idle hj hw

theorem StandingEnds.parkPair_reassign {j : ReceiverNo} {q : Pair} {since : Nat} {rest : List Waiting}
    (hn : (s.pair p).receiver = some j) (hj : (x.receiver j).pair = some p) (hq : q ≠ p)
    (hw : x.waitList = { pair := q, since := since } :: rest) : s.parkPair p =
      (((((({ x with waitList := rest } : State).lend j q).appendEvent q .receiverLate
        (min 15 ((x.now - since) / 1000))).setPair p (s.pair p).reserviced).setService p .parked).settle) := by
  refine parkPair_eq ?_ (h.running hr)
  rw [h.dropReceiver_served hn]
  exact h.agrees.releaseReceiver_next hq hj hw

end StandingEnds

end Park

/-! ### UNPARK -/

section Unpark

variable {s : State} {p : Pair}

theorem doUnpark_of_equipped {pr : PairNo} (hp : toPair pr = some p) (hs : s.service p = .equipped) :
    s.doUnpark pr = { state := s, status := some .done, previousWord := some (s.serviceWordOf p) } := by
  simp [doUnpark, hp, hs]

theorem doUnpark_of_parked {pr : PairNo} (hp : toPair pr = some p) (hs : s.service p = .parked) :
    s.doUnpark pr = { state := s.unparkPair p, status := some .done, previousWord := some (-1) } := by
  simp [doUnpark, hp, hs, serviceWordOf, serviceWord]

theorem unparkPair_of_no_access (h : s.inAccess p = false) :
    s.unparkPair p = (s.setPair p (s.pair p).reserviced).setService p .equipped := by
  simp [unparkPair, cutAccess_of_no_access h, h, settleIf, State.modPair]

theorem unparkPair_of_access {x : State} (ha : s.inAccess p = true) (h : AgreesOff p (s.pair p) (s.cutAccess p) x) :
    s.unparkPair p = ((x.setPair p (s.pair p).reserviced).setService p .equipped).settle := by
  have renewed : (s.cutAccess p).modPair p PairRecord.reserviced = x.setPair p (s.pair p).reserviced := by
    rw [State.modPair, h.kept, h.rest]
  simp [unparkPair, renewed, ha, settleIf]

end Unpark

end State

/-- The service word of an EQUIPPED pair (R4). -/
theorem serviceWord_equipped {claim : ClaimState} {word : Int}
    (h : ((∀ cls owned, claim ≠ .linked cls owned) ∧ word = 0) ∨
      (∃ cls, claim = .linked cls false ∧ word = classCode cls + 1) ∨
      (∃ cls, claim = .linked cls true ∧ word = classCode cls + 5)) : serviceWord .equipped claim = word := by
  rcases h with ⟨hne, rfl⟩ | ⟨cls, rfl, rfl⟩ | ⟨cls, rfl, rfl⟩
  · cases claim with
    | linked cls owned => exact absurd rfl (hne cls owned)
    | _ => rfl
  · rfl
  · rfl

theorem serviceWord_unclaimed {claim : ClaimState} (h : claim = .unclaimed ∨ claim = .heldOff) :
    serviceWord .equipped claim = 0 := by
  rcases h with rfl | rfl <;> rfl

/-- Settles O28: the effect of the command by the pair's service, and where the service changes the record made anew on
what the ended standing, receiver and access leave. -/
theorem parkAndUnpark : Obligations.ParkAndUnpark := by
  intro c k cmd f s pr i hc hears htarget hbody hauth hsender hslot hlow read answered
  have hr : read.running = true := hears.1
  have cmd_of_park (hk : k = .park) : cmd = .park pr := by
    rcases hc with ⟨-, -, h⟩ | ⟨-, rfl, -⟩
    · exact h
    · cases hk
  have cmd_of_unpark (hk : k = .unpark) : cmd = .unpark pr := by
    rcases hc with ⟨-, rfl, -⟩ | ⟨-, -, h⟩
    · cases hk
    · exact h
  have answers {u : State} {status : Status} {word : Option Int}
      (hx : read.carryOut cmd = { state := u, status := some status, previousWord := word }) (hu : u.running = true)
      (hst : status ≠ .accepted) : exec c s = .next (answered u status word) := by
    have hexec : exec c s = .next (commandReceived k f s) := by
      rcases hc with ⟨rfl, rfl, -⟩ | ⟨rfl, rfl, -⟩ <;> rfl
    have hfree : read.freeSlot = some i := freeSlot_of_lowest hslot hlow
    have hauthorised : authorised f.sender f.authority cmd = true := by rw [hauth, hsender]; exact authorised_uplink cmd
    rw [hexec, commandReceived_of_hears hears htarget hbody,
      takeCommand_of_effect (s := read) hfree hauthorised hx hu hst, occupy_eq hu]
    rcases hc with ⟨-, -, rfl⟩ | ⟨-, -, rfl⟩ <;> rfl
  have park_answers {eff : Effect} (hk : k = .park) (h : read.doPark pr = eff) : read.carryOut cmd = eff := by
    rw [cmd_of_park hk]; exact h
  have unpark_answers {eff : Effect} (hk : k = .unpark) (h : read.doUnpark pr = eff) : read.carryOut cmd = eff := by
    rw [cmd_of_unpark hk]; exact h
  refine ⟨fun hp => ?_, ?_⟩
  · refine answers ?_ hr (by decide)
    rcases hc with ⟨-, -, rfl⟩ | ⟨-, -, rfl⟩
    · simp [State.carryOut, State.doPark, hp]
    · simp [State.carryOut, State.doUnpark, hp]
  intro p hp r fresh parks poolFree unclaimed
  have hp' : pairNo p = pr := pairNo_of_toPair hp
  have word_of {word : Int} (hs : s.service p = .equipped) (h : serviceWord .equipped r.claim = word) :
      read.serviceWordOf p = word := by
    rw [State.serviceWordOf, show read.service p = .equipped from hs]
    exact h
  have parks_of {x : State} {word : Int} (hk : k = .park) (hs : s.service p = .equipped) (ha : s.inAccess p = false)
      (hword : serviceWord .equipped r.claim = word)
      (h : read.parkPair p = ((x.setPair p fresh).setService p .parked).settle) : parks x word := by
    intro hparked
    refine answers (park_answers hk ?_) hparked (by decide)
    rw [State.doPark_of_equipped (s := read) hp hs ha, h, word_of hs hword]
  refine ⟨fun hs => ?_, fun hs hk => ?_, fun hs hk word hword => ?_, fun hs hk ha => ?_, fun hs hk ha hpool => ?_,
    fun hs hk ha hclaim => ?_, fun hs hk ha => ?_, ?_⟩
  · refine answers ?_ hr (by decide)
    have hs' : read.service p = .absent := hs
    rcases hc with ⟨-, -, rfl⟩ | ⟨-, -, rfl⟩
    · simp [State.carryOut, State.doPark, hp, hs']
    · simp [State.carryOut, State.doUnpark, hp, hs']
  · exact answers (park_answers hk (State.doPark_of_parked (s := read) hp hs)) hr (by decide)
  · refine answers (unpark_answers hk ?_) hr (by decide)
    rw [State.doUnpark_of_equipped (s := read) hp hs, word_of hs (serviceWord_equipped hword)]
  · exact answers (park_answers hk (State.doPark_of_access (s := read) hp hs ha)) hr (by decide)
  · obtain ⟨hn, hw⟩ := hpool
    have free {x : State} {word : Int} (hword : serviceWord .equipped r.claim = word) (h : read.StandingEnds p x)
        (hx : x.running = true) (hwait : x.waitList = s.waitList) : parks x word :=
      parks_of hk hs ha hword (h.parkPair_free hx hn (by rw [hwait]; exact hw))
    refine ⟨fun h => ?_, fun h => ?_, fun g h => ?_, fun cls h => ?_, fun cls e h he hcheck => ?_⟩
    · exact free (serviceWord_unclaimed h) (State.standingEnds_unclaimed (s := read) h) hr rfl
    · exact free (by rw [h]; rfl) (State.standingEnds_pending (s := read) h) (by simpa using hr) (by simp [read])
    · exact free (by rw [h]; rfl) (State.standingEnds_deferred (s := read) h) hr rfl
    · exact free (by rw [h]; rfl) (State.standingEnds_linked (s := read) h) (by simpa using hr) (by simp [read])
    · exact free (by rw [h]; rfl) (State.standingEnds_linkedHere (s := read) hr h he hcheck) (by simpa using hr)
        (by simp [read])
  · have ends := State.standingEnds_unclaimed (s := read) hclaim
    have hword := serviceWord_unclaimed hclaim
    refine ⟨fun hn => ?_, fun j hn hj hw => ?_, fun j q since rest hn hj hq hw => ?_⟩
    · exact parks_of hk hs ha hword (ends.parkPair_waiting hr hn)
    · exact parks_of hk hs ha hword (ends.parkPair_release hr hn hj hw)
    · exact parks_of hk hs ha hword (ends.parkPair_reassign hr hn hj hq hw)
  · refine answers (unpark_answers hk ?_) hr (by decide)
    rw [State.doUnpark_of_parked (s := read) hp hs, State.unparkPair_of_no_access (s := read) ha]
    rfl
  · intro hs hk ha back freed stopped
    have start : State.AgreesOff p r read read := .refl rfl
    have back_of {x : State} (h : State.AgreesOff p r (read.cutAccess p) x) : back x := by
      intro hu
      refine answers (unpark_answers hk ?_) hu (by decide)
      rw [State.doUnpark_of_parked (s := read) hp hs, State.unparkPair_of_access (s := read) ha h]
      rfl
    refine ⟨fun hm => ?_, fun m hm hst hpr => ⟨fun hrun => ?_, fun q hrun htest => ?_⟩⟩
    · exact back_of (start.cutAccess_unmeasured ha (by rw [hp']; exact hm))
    · exact back_of (start.cutAccess_run ha hm hst (hpr.trans hp'.symm) hrun)
    · exact back_of (start.cutAccess_test ha hm hst (hpr.trans hp'.symm) hrun htest)

end Sys2Proof.Machine
end

section
/-! PROOFS. The integrity reinitialisation of a pair record (R5 to R7) and the second error that fails the station
(R176, R177). -/

namespace Sys2Proof.Machine

namespace State

/-! ### The claim's part (R7, R84) -/

/-- The withdrawal of the pair's FAULT CLAIM item, and the retiring of its tag, write the queue and the tags alone. -/
theorem orphanClaim_eq (s : State) (p : Pair) : s.orphanClaim p = { s with queue := (s.orphanClaim p).queue } := by
  unfold orphanClaim
  split
  · split
    · rfl
    · rw [withdraw_eq]
  · rfl

theorem exists_dropped_eq (s : State) (p : Pair) :
    ∃ queue tags, (s.orphanClaim p).retireTag p = { s with queue := queue, tags := tags } :=
  ⟨(s.orphanClaim p).queue, ((s.orphanClaim p).retireTag p).tags, by rw [orphanClaim_eq]; rfl⟩

section DropClaim

variable {s : State} {p : Pair}

/-- A record that does not stand LINKED here is followed by no local leave. -/
theorem dropClaim_of_away (h : ∀ cls, (s.pair p).claim ≠ .linked cls true) :
    s.dropClaim p = (s.orphanClaim p).retireTag p := by
  unfold dropClaim
  dsimp only
  split
  · next cls hc => exact absurd hc (h cls)
  · rfl

theorem dropClaim_of_linked {cls : FaultClass} (h : (s.pair p).claim = .linked cls true) :
    s.dropClaim p = (((s.orphanClaim p).retireTag p).setClaim p .unclaimed none).localLeave (s.pairKey p cls) p := by
  simp [dropClaim, h]

/-- A pair LINKED here leaves its entry, the record's claim field aside. -/
theorem agreesOff_dropClaim_linked {x : State} {cls : FaultClass} {e : EntryNo} (hr : s.running = true)
    (h : (s.pair p).claim = .linked cls true) (he : s.ownedEntry (s.pairKey p cls) = some e)
    (hc : (s.entry e).check = true) (hx : (s.orphanClaim p).retireTag p = x) :
    AgreesOff p (s.pair p) (s.dropClaim p) (x.leaveEntry e s.straps.station (pairNo p)) := by
  obtain ⟨queue, tags, hd⟩ := s.exists_dropped_eq p
  rw [dropClaim_of_linked h, ← hx, hd]
  have start : AgreesOff p (s.pair p) { s with queue := queue, tags := tags } { s with queue := queue, tags := tags } :=
    .refl rfl
  have unclaimed : AgreesOff p (s.pair p)
      (setClaim { s with queue := queue, tags := tags } p .unclaimed none) { s with queue := queue, tags := tags } :=
    start.modPair fun _ => rfl
  rw [localLeave_of_check (s := setClaim { s with queue := queue, tags := tags } p .unclaimed none) hr he hc]
  exact unclaimed.leaveEntry ..

end DropClaim

/-! ### The pool's part (R56, R59, R60) -/

section Reclaim

variable {p : Pair} {r : PairRecord} {t x : State} (h : AgreesOff p r t x)
include h

theorem AgreesOff.cutAccess_none (ha : x.inAccess p = false) : AgreesOff p r (t.cutAccess p) x := by
  rw [cutAccess_of_no_access ((h.congr fun u => u.inAccess p).trans ha)]
  exact h

theorem AgreesOff.reclaimReceiver_unserved (hs : ∀ j : ReceiverNo, (x.receiver j).pair ≠ some p) :
    AgreesOff p r (t.reclaimReceiver p) (x.leaveWaitList p) := by
  have hst : ∀ j : ReceiverNo, (t.receiver j).pair ≠ some p := fun j =>
    (h.congr fun u => (u.receiver j).pair).symm ▸ hs j
  rw [reclaimReceiver_of_unserved hst]
  exact h.leaveWaitList p

/-- A pair that no receiver serves and that waits for none has no part in the pool. -/
theorem AgreesOff.reclaimReceiver_free (hs : ∀ j : ReceiverNo, (x.receiver j).pair ≠ some p)
    (hw : ∀ w ∈ x.waitList, w.pair ≠ p) : AgreesOff p r (t.reclaimReceiver p) x := by
  have := h.reclaimReceiver_unserved hs
  rwa [leaveWaitList_of_absent hw] at this

/-- The receiver found is the lowest that serves the pair by the pool's own record. -/
theorem AgreesOff.reclaimReceiver_served {j : ReceiverNo} (hj : (x.receiver j).pair = some p)
    (hlow : ∀ i : ReceiverNo, i < j → (x.receiver i).pair ≠ some p) :
    t.reclaimReceiver p = (t.leaveWaitList p).releaseReceiver j := by
  have hpair (i : ReceiverNo) : ((t.leaveWaitList p).receiver i).pair = (x.receiver i).pair :=
    h.congr fun u => (u.receiver i).pair
  have : (t.leaveWaitList p).servingReceiver p = some j :=
    find?_finRange (by rw [hpair, hj]; exact beq_self_eq_true _) fun i hi => by
      rw [hpair]; exact beq_eq_false_iff_ne.2 (hlow i hi)
  simp [reclaimReceiver, this]

end Reclaim

/-- The pool's part leaves the clock and the error time alone. -/
theorem releaseReceiver_clock (s : State) (j : ReceiverNo) :
    (s.releaseReceiver j).now = s.now ∧ (s.releaseReceiver j).integrityAt = s.integrityAt := by
  unfold releaseReceiver
  cases (s.receiver j).pair <;> dsimp only <;> split <;> simp [appendEvent, lend]

/-- A receiver handed on leaves the clock, the error time and the access alone (R62). -/
theorem handOn_frame (s : State) (j : ReceiverNo) (q : Pair) (v : Nat) :
    ((s.lend j q).appendEvent q .receiverLate v).now = s.now ∧
      ((s.lend j q).appendEvent q .receiverLate v).integrityAt = s.integrityAt ∧
      ∀ p, ((s.lend j q).appendEvent q .receiverLate v).inAccess p = s.inAccess p := by
  simp [appendEvent, lend]

theorem reclaimReceiver_clock (s : State) (p : Pair) :
    (s.reclaimReceiver p).now = s.now ∧ (s.reclaimReceiver p).integrityAt = s.integrityAt := by
  simp only [reclaimReceiver]
  split
  · exact releaseReceiver_clock ..
  · exact ⟨rfl, rfl⟩

theorem cutAccess_clock (s : State) (p : Pair) :
    (s.cutAccess p).now = s.now ∧ (s.cutAccess p).integrityAt = s.integrityAt := by
  have ends (u : State) : (u.endTest .abandoned []).now = u.now ∧
      (u.endTest .abandoned []).integrityAt = u.integrityAt := by
    unfold endTest; split <;> simp
  simp only [cutAccess, abandonLocal]
  split
  · split
    · simp
    · split
      · split
        · simp
        · simpa using ends s.endAccess.stopUnit
      · simp
  · simp

/-! ### The record made anew (R6), and the report to station control (R176) -/

/-- The record of R6 under the next number of `r`, at `now`. -/
def recordReset (r : PairRecord) (now : Nat) : PairRecord :=
  { PairRecord.initial with
    events := [{ type := .recordReset, value := 0, seq := r.nextSeq, time := now }]
    nextSeq := r.nextSeq + 1, gap := true, discard := true }

theorem reset_eq (r : PairRecord) (now : Nat) : r.reset now = recordReset r now := rfl

/-- What a reinitialisation leaves of the state `x`, before the report to station control. -/
def renewed (x : State) (p : Pair) (r : PairRecord) (now : Nat) : State :=
  ((x.setPair p (recordReset r now)).updateItem (.lineEvents p) fun y =>
    { y with orphaned := y.orphaned || y.content.isSome }).place (.lineEvents p)

theorem orphanBuilt_eq : orphanBuilt = fun y => { y with orphaned := y.orphaned || y.content.isSome } := by
  funext y
  cases h : y.content.isSome <;> simp [orphanBuilt, h]

/-- A reinitialisation, on whatever its consequences have left of the state off the record. -/
theorem reinitialise_eq {s x : State} {p : Pair}
    (h : AgreesOff p (s.pair p) (((s.dropClaim p).reclaimReceiver p).cutAccess p) x) :
    s.reinitialise p = (reportIntegrity (x.renewed p (s.pair p) x.now)).settle := by
  have hnow : (((s.dropClaim p).reclaimReceiver p).cutAccess p).now = x.now := h.congr State.now
  have hseq := congrArg PairRecord.nextSeq h.kept
  have hreset : (((s.dropClaim p).reclaimReceiver p).cutAccess p).modPair p (fun r => r.reset x.now) =
      x.setPair p (recordReset (s.pair p) x.now) := by
    rw [State.modPair, reset_eq, recordReset, show (pair _ p).nextSeq = (s.pair p).nextSeq from hseq, ← h.rest]
    rfl
  simp only [reinitialise, hnow, hreset, orphanBuilt_eq]
  rw [placeLineEvents, if_neg (by simp [recordReset])]
  rfl

/-- Up to the report, a reinitialisation that no local leave is part of leaves the clock and the error time alone. -/
theorem exists_reinitialise_eq (s : State) (p : Pair) (h : ∀ cls, (s.pair p).claim ≠ .linked cls true) :
    ∃ u : State, s.reinitialise p = u.reportIntegrity.settle ∧ u.now = s.now ∧ u.integrityAt = s.integrityAt := by
  obtain ⟨queue, tags, hd⟩ := s.exists_dropped_eq p
  obtain ⟨hnow, hat⟩ := cutAccess_clock ((s.dropClaim p).reclaimReceiver p) p
  obtain ⟨hnow', hat'⟩ := reclaimReceiver_clock (s.dropClaim p) p
  have hdrop : (s.dropClaim p).now = s.now ∧ (s.dropClaim p).integrityAt = s.integrityAt := by
    rw [dropClaim_of_away h, hd]
    exact ⟨rfl, rfl⟩
  refine ⟨_, rfl, ?_, ?_⟩
  · simp [hnow, hnow', hdrop.1]
  · simp [hat, hat', hdrop.2]

theorem reportIntegrity_of_first {s : State} (h : ∀ t, s.integrityAt = some t → 10000 ≤ s.now - t) :
    s.reportIntegrity = { s with integrityAt := some s.now } := by
  unfold reportIntegrity
  split
  · rfl
  · next t ht => rw [if_neg (by have := h t ht; omega)]

theorem reportIntegrity_of_second {s : State} {t : Nat} (h : s.integrityAt = some t) (hlt : s.now - t < 10000) :
    s.reportIntegrity = s.enterFailed := by
  simp [reportIntegrity, h, hlt]

@[simp] theorem leaveEntry_receiver (s : State) (e : EntryNo) (st : StationNo) (pr : PairNo) (j : ReceiverNo) :
    (s.leaveEntry e st pr).receiver j = s.receiver j := by
  simp only [leaveEntry]; split <;> simp

@[simp] theorem leaveEntry_inAccess (s : State) (e : EntryNo) (st : StationNo) (pr : PairNo) (q : Pair) :
    (s.leaveEntry e st pr).inAccess q = s.inAccess q := by
  simp only [leaveEntry]; split <;> simp

@[simp] theorem leaveEntry_now (s : State) (e : EntryNo) (st : StationNo) (pr : PairNo) :
    (s.leaveEntry e st pr).now = s.now := by
  simp only [leaveEntry]; split <;> simp

@[simp] theorem leaveEntry_integrityAt (s : State) (e : EntryNo) (st : StationNo) (pr : PairNo) :
    (s.leaveEntry e st pr).integrityAt = s.integrityAt := by
  simp only [leaveEntry]; split <;> simp

theorem endAccess_access (s : State) : s.endAccess.bus.access = none := by
  cases h : s.bus.access with
  | none => rw [endAccess_of_none h, h]
  | some a => rw [endAccess_of_some h]

end State

/-- A turn of a pair that is not ABSENT, whose check fails, reinitialises its record (R5). -/
theorem scanTurn_of_mismatch {s : State} {p : Pair} (hr : s.running = true) (hs : s.service p ≠ .absent)
    (hc : (s.pair p).check = false) (tip ring : Int) : scanTurn p tip ring s = s.reinitialise p := by
  cases h : s.service p with
  | absent => exact absurd h hs
  | parked => simp [scanTurn, hr, h, hc]
  | equipped => simp [scanTurn, hr, h, hc]

/-- The withdrawal of R7 as the obligation writes it. -/
theorem orphanClaim_cases (s : State) (p : Pair) : s.orphanClaim p =
    match s.item (.faultClaim p) with
    | some y =>
      if y.withdrawn = true then s
      else if y.content = none then s.removeItem (.faultClaim p)
      else s.updateItem (.faultClaim p) fun z => { z with withdrawn := true, orphaned := true }
    | none => s := by
  unfold State.orphanClaim
  cases h : s.item (.faultClaim p) with
  | none => rfl
  | some y =>
    cases hc : y.content with
    | none => simp [State.withdraw, h, hc]
    | some b => simp only [State.withdraw, h, hc]; rfl

/-- Settles O48: the consequences of R7 one at a time, each leaving the state that the obligation names but for the
record made anew, and the second error. -/
theorem integrityErrors : Obligations.IntegrityErrors := by
  refine ⟨?_, ?_⟩
  · intro s p tip ring hr hs hc hfirst r turned dropped away waiting unserved poolFree
    have hdropped : (s.orphanClaim p).retireTag p = dropped :=
      congrArg (fun u => State.retireTag u p) (orphanClaim_cases s p)
    obtain ⟨queue, tags, hd⟩ := s.exists_dropped_eq p
    have hd' : dropped = { s with queue := queue, tags := tags } := hdropped.symm.trans hd
    clear_value dropped
    subst hd'
    have turned_of {x : State} (h : State.AgreesOff p r (((s.dropClaim p).reclaimReceiver p).cutAccess p) x)
        (hnow : x.now = s.now) (hat : x.integrityAt = s.integrityAt) : turned x := by
      have hreport := State.reportIntegrity_of_first (s := x.renewed p r s.now)
        (by simpa [State.renewed, hnow, hat] using hfirst)
      show exec _ s = _
      rw [exec_scanTurn, scanTurn_of_mismatch hr hs hc, State.reinitialise_eq h, hnow, hreport]
      simp only [State.renewed, State.place_now, State.updateItem_now, State.setPair_now, hnow]
      rfl
    have start (h : away) : State.AgreesOff p r (s.dropClaim p) { s with queue := queue, tags := tags } := by
      rw [State.dropClaim_of_away h, hd]
      exact .refl rfl
    refine ⟨fun haway hpool hacc => ?_, fun cls e hpool hacc hlinked he hcheck => ?_, fun haway hacc => ?_, ?_⟩
    · exact turned_of (((start haway).reclaimReceiver_free hpool.1 hpool.2).cutAccess_none hacc) rfl rfl
    · have left := State.agreesOff_dropClaim_linked hr hlinked he hcheck hd
      have pooled := left.reclaimReceiver_free (fun j => by rw [State.leaveEntry_receiver]; exact hpool.1 j)
        (by rw [State.leaveEntry_waitList]; exact hpool.2)
      exact turned_of (pooled.cutAccess_none ((State.leaveEntry_inAccess ..).trans hacc)) (State.leaveEntry_now ..)
        (State.leaveEntry_integrityAt ..)
    · refine ⟨fun hun => ?_, fun j hj hlow => ⟨fun hw => ?_, fun q since rest hw => ?_⟩⟩
      · exact turned_of (((start haway).reclaimReceiver_unserved hun).cutAccess_none hacc) rfl rfl
      · have idle := ((start haway).leaveWaitList p).releaseReceiver_idle hj hw
        rw [← (start haway).reclaimReceiver_served hj hlow] at idle
        rw [← hw]
        exact turned_of (idle.cutAccess_none hacc) rfl rfl
      · have hq : q ≠ p := by
          have : ({ pair := q, since := since } : Waiting) ∈ waiting := by rw [hw]; exact List.mem_cons_self
          simpa using (List.mem_filter.1 this).2
        have next := ((start haway).leaveWaitList p).releaseReceiver_next hq hj hw
        rw [← (start haway).reclaimReceiver_served hj hlow] at next
        obtain ⟨hunow, huat, huacc⟩ := State.handOn_frame
          { s with queue := queue, tags := tags, waitList := rest } j q (min 15 ((s.now - since) / 1000))
        exact turned_of (next.cutAccess_none ((huacc p).trans hacc)) hunow huat
    · intro haway hpool hacc freed stopped
      have pooled := (start haway).reclaimReceiver_free hpool.1 hpool.2
      refine ⟨fun hm => ?_, fun m hm hst hpr => ⟨fun hrun => ?_, fun q hrun htest => ?_⟩⟩
      · exact turned_of (pooled.cutAccess_unmeasured hacc hm) rfl rfl
      · exact turned_of (pooled.cutAccess_run hacc hm hst hpr hrun) rfl rfl
      · exact turned_of (pooled.cutAccess_test hacc hm hst hpr hrun htest) (State.place_now ..)
          (State.place_integrityAt ..)
  · intro s p tip ring t hr hs hc hclaim hat hlt
    obtain ⟨u, hu, hunow, huat⟩ := State.exists_reinitialise_eq s p hclaim
    have failed : exec (.scanTurn p tip ring) s = .next u.enterFailed := by
      rw [exec_scanTurn, scanTurn_of_mismatch hr hs hc, hu,
        State.reportIntegrity_of_second (huat.trans hat) (by rw [hunow]; exact hlt),
        State.settle_of_not_active (by simp [State.enterFailed])]
    refine ⟨_, failed, rfl, rfl, rfl, rfl, State.endAccess_access u, rfl, rfl, fun e => ?_, fun i => ?_, ?_⟩
    · simp [State.enterFailed, State.entry, Vector.get]
    · simp [State.enterFailed, State.slot, Vector.get]
    · simpa [State.enterFailed, State.disconnectUnit] using huat.trans hat

end Sys2Proof.Machine
end

section
/-! PROOFS. Sensing and sample classification: the class of a sample, what a sample adds to the interval accumulator, the
interval record, and the learning of D_ref16 (R22 to R33). -/

namespace Sys2Proof.Machine

/-! ### The class of a sample (R22 to R24) -/

theorem isClipped_iff {tip ring : Int} :
    isClipped tip ring = true ↔ tip = -2048 ∨ tip = 2047 ∨ ring = -2048 ∨ ring = 2047 := by
  simp [isClipped, or_assoc]

theorem sampleClass_of_clipped {tip ring : Int} (h : isClipped tip ring = true) (memory : SampleClass) :
    sampleClass memory tip ring = memory := by
  simp [sampleClass, h]

section Classify

variable {memory : SampleClass} {d c : Int}

theorem classify_dead (hd : d.natAbs < 24) (hc : c.natAbs < 24) : classify memory d c = .dead := by
  simp [classify, hd, hc]

theorem classify_closed (hd : d.natAbs < 80) (h : 24 ≤ d.natAbs ∨ 24 ≤ c.natAbs) : classify memory d c = .closed := by
  rw [classify, if_neg (by omega), if_pos hd]

theorem classify_hold (hd : 80 ≤ d.natAbs) (hd' : d.natAbs ≤ 112) : classify memory d c = memory := by
  rw [classify, if_neg (by omega), if_neg (by omega), if_neg (by omega)]

theorem classify_open (hd : 112 < d.natAbs) : classify memory d c = .openLoop := by
  rw [classify, if_neg (by omega), if_neg (by omega), if_pos hd]

end Classify

/-! ### What a sample adds (R26 to R28) -/

/-- What a sample adds, field by field: an unclipped one counts for its class, and an OPEN one for the sag test. -/
theorem addSample_eq (a : Accumulator) (dref16 : Nat) (cls : SampleClass) (tip ring : Int) :
    a.addSample dref16 cls tip ring =
      let isOpen := ¬isClipped tip ring = true ∧ cls = .openLoop
      let m := (tip - ring).natAbs
      { scans := a.scans + 1
        clipped := if isClipped tip ring then a.clipped + 1 else a.clipped
        positive := if isPositive tip ring then a.positive + 1 else a.positive
        dead := if ¬isClipped tip ring = true ∧ cls = .dead then a.dead + 1 else a.dead
        opened := if isOpen then a.opened + 1 else a.opened
        sum := if isOpen then a.sum + m else a.sum
        sag := if isOpen ∧ sagTest dref16 m then a.sag + 1 else a.sag
        extremes := if isClipped tip ring then a.extremes
          else some (widen a.extremes (tip - ring) ((tip + ring).tdiv 2)) } := by
  have counted (b : Bool) (n : Nat) : n + b.toNat = if b then n + 1 else n := by cases b <;> rfl
  cases h : isClipped tip ring
  · cases cls <;> simp [Accumulator.addSample, h, counted, diffValue, commonValue]
  · simp [Accumulator.addSample, h, counted]

theorem sagTest_iff {dref16 m : Nat} : sagTest dref16 m = true ↔ (dref16 ≠ 0 ∧ 16 * m + 384 < dref16) ∨ m < 140 := by
  simp [sagTest]

theorem isPositive_iff {tip ring : Int} : isPositive tip ring = true ↔ 32 < tip ∨ 32 < ring := by
  simp [isPositive]

/-! ### The learning of D_ref16 (R32, R33) -/

theorem learn_of_qualifying {i : IntervalRecord} {m : Nat} (hm : i.mean = some m) (hr : i.ringing = false)
    (hf : i.freeze = .unfrozen) (dref : Nat) : learn dref 0 i = learned dref m := by
  simp [learn, hm, hr, hf]

theorem learn_of_unqualifying {i : IntervalRecord} {groundLeak : Nat}
    (h : i.mean = none ∨ i.ringing = true ∨ groundLeak ≠ 0 ∨ i.freeze ≠ .unfrozen) (dref : Nat) :
    learn dref groundLeak i = dref := by
  unfold learn
  split
  · next m hm => rw [hm] at h; rw [if_neg]; simpa [or_assoc, or_iff_not_imp_left] using h
  · rfl

/-- The clamp of R33 leaves a value from 1 to 65520 alone. -/
theorem learned_of_value {dref mean v : Nat} (hv : 1 ≤ v) (hv' : v ≤ 65520)
    (h : (if dref = 0 then 16 * (mean : Int) else (dref : Int) + (16 * (mean : Int) - dref).tdiv 64) = v) :
    learned dref mean = v := by
  have clamped : (clampTo 0 65520 (v : Int)).toNat = v := by unfold clampTo; omega
  unfold learned
  dsimp only
  rw [h, clamped, if_neg (by omega)]

theorem learned_first {mean : Nat} (h : 80 ≤ mean) (h' : mean ≤ 4093) : learned 0 mean = 16 * mean :=
  learned_of_value (by omega) (by omega) (by simp)

theorem learned_rises {dref mean : Nat} (h : 1 ≤ dref) (hm : mean ≤ 4093) (hle : dref ≤ 16 * mean) :
    learned dref mean = dref + (16 * mean - dref) / 64 := by
  refine learned_of_value (by omega) (by omega) ?_
  rw [if_neg (by omega), Int.tdiv_eq_ediv_of_nonneg (by omega)]
  omega

/-- The division truncates toward zero, so the step down too stops short of the mean (R33). -/
theorem learned_falls {dref mean : Nat} (hm : 1 ≤ mean) (h : dref ≤ 65520) (hle : 16 * mean ≤ dref) :
    learned dref mean = dref - (dref - 16 * mean) / 64 := by
  refine learned_of_value (by omega) (by omega) ?_
  rw [if_neg (by omega), show (16 * (mean : Int) - dref) = -((dref : Int) - 16 * mean) by omega, Int.neg_tdiv,
    Int.tdiv_eq_ediv_of_nonneg (by omega)]
  omega

/-- Settles O4: the class by its bands, the accumulator by whether the sample is clipped and by its class, and the
learning by the side of the mean that D_ref16 stands on. -/
theorem sensingAndLearning : Obligations.SensingAndLearning := by
  refine ⟨?_, ?_, ?_, ?_, ?_⟩
  · intro memory tip ring d c
    split
    · next h => exact sampleClass_of_clipped (isClipped_iff.2 h) memory
    · next h =>
      have unclipped : sampleClass memory tip ring = classify memory (tip - ring) ((tip + ring).tdiv 2) :=
        if_neg (mt isClipped_iff.1 h)
      rw [unclipped]
      exact ⟨classify_dead, fun hd hc => classify_closed (hd.trans (by decide)) (.inr hc),
        fun hd hd' => classify_closed hd' (.inl hd), classify_hold, classify_open⟩
  · intro r tip ring t a d c clipped isOpen sag
    have hclip : isClipped tip ring = true ↔ clipped := isClipped_iff
    have hopen : isOpen ↔ ¬isClipped tip ring = true ∧ t.classMemory = .openLoop := and_congr_left' (not_congr hclip.symm)
    have hsag : sag ↔ (¬isClipped tip ring = true ∧ t.classMemory = .openLoop) ∧ sagTest r.dref16 d.natAbs = true :=
      and_congr hopen sagTest_iff.symm
    have hacc : t.acc = _ := addSample_eq a r.dref16 t.classMemory tip ring
    refine ⟨rfl, ?_, fun h => ?_, fun h => ?_, fun h => ?_, fun h h' => ?_, fun h hd => ?_, fun h => ?_, fun h => ?_,
      fun h => ?_, fun h => ?_, fun h => ?_, fun h => ?_, fun h he => ?_, fun x h he => ?_⟩ <;> rw [hacc]
    · exact if_pos (hclip.2 h)
    · exact if_neg (mt hclip.1 h)
    · exact if_pos (isPositive_iff.2 h)
    · exact if_neg (mt isPositive_iff.1 (by omega))
    · exact if_pos ⟨mt hclip.1 h, hd⟩
    · exact if_neg fun k => h.elim (fun hc => k.1 (hclip.2 hc)) (· k.2)
    · exact ⟨if_pos (hopen.1 h), if_pos (hopen.1 h)⟩
    · exact ⟨if_neg (mt hopen.2 h), if_neg (mt hopen.2 h)⟩
    · exact if_pos (hsag.1 h)
    · exact if_neg (mt hsag.2 h)
    · exact if_pos (hclip.2 h)
    · exact (if_neg (mt hclip.1 h)).trans (by rw [he]; rfl)
    · exact (if_neg (mt hclip.1 h)).trans (by rw [he]; rfl)
  · intro a f i
    refine ⟨rfl, rfl, rfl, rfl, rfl, rfl, fun h => ?_, fun x h => ?_, decide_eq_true_iff, fun h => if_pos h,
      fun h => if_neg (by omega)⟩
    · simp [i, intervalRecord, h]
    · simp [i, intervalRecord, h]
  · intro dref groundLeak i
    refine ⟨fun m hm hr hg hf => ?_, fun h => learn_of_unqualifying h dref⟩
    rw [hg, learn_of_qualifying hm hr hf]
  · intro dref mean hlow hhigh
    refine ⟨fun h => by rw [h, learned_first hlow hhigh], fun h h' => ?_⟩
    have rises : dref ≤ 16 * mean → learned dref mean = dref + (16 * mean - dref) / 64 :=
      learned_rises (by omega) hhigh
    have falls : 16 * mean ≤ dref → learned dref mean = dref - (dref - 16 * mean) / 64 :=
      learned_falls (by omega) (by omega)
    rcases Nat.le_total dref (16 * mean) with hle | hle
    · have := rises hle
      exact ⟨by omega, by omega, rises, falls⟩
    · have := falls hle
      exact ⟨by omega, by omega, rises, falls⟩

end Sys2Proof.Machine
end

section
/-! PROOFS. What the claim logic, the incident table and the test bus controller leave of the pair records: they write the
claim, and at the ends of an access the freeze cause with the runs it clears, and nothing else of any record (R85 to R89,
R139, R140). -/

namespace Sys2Proof.Machine

/-- A record without the fields that a claim or an access writes. -/
def PairRecord.line (r : PairRecord) : PairRecord :=
  { r with claim := .unclaimed, claimTimer := none, freeze := .unfrozen, closedRun := 0, breakLength := 0, feedDead := 0
           check := true }

/-- Every record stands as it was but for the fields that a claim or an access writes. -/
structure State.KeepsLines (s t : State) : Prop where
  line : ∀ p : Pair, (t.pair p).line = (s.pair p).line

namespace State

/-! ### The relation -/

theorem KeepsLines.refl (s : State) : s.KeepsLines s := ⟨fun _ => rfl⟩

/-- Transitivity with the later operation first, as the term of a composed operation shows it. -/
theorem KeepsLines.after {s t u : State} (k : t.KeepsLines u) (h : s.KeepsLines t) : s.KeepsLines u :=
  ⟨fun p => (k.line p).trans (h.line p)⟩

theorem KeepsLines.ite {s t u : State} {c : Prop} [Decidable c] (ht : s.KeepsLines t) (hu : s.KeepsLines u) :
    s.KeepsLines (if c then t else u) := by
  split <;> assumption

theorem KeepsLines.foldl {α : Type} {f : State → α → State} (h : ∀ (s : State) (a : α), s.KeepsLines (f s a))
    (l : List α) (s : State) : s.KeepsLines (l.foldl f s) := by
  induction l generalizing s with
  | nil => exact .refl s
  | cons a rest ih => exact .after (ih _) (h s a)

theorem KeepsLines.of_pairs {s t : State} (h : t.pairs = s.pairs := by simp) : s.KeepsLines t :=
  ⟨fun p => by rw [State.pair, h]; rfl⟩

/-- The records alone are looked at. -/
theorem KeepsLines.congr {s t u : State} (h : s.KeepsLines t) (e : u.pairs = t.pairs := by simp) : s.KeepsLines u :=
  .after (.of_pairs e) h

theorem KeepsLines.setPair {s : State} {p : Pair} {r : PairRecord} (h : r.line = (s.pair p).line) :
    s.KeepsLines (s.setPair p r) := by
  refine ⟨fun q => ?_⟩
  rw [pair_setPair]
  split
  · next e => rw [e, ← h]; rfl
  · rfl

theorem KeepsLines.receiver {s t : State} (h : s.KeepsLines t) (p : Pair) :
    (t.pair p).receiver = (s.pair p).receiver :=
  have : (t.pair p).line.receiver = (s.pair p).line.receiver := by rw [h.line p]
  this

/-! ### Accesses and station control -/

theorem KeepsLines.beginAccess (s : State) (p : Pair) (holder : StationNo) : s.KeepsLines (s.beginAccess p holder) :=
  have frozen : s.KeepsLines (s.setPair p { s.pair p with freeze := .access }) := .setPair rfl
  frozen.congr rfl

theorem KeepsLines.endAccess (s : State) : s.KeepsLines s.endAccess := by
  cases ha : s.bus.access with
  | none => rw [endAccess_of_none ha]; exact .refl s
  | some a =>
    rw [endAccess_of_some ha]
    have thawed : s.KeepsLines (s.setPair a.pair (s.pair a.pair).endAccess) := .setPair rfl
    exact thawed.congr rfl

theorem KeepsLines.endLocalAccess (s : State) : s.KeepsLines s.endLocalAccess := by
  unfold State.endLocalAccess
  split
  · exact .ite (.endAccess s) (.refl s)
  · exact .refl s

theorem KeepsLines.reportIntegrity (s : State) : s.KeepsLines s.reportIntegrity := by
  unfold State.reportIntegrity
  split
  · exact .of_pairs
  · exact .ite ((KeepsLines.endAccess s).congr rfl) .of_pairs

/-! ### Claims -/

theorem KeepsLines.setClaim (s : State) (p : Pair) (c : ClaimState) (t : Option Nat) : s.KeepsLines (s.setClaim p c t) :=
  .setPair rfl

theorem KeepsLines.claimPending (s : State) (p : Pair) (cls : FaultClass) : s.KeepsLines (s.claimPending p cls) := by
  have pending : s.KeepsLines ((s.allocateTag p cls).setClaim p .pending none) := .after (.setClaim ..) .of_pairs
  exact .ite pending.congr pending.congr

theorem KeepsLines.withdrawClaim (s : State) (p : Pair) : s.KeepsLines (s.withdrawClaim p) :=
  .of_pairs (by simp [State.withdrawClaim])

/-! ### The incident table -/

theorem KeepsLines.writeEntry (s : State) (e : EntryNo) (x : Entry) : s.KeepsLines (s.writeEntry e x) := .of_pairs

theorem KeepsLines.leaveEntry (s : State) (e : EntryNo) (st : StationNo) (pr : PairNo) :
    s.KeepsLines (s.leaveEntry e st pr) :=
  .ite (.refl s) (.writeEntry ..)

theorem KeepsLines.joinOwn (s : State) (e : EntryNo) (p : Pair) (cls : FaultClass) : s.KeepsLines (s.joinOwn e p cls) :=
  .after (.setClaim ..) (.writeEntry ..)

theorem KeepsLines.abandonRun (s : State) (e : EntryNo) : s.KeepsLines (s.abandonRun e) := by
  have withdrawn (t : State) : t.KeepsLines t.withdrawQuiet := .of_pairs (by
    unfold State.withdrawQuiet; (repeat' split) <;> simp)
  unfold State.abandonRun
  split
  · exact .refl s
  · split
    · exact .of_pairs rfl
    · have ended : s.KeepsLines s.clearRun.endLocalAccess.withdrawQuiet :=
        .after (withdrawn _) (.after (.endLocalAccess _) (.of_pairs rfl))
      exact ended.congr rfl

theorem KeepsLines.answerDefer (e : EntryNo) (s : State) (d : Defer) : s.KeepsLines (State.answerDefer e s d) := by
  have retired (x : Entry) (p : Pair) : s.KeepsLines ((s.writeEntry e x).retireTag p) := .of_pairs
  unfold State.answerDefer
  refine .ite (.refl s) (.ite .of_pairs ?_)
  dsimp only
  split
  · exact .writeEntry ..
  · refine .ite ?_ (.writeEntry ..)
    split
    · exact .after (.setClaim ..) (retired ..)
    · exact .after (.joinOwn ..) (retired ..)
    · exact .after (.setClaim ..) (retired ..)

theorem KeepsLines.answerDefers (s : State) (e : EntryNo) : s.KeepsLines (s.answerDefers e) :=
  .foldl (KeepsLines.answerDefer e) _ s

theorem KeepsLines.unlinkOwn (k : Key) (forced : Bool) (s : State) (p : Pair) :
    s.KeepsLines (State.unlinkOwn k forced s p) :=
  .ite (.ite (.setClaim ..) (.claimPending s p k.cls)) (.refl s)

theorem KeepsLines.closeEntry (s : State) (e : EntryNo) (v : Verdict) (forced : Bool) :
    s.KeepsLines (s.closeEntry e v forced) := by
  have abandoned (x : Entry) : s.KeepsLines ((s.writeEntry e x).abandonRun e) := .after (.abandonRun ..) (.writeEntry ..)
  unfold State.closeEntry
  dsimp only
  split
  · exact .after (.answerDefers ..) (.after (.foldl (KeepsLines.unlinkOwn _ _) _ _) (abandoned _))
  · exact .after (.answerDefers ..) (abandoned _)

theorem KeepsLines.loseEntry (s : State) (e : EntryNo) : s.KeepsLines (s.loseEntry e) :=
  .after (.reportIntegrity _)
    (.after (.ite (.after (.ite .of_pairs (.refl _)) (.after (.abandonRun ..) (.writeEntry ..)))
      (.after (.closeEntry ..) (.writeEntry ..))) (.of_pairs rfl))

theorem KeepsLines.readEntry (s : State) (e : EntryNo) : s.KeepsLines (s.readEntry e) := .ite (.refl s) (.loseEntry s e)

/-! ### What the claim logic does after the fault state (R85 to R89) -/

theorem KeepsLines.localJoin (s : State) (e : EntryNo) (p : Pair) (cls : FaultClass) :
    s.KeepsLines (s.localJoin e p cls) := by
  have tagged (c : ClaimState) (t : Option Nat) : s.KeepsLines ((s.allocateTag p cls).setClaim p c t) :=
    .after (.setClaim ..) .of_pairs
  unfold State.localJoin
  refine .ite (.joinOwn ..) (.ite (.after (.setClaim ..) (.writeEntry ..)) ?_)
  dsimp only
  split
  · exact .after (.writeEntry ..) (tagged ..)
  · exact tagged ..

theorem KeepsLines.claimMake (s : State) (p : Pair) (cls : FaultClass) : s.KeepsLines (s.claimMake p cls) := by
  unfold State.claimMake
  split
  · exact .claimPending ..
  · exact .after (.ite (.refl _) (.ite (.claimPending ..) (.localJoin ..))) (.readEntry ..)

theorem KeepsLines.leaveIncident (s : State) (p : Pair) (cls : FaultClass) (owned : Bool) :
    s.KeepsLines (s.leaveIncident p cls owned) := by
  have left (t : State) (k : Key) : t.KeepsLines (t.localLeave k p) := by
    unfold State.localLeave
    split
    · exact .refl t
    · exact .after (.ite (.leaveEntry ..) (.refl _)) (.readEntry ..)
  exact .after (.ite (left ..) (KeepsLines.withdrawClaim _ p).congr) (.setClaim ..)

theorem KeepsLines.endStanding (s : State) (p : Pair) : s.KeepsLines (s.endStanding p) := by
  unfold State.endStanding
  split
  · exact .refl s
  · exact .after (.setClaim ..) (.withdrawClaim ..)
  · exact .after (.setClaim ..) .of_pairs
  · exact .leaveIncident ..
  · exact .setClaim ..

theorem KeepsLines.turnClaim (s : State) (p : Pair) (cls : FaultClass) : s.KeepsLines (s.turnClaim p cls) := by
  have anew (t : State) : t.KeepsLines ((t.retireTag p).claimPending p cls) := .after (.claimPending ..) .of_pairs
  unfold State.turnClaim
  split
  · exact anew s
  · exact .after (.ite (.refl _) (.ite (anew _) (.after (.localJoin ..) (.withdrawClaim ..)))) (.readEntry ..)

theorem KeepsLines.claimFor (s : State) (p : Pair) (cls : FaultClass) : s.KeepsLines (s.claimFor p cls) := by
  unfold State.claimFor
  split
  · exact .claimMake ..
  · exact .ite (.refl s) (.turnClaim ..)
  · exact .ite (.refl s) (.after (.claimMake ..) .of_pairs)
  · exact .ite (.refl s) (.after (.ite (.claimMake ..) (.refl _)) (.leaveIncident ..))
  · exact .refl s

theorem KeepsLines.faultConsequence (s : State) (p : Pair) (x : FaultStep) : s.KeepsLines (s.faultConsequence p x) := by
  cases x with
  | quiet => exact .refl s
  | entered cls => exact .claimFor ..
  | turned cls => exact .claimFor ..
  | cleared => exact .endStanding ..

/-! ### What the station does of its own accord -/

theorem KeepsLines.beginConfirmation (s : State) (e : EntryNo) : s.KeepsLines (s.beginConfirmation e) := by
  unfold State.beginConfirmation
  dsimp only
  split
  · exact .refl s
  · exact .ite (.writeEntry ..) (.ite (.writeEntry ..) .of_pairs)

theorem KeepsLines.dueStep {s t : State} (h : s.dueStep = some t) : s.KeepsLines t := by
  unfold State.dueStep at h
  split at h
  · cases h
  · split at h
    · cases h; exact .loseEntry ..
    · split at h <;> cases h
      · exact .of_pairs
      · exact .beginConfirmation ..
      · exact .after (.beginConfirmation ..) (.of_pairs rfl)

theorem KeepsLines.concludeRun (s : State) (result : RunResult) : s.KeepsLines (s.concludeRun result) := by
  unfold State.concludeRun
  split
  · exact .refl s
  · exact .after (.ite (.refl _) (.ite (.closeEntry ..)
      (.after (.ite (.refl _) (.writeEntry ..)) (.after (.answerDefers ..) (.writeEntry ..)))))
      (.after (.readEntry ..) (.of_pairs rfl))

theorem KeepsLines.endTest (s : State) (outcome : TestOutcome) (legs : List LegRecord) :
    s.KeepsLines (s.endTest outcome legs) := by
  unfold State.endTest
  split
  · exact .refl s
  · exact .of_pairs (by simp)

theorem KeepsLines.accessOwn (s : State) (p : Pair) (forRun : Bool) : s.KeepsLines (s.accessOwn p forRun) :=
  have begun := KeepsLines.beginAccess s p s.straps.station
  .ite (begun.congr rfl) begun

/-- A next action, where there is one, keeps the lines. -/
structure LinesKeptBy (s : State) (o : Option State) : Prop where
  keeps : ∀ t, o = .some t → s.KeepsLines t

theorem LinesKeptBy.none {s : State} : s.LinesKeptBy .none :=
  ⟨fun _ h => absurd h (Option.some_ne_none _).symm⟩

theorem LinesKeptBy.some {s t : State} (h : s.KeepsLines t) : s.LinesKeptBy (.some t) :=
  ⟨fun _ e => Option.some.inj e ▸ h⟩

theorem LinesKeptBy.ite {s : State} {o o' : Option State} {c : Prop} [Decidable c] (h : s.LinesKeptBy o)
    (h' : s.LinesKeptBy o') : s.LinesKeptBy (if c then o else o') := by
  split <;> assumption

theorem LinesKeptBy.visitMember (s : State) (run : Run) (m : Member) : s.LinesKeptBy (s.visitMember run m) := by
  have skip : s.LinesKeptBy (.some { s with bus := { s.bus with position := s.bus.position + 1 } }) :=
    .some (.of_pairs rfl)
  unfold State.visitMember
  refine .ite skip (.ite ?_ (.ite .none (.some .of_pairs)))
  split
  · exact skip
  · exact .ite skip (.some (.accessOwn ..))

theorem KeepsLines.startTest (s : State) (t : UplinkTest) : s.KeepsLines (s.startTest t) :=
  .ite (.endTest ..) (.ite (.endTest ..) (.after (.accessOwn ..) (.of_pairs rfl)))

/-- What the holder does next, by its kind (R137, R141, R142). -/
theorem LinesKeptBy.holderStep (s : State) : s.LinesKeptBy s.holderStep := by
  have placed (k : ItemKind) : s.LinesKeptBy (.some (s.place k)) := .some .of_pairs
  have concluded (r : RunResult) : s.LinesKeptBy (.some (s.concludeRun r)) := .some (.concludeRun s r)
  have unlocked : s.LinesKeptBy (.some { (s.place .unlock) with bus := { s.bus with unlockDue := false } }) :=
    .some (.of_pairs (by simp))
  have started (b : TestBus) : s.LinesKeptBy (.some { s with bus := b }) := .some (.of_pairs rfl)
  unfold State.holderStep
  refine .ite .none (.ite ?remote (.ite (.ite .none unlocked) (.ite (.ite .none (placed _)) (.ite .none ?job))))
  case remote =>
    split
    · exact .ite .none (placed _)
    · exact .none
  case job =>
    split
    · refine .ite ?_ (.ite .none (.ite (concluded _) (started _)))
      split
      · refine .ite (concluded _) (.ite .none ?_)
        split
        · split
          · exact .visitMember ..
          · exact .none
        · exact .visitMember ..
      · exact concluded _
    · refine .ite .none ?_
      split
      · exact .ite (.ite (.some (.endTest ..)) (.some (.startTest ..))) (.ite .none (placed _))
      · exact .ite .none (placed _)

theorem LinesKeptBy.busStep (s : State) : s.LinesKeptBy s.busStep := by
  have stale : s.LinesKeptBy (.some (s.withdraw .testBus markWithdrawn)) := .some .of_pairs
  unfold State.busStep
  refine .ite .none ?_
  split
  · exact .holderStep s
  · exact .ite stale (.ite (.some .of_pairs) .none)
  · exact .ite stale .none

theorem KeepsLines.nextStep {s t : State} (h : s.nextStep = some t) : s.KeepsLines t := by
  unfold State.nextStep at h
  split at h
  · next hd => cases h; exact .dueStep hd
  · exact (LinesKeptBy.busStep s).keeps t h

theorem KeepsLines.settleUpTo (n : Nat) (s : State) : s.KeepsLines (s.settleUpTo n) := by
  induction n generalizing s with
  | zero => exact .refl s
  | succ n ih =>
    unfold State.settleUpTo
    split
    · exact .refl s
    · next t h => exact .after (ih t) (.nextStep h)

theorem KeepsLines.settle (s : State) : s.KeepsLines s.settle := .settleUpTo 400 s

theorem KeepsLines.settleIf (s : State) (changed : Bool) : s.KeepsLines (s.settleIf changed) := .ite (.settle s) (.refl s)

end State

end Sys2Proof.Machine
end

section
/-! PROOFS. The close of a fault interval (R29, R30, R75): the ringing hold, the fault integrator, and the turn whose
sample is the twentieth of an ON_HOOK pair. -/

namespace Sys2Proof.Machine

/-! ### The ringing hold (R48 to R50) -/

/-- What the ringing hold writes at a close. -/
theorem ringingClose_eq (r : PairRecord) (i : IntervalRecord) : (ringingClose r i).1 = { r with
    loop := (ringingClose r i).1.loop, closedRun := (ringingClose r i).1.closedRun
    ringingHold := (ringingClose r i).1.ringingHold, quietCount := (ringingClose r i).1.quietCount } := by
  unfold ringingClose
  split
  · rfl
  · split
    · split
      · rfl
      · dsimp only; split <;> rfl
    · split
      · split <;> rfl
      · rfl

section RingingClose

variable {r : PairRecord} {i : IntervalRecord} (hf : i.freeze = .unfrozen)
include hf

theorem ringingClose_ringing_held (hi : i.ringing = true) (hh : r.ringingHold = true) :
    ringingClose r i = ({ r with quietCount := 0 }, none) := by
  simp [ringingClose, hf, hi, hh]

theorem ringingClose_ringing_pending (hi : i.ringing = true) (hh : r.ringingHold = false)
    (hl : r.loop = .seizePending) : ringingClose r i =
      ({ r with loop := .onHook, closedRun := 0, ringingHold := true, quietCount := 0 }, some .ringOn) := by
  simp [ringingClose, hf, hi, hh, hl]

theorem ringingClose_ringing (hi : i.ringing = true) (hh : r.ringingHold = false) (hl : r.loop ≠ .seizePending) :
    ringingClose r i = ({ r with ringingHold := true, quietCount := 0 }, some .ringOn) := by
  simp [ringingClose, hf, hi, hh, hl]

theorem ringingClose_quiet (hi : i.ringing = false) (hh : r.ringingHold = false) : ringingClose r i = (r, none) := by
  simp [ringingClose, hf, hi, hh]

theorem ringingClose_quiet_first (hi : i.ringing = false) (hh : r.ringingHold = true) (hq : r.quietCount = 0) :
    ringingClose r i = ({ r with quietCount := 1 }, none) := by
  simp [ringingClose, hf, hi, hh, hq]

theorem ringingClose_quiet_second (hi : i.ringing = false) (hh : r.ringingHold = true) (hq : r.quietCount = 1) :
    ringingClose r i = ({ r with ringingHold := false, quietCount := 0 }, some .ringOff) := by
  simp [ringingClose, hf, hi, hh, hq]

end RingingClose

/-! ### The fault integrator (R75 to R83) -/

/-- An evaluation of the fault state writes the state and the recovery count alone (R81). -/
theorem evaluateFault_eq (r : PairRecord) (before after : Option FaultClass) (weighed : Bool) :
    (evaluateFault r before after weighed).1 = { r with
      fault := (evaluateFault r before after weighed).1.fault
      recovery := (evaluateFault r before after weighed).1.recovery } := by
  unfold evaluateFault
  (repeat' split) <;> rfl

/-- A weighed close: the integrators move, the classes are latched, D_ref16 learns, and the fault state is evaluated. -/
theorem integrateClose_of_weighed {i : IntervalRecord} (h : i.freeze ≠ .access) (r : PairRecord) :
    integrateClose r i =
      let latched := latchSet r.latched (feedLossStep r.feedLoss i) (foreignStep r.foreign i)
        (groundLeakStep r.groundLeak i)
      evaluateFault
        { r with
          feedLoss := feedLossStep r.feedLoss i, foreign := foreignStep r.foreign i
          groundLeak := groundLeakStep r.groundLeak i, latched := latched
          dref16 := learn r.dref16 (groundLeakStep r.groundLeak i) i }
        (pairClass r.latched) (pairClass latched) true := by
  simp [integrateClose, h]

/-- What the fault integrator writes at a close. -/
theorem integrateClose_eq (r : PairRecord) (i : IntervalRecord) : (integrateClose r i).1 = { r with
    feedLoss := (integrateClose r i).1.feedLoss, foreign := (integrateClose r i).1.foreign
    groundLeak := (integrateClose r i).1.groundLeak, latched := (integrateClose r i).1.latched
    dref16 := (integrateClose r i).1.dref16, fault := (integrateClose r i).1.fault
    recovery := (integrateClose r i).1.recovery } := by
  by_cases h : i.freeze = .access
  · rw [integrateClose_of_access h]
  · rw [integrateClose_of_weighed h]
    dsimp only
    rw [evaluateFault_eq]

@[simp] theorem ringingClose_events (r : PairRecord) (i : IntervalRecord) :
    (ringingClose r i).1.events = r.events := by rw [ringingClose_eq]

@[simp] theorem ringingClose_receiver (r : PairRecord) (i : IntervalRecord) :
    (ringingClose r i).1.receiver = r.receiver := by rw [ringingClose_eq]

@[simp] theorem integrateClose_events (r : PairRecord) (i : IntervalRecord) :
    (integrateClose r i).1.events = r.events := by rw [integrateClose_eq]

@[simp] theorem integrateClose_receiver (r : PairRecord) (i : IntervalRecord) :
    (integrateClose r i).1.receiver = r.receiver := by rw [integrateClose_eq]

/-- D_ref16 learns by the GROUND_LEAK integrator as the close leaves it (R32). -/
theorem integrateClose_dref16 {i : IntervalRecord} (h : i.freeze ≠ .access) (r : PairRecord) :
    (integrateClose r i).1.dref16 = learn r.dref16 (integrateClose r i).1.groundLeak i := by
  rw [integrateClose_of_weighed h]
  dsimp only
  rw [evaluateFault_eq]

/-- From no class latched, FOREIGN alone can be latched where the others' integrators stay below 12 (R79). -/
theorem latchSet_none {feedLoss groundLeak : Nat} (hf : feedLoss < 12) (hg : groundLeak < 12) (foreign : Nat) :
    latchSet .none feedLoss foreign groundLeak = { LatchedSet.none with foreign := decide (12 ≤ foreign) } := by
  simp [latchSet, latchStep, LatchedSet.none, hf, hg]

theorem feedLossStep_lt {n : Nat} (h : n < 11) (i : IntervalRecord) : feedLossStep n i < 12 := by
  unfold feedLossStep riseOne; split <;> omega

theorem foreignStep_lt {n : Nat} (h : n < 11) (i : IntervalRecord) : foreignStep n i < 12 := by
  unfold foreignStep riseOne; split <;> omega

theorem groundLeakStep_lt {n : Nat} (h : n < 11) (i : IntervalRecord) : groundLeakStep n i < 12 := by
  unfold groundLeakStep riseOne; (repeat' split) <;> omega

section FaultAtClose

variable {r : PairRecord} {i : IntervalRecord} (hi : i.freeze ≠ .access) (hl : r.latched = .none)
  (hfeed : r.feedLoss < 11) (hground : r.groundLeak < 11)
include hi hl hfeed hground

/-- The close that brings the FOREIGN integrator of a healthy pair to 12 (R77, R79, R81). -/
theorem integrateClose_foreign_reached (hf : r.foreign = 11) (hc : 1 ≤ i.clipped) (hs : r.fault = .clear) :
    integrateClose r i = ({ r with
      feedLoss := feedLossStep r.feedLoss i, foreign := 12, groundLeak := groundLeakStep r.groundLeak i
      latched := { LatchedSet.none with foreign := true }
      dref16 := learn r.dref16 (groundLeakStep r.groundLeak i) i, fault := .faulted }, .entered .foreign) := by
  have evidence : foreignEvidence i = true := by simp [foreignEvidence, hc]
  have rose : foreignStep r.foreign i = 12 := by simp [foreignStep, evidence, hf, riseOne]
  rw [integrateClose_of_weighed hi]
  dsimp only
  rw [rose, hl, latchSet_none (feedLossStep_lt hfeed i) (groundLeakStep_lt hground i)]
  simp [evaluateFault, pairClass, LatchedSet.none, hs]

/-- The twentieth close in a row with no class latched (R83). -/
theorem integrateClose_recovered (hf : r.foreign < 11) (hs : r.fault = .recovering) (hr : r.recovery = 19) :
    integrateClose r i = ({ r with
      feedLoss := feedLossStep r.feedLoss i, foreign := foreignStep r.foreign i
      groundLeak := groundLeakStep r.groundLeak i
      dref16 := learn r.dref16 (groundLeakStep r.groundLeak i) i, fault := .clear, recovery := 0 }, .cleared) := by
  have low : ¬12 ≤ foreignStep r.foreign i := by have := foreignStep_lt hf i; omega
  rw [integrateClose_of_weighed hi]
  dsimp only
  rw [hl, latchSet_none (feedLossStep_lt hfeed i) (groundLeakStep_lt hground i)]
  simp [evaluateFault, pairClass, LatchedSet.none, hs, hr, low]

end FaultAtClose

/-! ### The events of a close (R9, R30) -/

theorem PairRecord.events_eq_nil_of_append {r : PairRecord} {now : Nat} {t : EventType} {v : Nat}
    (h : (r.append now t v).events = []) : r.events = [] := by
  unfold PairRecord.append at h
  split at h
  · simp at h
  · exact h

@[simp] theorem PairRecord.append_receiver (r : PairRecord) (now : Nat) (t : EventType) (v : Nat) :
    (r.append now t v).receiver = r.receiver := by rw [PairRecord.append_eq]

theorem events_eq_nil_of_appendClose {now : Nat} {first : Bool} {r : PairRecord} {ring : Option EventType}
    {fault : Option (EventType × Nat)} (h : (appendClose now first r ring fault).events = []) : r.events = [] := by
  unfold appendClose at h
  split at h
  · exact h
  · exact PairRecord.events_eq_nil_of_append h
  · exact PairRecord.events_eq_nil_of_append h
  · split at h <;> exact PairRecord.events_eq_nil_of_append (PairRecord.events_eq_nil_of_append h)

theorem appendClose_receiver (now : Nat) (first : Bool) (r : PairRecord) (ring : Option EventType)
    (fault : Option (EventType × Nat)) : (appendClose now first r ring fault).receiver = r.receiver := by
  unfold appendClose
  (repeat' split) <;> simp

namespace State

theorem place_place (s : State) (k : ItemKind) : (s.place k).place k = s.place k := by
  cases hr : s.running
  · simp [State.place, hr]
  · exact place_of_present (hasItem_place_same hr)

theorem setPair_place (s : State) (p : Pair) (r : PairRecord) (k : ItemKind) :
    (s.place k).setPair p r = (s.setPair p r).place k := by
  simp only [place_eq]; rfl

/-- Two writes of a record in one turn, where the second leaves the list no emptier, place one item (R13, R104). -/
theorem placeLineEvents_setPair_again {s : State} {p : Pair} {x y : PairRecord} (h : y.events = [] → x.events = []) :
    (((s.setPair p x).placeLineEvents p).setPair p y).placeLineEvents p = (s.setPair p y).placeLineEvents p := by
  by_cases hx : x.events = []
  · simp [State.placeLineEvents, hx, setPair_setPair]
  · have hy : y.events ≠ [] := mt h hx
    simp [State.placeLineEvents, hx, hy, setPair_place, setPair_setPair, place_place]

theorem noteAudio_of_unserved {s : State} {p : Pair} (h : (s.pair p).receiver = none) : s.noteAudio p = s := by
  simp [State.noteAudio, h]

/-- A close at which at most one event is appended takes no free choice (log entry 8). -/
theorem closeInterval_of_one_event {s : State} {p : Pair} {x c : PairRecord} {ev : Option EventType} {step : FaultStep}
    (hring : ringingClose { s.pair p with acc := .empty } (intervalRecord (s.pair p).acc (s.pair p).freeze) = (x, ev))
    (hfault : integrateClose x (intervalRecord (s.pair p).acc (s.pair p).freeze) = (c, step))
    (hone : ev = none ∨ faultEvent step = none) : s.closeInterval p =
      (((s.setPair p (appendClose s.now (Config.loopEventFirst s.choices) c ev (faultEvent step))).placeLineEvents
        p).faultConsequence p step).settleIf (step != .quiet) := by
  have one : (ev.isSome && (faultEvent step).isSome) = false := by
    rcases hone with h | h <;> simp [h]
  simp [State.closeInterval, hring, hfault, one]

end State

/-! ### The closing turn of an ON_HOOK pair -/

/-- A turn brings the twentieth sample of the interval, an OPEN one, to a pair in ON_HOOK that is not frozen and holds no
receiver. -/
structure State.ClosingTurn (s : State) (p : Pair) (tip ring : Int) : Prop where
  running : s.running = true
  equipped : s.service p = .equipped
  check : (s.pair p).check = true
  unfrozen : (s.pair p).freeze = .unfrozen
  scans : (s.pair p).acc.scans = 19
  unserved : (s.pair p).receiver = none
  onHook : (s.pair p).loop = .onHook
  isOpen : ((s.pair p).sample (senseReading tip) (senseReading ring)).classMemory = .openLoop

theorem loopSample_onHook_open {r : PairRecord} (hf : r.freeze = .unfrozen) (hl : r.loop = .onHook) (now : Nat) :
    loopSample now r .openLoop = ({ r with closedRun := 0, feedDead := 0 }, .silent) := by
  have : effectiveClosed r .openLoop = false := rfl
  simp [loopSample, hf, this, loopMachine_onHook_open hl, countDead]

theorem PairRecord.set_check {r : PairRecord} (h : r.check = true) : { r with check := true } = r := by rw [← h]

/-- The record of a closing turn as the loop supervisor leaves it (R37, R52). -/
def State.supervised (s : State) (p : Pair) (tip ring : Int) : PairRecord :=
  { (s.pair p).sample (senseReading tip) (senseReading ring) with closedRun := 0, feedDead := 0 }

namespace State.ClosingTurn

variable {s : State} {p : Pair} {tip ring : Int} (h : s.ClosingTurn p tip ring)
include h

/-- The turn up to its close: the record sampled and supervised, and no receiver told. -/
theorem scanTurn_eq : scanTurn p tip ring s =
    (((s.setPair p (s.supervised p tip ring)).placeLineEvents p).closeInterval p).noteAudio p := by
  have sampled : scanTurn p tip ring s = s.sampleTurn p tip ring := by
    simp [scanTurn, h.running, h.equipped, h.check, h.unfrozen]
  have supervised : loopSample s.now ((s.pair p).sample (senseReading tip) (senseReading ring)) .openLoop =
      (s.supervised p tip ring, .silent) :=
    loopSample_onHook_open (r := (s.pair p).sample (senseReading tip) (senseReading ring)) h.unfrozen h.onHook s.now
  have full : 20 ≤ (s.supervised p tip ring).acc.scans := by
    rw [State.supervised, sample_scans, h.scans]
  rw [sampled]
  simp only [State.sampleTurn, h.isOpen, supervised, State.poolMessage]
  rw [State.evaluateLoop, if_pos (by simp; rfl), closeIfFull_of_ge (by simp [h.running]) (by simpa using full)]

/-- The closing turn of a close that appends at most one event. -/
theorem exec_eq {x c : PairRecord} {ev : Option EventType} {step : FaultStep}
    (hring : ringingClose { s.supervised p tip ring with acc := .empty }
      (intervalRecord (s.supervised p tip ring).acc .unfrozen) = (x, ev))
    (hfault : integrateClose x (intervalRecord (s.supervised p tip ring).acc .unfrozen) = (c, step))
    (hone : ev = none ∨ faultEvent step = none) : exec (.scanTurn p tip ring) s = .next
      ((((s.setPair p (appendClose s.now (Config.loopEventFirst s.choices) c ev (faultEvent step))).placeLineEvents
        p).faultConsequence p step).settleIf (step != .quiet)) := by
  have hpair : ((s.setPair p (s.supervised p tip ring)).placeLineEvents p).pair p = s.supervised p tip ring := by
    rw [State.placeLineEvents_pair, State.pair_setPair_same]
    exact PairRecord.set_check h.check
  have hfreeze : (s.supervised p tip ring).freeze = .unfrozen := h.unfrozen
  have events : c.events = (s.supervised p tip ring).events := by
    have := integrateClose_events x (intervalRecord (s.supervised p tip ring).acc .unfrozen)
    rw [hfault] at this
    rw [this, show x = _ from (congrArg Prod.fst hring).symm, ringingClose_events]
  have unserved : c.receiver = none := by
    have := integrateClose_receiver x (intervalRecord (s.supervised p tip ring).acc .unfrozen)
    rw [hfault] at this
    rw [this, show x = _ from (congrArg Prod.fst hring).symm, ringingClose_receiver]
    exact h.unserved
  rw [exec_scanTurn, h.scanTurn_eq,
    State.closeInterval_of_one_event (by rw [hpair, hfreeze]; exact hring) (by rw [hpair, hfreeze]; exact hfault) hone,
    State.placeLineEvents_setPair_again fun he => events ▸ events_eq_nil_of_appendClose he]
  simp only [State.placeLineEvents_now, State.setPair_now, State.placeLineEvents_choices, State.setPair_choices]
  rw [State.noteAudio_of_unserved]
  rw [(State.KeepsLines.after (.settleIf _ _) (.faultConsequence _ p step)).receiver]
  simp [appendClose_receiver, unserved]

/-- A close that neither rings nor asks anything of the claim logic. -/
theorem exec_of_no_event {x c : PairRecord}
    (hring : ringingClose { s.supervised p tip ring with acc := .empty }
      (intervalRecord (s.supervised p tip ring).acc .unfrozen) = (x, none))
    (hfault : integrateClose x (intervalRecord (s.supervised p tip ring).acc .unfrozen) = (c, .quiet)) :
    exec (.scanTurn p tip ring) s = .next ((s.setPair p c).placeLineEvents p) :=
  h.exec_eq hring hfault (.inl rfl)

/-- A close at which the ringing hold alone appends its event. -/
theorem exec_of_ring {x c : PairRecord} {t : EventType}
    (hring : ringingClose { s.supervised p tip ring with acc := .empty }
      (intervalRecord (s.supervised p tip ring).acc .unfrozen) = (x, some t))
    (hfault : integrateClose x (intervalRecord (s.supervised p tip ring).acc .unfrozen) = (c, .quiet)) :
    exec (.scanTurn p tip ring) s = .next ((s.setPair p (c.append s.now t 0)).placeLineEvents p) :=
  h.exec_eq hring hfault (.inr rfl)

/-- A close at which the fault state alone appends its event, and the claim logic follows. -/
theorem exec_of_fault {x c : PairRecord} {step : FaultStep} {e : EventType × Nat}
    (hring : ringingClose { s.supervised p tip ring with acc := .empty }
      (intervalRecord (s.supervised p tip ring).acc .unfrozen) = (x, none))
    (hfault : integrateClose x (intervalRecord (s.supervised p tip ring).acc .unfrozen) = (c, step))
    (he : faultEvent step = some e) : exec (.scanTurn p tip ring) s = .next
      (((s.setPair p (c.append s.now e.1 e.2)).placeLineEvents p).faultConsequence p step).settle := by
  have loud : (step != .quiet) = true := by cases step <;> simp [faultEvent] at he ⊢
  rw [h.exec_eq hring hfault (.inl rfl), he, loud]
  rfl

end State.ClosingTurn

/-- Settles O10: the ringing hold case by case, the learning through the fault integrator, and the closing turn with the
one event that each case appends. -/
theorem ringingHoldAtClose : Obligations.RingingHoldAtClose := by
  refine ⟨fun r i => ⟨fun hf => ringingClose_of_frozen hf r, fun hf => ringingClose_ringing_held hf,
    fun hf => ringingClose_ringing_pending hf, fun hf => ringingClose_ringing hf, fun hf => ringingClose_quiet hf,
    fun hf => ringingClose_quiet_first hf, fun hf => ringingClose_quiet_second hf⟩,
    fun r i => ⟨fun hf => integrateClose_of_access hf r, fun hf => integrateClose_dref16 hf r⟩, ?_⟩
  intro s p tip ring hr hs hc hf hn hrec hl r i close written ho
  have turn : s.ClosingTurn p tip ring := ⟨hr, hs, hc, hf, hn, hrec, hl, ho⟩
  have quiet {x : PairRecord} (hx : (integrateClose x i).2 = .quiet) : integrateClose x i = ((integrateClose x i).1, .quiet) :=
    Prod.ext rfl hx
  have idle : r.loop ≠ .seizePending := by rw [show r.loop = .onHook from hl]; decide
  refine ⟨fun hi hh hq => ?_, fun hi hh hcount hq => ?_, fun hi hh hq => ?_⟩
  · exact turn.exec_of_ring (ringingClose_ringing rfl hi hh idle) (quiet hq)
  · exact turn.exec_of_ring (ringingClose_quiet_second rfl hi hh hcount) (quiet hq)
  · exact turn.exec_of_no_event (ringingClose_quiet rfl hi hh) (quiet hq)

end Sys2Proof.Machine
end

section
/-! PROOFS. The close that enters FAULTED with a claim, and the close that clears the fault state (R79 to R89). -/

namespace Sys2Proof.Machine

namespace State

/-! ### The items that stand after a placing (R103, R104) -/

theorem find?_insertItem {f : Item → Bool} {x : Item} {q : List Item} (hx : f x = true)
    (hq : ∀ y ∈ q, f y = false) : (insertItem x q).find? f = some x := by
  induction q with
  | nil => simp [insertItem, hx]
  | cons y rest ih =>
    have hy := hq y List.mem_cons_self
    have hrest := ih fun z hz => hq z (List.mem_cons_of_mem y hz)
    unfold insertItem
    split
    · simp [hy, hrest]
    · simp [hx]

/-- An item newly placed is the one of its name. -/
theorem item_place_new {s : State} {k : ItemKind} (hr : s.running = true) (h : s.hasItem (itemRef k) = false) :
    (s.place k).item (itemRef k) = some (newItem k) := by
  have absent : ∀ y ∈ s.queue, (itemRef y.kind == itemRef k) = false := by simpa [State.hasItem] using h
  simp only [State.place, hr, h, State.item]
  exact find?_insertItem (beq_self_eq_true _) absent

/-- A placing leaves the items of other names as they stood. -/
theorem hasItem_place_other {s : State} {k : ItemKind} {ref : ItemRef} (h : itemRef k ≠ ref) :
    (s.place k).hasItem ref = s.hasItem ref := by
  unfold State.place
  split
  · simp only [State.hasItem]
    rw [(insertItem_perm _ _).any_eq]
    simp [newItem, h]
  · rfl

/-! ### A claim made PENDING (R84, R85) -/

/-- The first tag from the pointer upward is the pointer's own where that is free (R84). -/
theorem allocateTag_of_pointer_free {s : State} {tag : Tag} (hp : s.tagPointer = tag) (ht : s.tags.get tag = none)
    (p : Pair) (cls : FaultClass) : s.allocateTag p cls =
      { s with tags := s.tags.set tag.val (some { pair := p, cls := cls }) tag.isLt, tagPointer := tag + 1 } := by
  have : s.freeTag = tag := by simp [State.freeTag, List.finRange_succ, hp, ht]
  simp [State.allocateTag, this]

/-- A pair without a standing claims anew, and under a key that no entry here holds it contends (R85, R87). -/
theorem claimFor_of_unowned {s : State} {p : Pair} {cls : FaultClass} (hc : (s.pair p).claim = .unclaimed)
    (ho : s.ownedEntry (s.pairKey p cls) = none) (hi : s.hasItem (.faultClaim p) = false) :
    s.claimFor p cls = ((s.allocateTag p cls).setClaim p .pending none).place (.faultClaim p) := by
  have absent : ((s.allocateTag p cls).setClaim p .pending none).hasItem (.faultClaim p) = false := hi
  simp [State.claimFor, hc, State.claimMake, ho, State.claimPending, absent]

/-- What entry into FAULTED leaves of the state, under a key that no entry here holds. -/
theorem entered_of_unowned {s t : State} {p : Pair} {cls : FaultClass} {tag : Tag}
    (h : s.faultConsequence p (.entered cls) = t) (hr : s.running = true) (hc : (s.pair p).claim = .unclaimed)
    (ho : s.ownedEntry (s.pairKey p cls) = none) (hi : s.hasItem (.faultClaim p) = false) (hp : s.tagPointer = tag)
    (ht : s.tags.get tag = none) :
    t = { s with pairs := t.pairs, tags := t.tags, tagPointer := tag + 1, queue := t.queue } ∧
      (∀ q : Pair, q ≠ p → t.pair q = s.pair q) ∧
      t.pair p = { s.pair p with claim := .pending, claimTimer := none, check := true } ∧
      (∀ i : Tag, t.tags.get i = if i = tag then some { pair := p, cls := cls } else s.tags.get i) ∧
      t.item (.faultClaim p) = some (newItem (.faultClaim p)) ∧
      (∀ ref : ItemRef, ref ≠ .faultClaim p → t.hasItem ref = s.hasItem ref) := by
  have claimed := claimFor_of_unowned hc ho hi
  rw [allocateTag_of_pointer_free hp ht] at claimed
  obtain rfl := claimed.symm.trans h
  refine ⟨?_, fun q hq => ?_, ?_, fun i => ?_, ?_, fun ref href => ?_⟩
  · rw [place_eq]
    rfl
  · rw [place_pair, State.setClaim, pair_modPair_ne _ _ _ _ hq]
    rfl
  · rw [place_pair, State.setClaim, pair_modPair_same]
    rfl
  · rw [place_tags]
    exact get_set ..
  · exact item_place_new (k := .faultClaim p) hr hi
  · exact hasItem_place_other href.symm

end State

theorem PairRecord.append_of_room {r : PairRecord} (h : r.events.length < 8) (now : Nat) (t : EventType) (v : Nat) :
    r.append now t v = { r with
      events := r.events ++ [{ type := t, value := v, seq := r.nextSeq, time := now }], nextSeq := r.nextSeq + 1 } :=
  if_pos h

/-- Settles O13: what the fault integrator does at each of the two closes, put into the closing turn; the claim that follows
entry into FAULTED is one tag, one claim state and one item. -/
theorem faultAtCloseClaimsAndClears : Obligations.FaultAtCloseClaimsAndClears := by
  refine ⟨?_, ?_⟩
  · intro s p tip ring tag hr hs hc hf hl hn hforeign hfault hlatched hfeed hground hhold hclaim hrec hlen howned hitem
      hptr htag r i ho hclip hi
    have turn : s.ClosingTurn p tip ring := ⟨hr, hs, hc, hf, hn, hrec, hl, ho⟩
    have reached := integrateClose_foreign_reached (r := { s.supervised p tip ring with acc := .empty }) (i := i)
      nofun hlatched hfeed hground hforeign hclip hfault
    have run := turn.exec_of_fault (ringingClose_quiet rfl hi hhold) reached rfl
    rw [PairRecord.append_of_room (by exact hlen), State.placeLineEvents, if_neg (by simp)] at run
    generalize ht : State.faultConsequence _ p (.entered .foreign) = t at run
    obtain ⟨frame, others, own, tags, item, rest⟩ := State.entered_of_unowned ht (by simpa using hr)
      (by rw [State.place_pair, State.pair_setPair_same]; exact hclaim) (by rw [State.place_eq]; exact howned)
      ((State.hasItem_place_other (by simp [itemRef])).trans hitem) (by simpa using hptr) (by simpa using htag)
    refine ⟨t, run, ?_, fun q hq => ?_, ?_, fun i => ?_, item, ?_⟩
    · rw [State.place_eq] at frame
      exact frame
    · rw [others q hq, State.place_pair, State.pair_setPair_ne _ _ _ _ hq]
    · rw [own, State.place_pair, State.pair_setPair_same]
      exact ⟨rfl, rfl, rfl, rfl, rfl, rfl, rfl, rfl, hl, rfl, rfl, rfl⟩
    · rw [tags, State.place_tags]
      rfl
    · rw [rest _ (by simp)]
      exact State.hasItem_place_same (k := .lineEvents p) hr
  · intro s p tip ring hr hs hc hf hn hrec hl hfault hcount hlatched hfeed hforeign hground hhold r i c ho hi
    have turn : s.ClosingTurn p tip ring := ⟨hr, hs, hc, hf, hn, hrec, hl, ho⟩
    have recovered := integrateClose_recovered (r := { s.supervised p tip ring with acc := .empty }) (i := i)
      nofun hlatched hfeed hground hforeign hfault hcount
    have hc : c = _ := congrArg Prod.fst recovered
    have run := turn.exec_of_fault (ringingClose_quiet rfl hi hhold) recovered rfl
    refine ⟨by rw [hc], by rw [hc], by rw [hc]; exact hlatched, ?_⟩
    rw [hc]
    exact run

end Sys2Proof.Machine
end

section
/-! PROOFS. The agreements of holding, access and tone pool (R54, R56 to R60, R132, R139, R145, R146) through every
operation of the station. The claim logic, the incident table and the test bus controller leave the pool alone
(`SparesPool`), and the commands keep the three agreements (`KeepsAgreements`): one lemma for each operation, in the
order of the model, up to `exec`. -/

namespace Sys2Proof.Machine

namespace State

/-! ### The relations -/

/-- No lock is held and nothing is measured (R132, R145). -/
def Unheld (s : State) : Prop := s.bus.view ≠ .mine ∧ s.unit.measurement = none

/-- A pair neither holds a receiver nor waits for one (R57). -/
def OffPool (s : State) (p : Pair) : Prop := (s.pair p).receiver = none ∧ ∀ w ∈ s.waitList, w.pair ≠ p

/-- What an operation keeps that leaves the clock, the services and the tone pool alone: the agreements of holding and
access, and that no lock is held and nothing measured. -/
structure SparesPool (s t : State) : Prop where
  now : t.now = s.now
  services : t.serviceA = s.serviceA
  receivers : t.receivers = s.receivers
  waitList : t.waitList = s.waitList
  lent : ∀ p : Pair, (t.pair p).receiver = (s.pair p).receiver
  holder : s.HolderOk → t.HolderOk
  access : s.AccessOk → t.AccessOk
  unheld : s.Unheld → t.Unheld

/-- What every command keeps. -/
structure KeepsAgreements (s t : State) : Prop where
  holder : s.HolderOk → t.HolderOk
  access : s.AccessOk → t.AccessOk
  pool : s.PoolOk → t.PoolOk

theorem SparesPool.refl (s : State) : s.SparesPool s := ⟨rfl, rfl, rfl, rfl, fun _ => rfl, id, id, id⟩

theorem SparesPool.trans {s t u : State} (h : s.SparesPool t) (k : t.SparesPool u) : s.SparesPool u where
  now := k.now.trans h.now
  services := k.services.trans h.services
  receivers := k.receivers.trans h.receivers
  waitList := k.waitList.trans h.waitList
  lent p := (k.lent p).trans (h.lent p)
  holder := k.holder ∘ h.holder
  access := k.access ∘ h.access
  unheld := k.unheld ∘ h.unheld

/-- `SparesPool.trans` with the later operation first, as the term of a composed operation shows it. -/
theorem SparesPool.after {s t u : State} (k : t.SparesPool u) (h : s.SparesPool t) : s.SparesPool u := h.trans k

theorem SparesPool.ite {s t u : State} {c : Prop} [Decidable c] (ht : s.SparesPool t) (hu : s.SparesPool u) :
    s.SparesPool (if c then t else u) := by
  split <;> assumption

theorem SparesPool.foldl {α : Type} {f : State → α → State} (h : ∀ (s : State) (a : α), s.SparesPool (f s a))
    (l : List α) (s : State) : s.SparesPool (l.foldl f s) := by
  induction l generalizing s with
  | nil => exact .refl s
  | cons a rest ih => exact (h s a).trans (ih _)

theorem KeepsAgreements.refl (s : State) : s.KeepsAgreements s := ⟨id, id, id⟩

theorem KeepsAgreements.trans {s t u : State} (h : s.KeepsAgreements t) (k : t.KeepsAgreements u) :
    s.KeepsAgreements u :=
  ⟨k.holder ∘ h.holder, k.access ∘ h.access, k.pool ∘ h.pool⟩

theorem KeepsAgreements.after {s t u : State} (k : t.KeepsAgreements u) (h : s.KeepsAgreements t) :
    s.KeepsAgreements u := h.trans k

theorem KeepsAgreements.ite {s t u : State} {c : Prop} [Decidable c] (ht : s.KeepsAgreements t)
    (hu : s.KeepsAgreements u) : s.KeepsAgreements (if c then t else u) := by
  split <;> assumption

/-- An operation that spares the pool keeps what is agreed of it. -/
theorem KeepsAgreements.of_spares {s t : State} (h : s.SparesPool t) : s.KeepsAgreements t := by
  refine ⟨h.holder, h.access, fun hs => ?_⟩
  simpa only [PoolOk, State.receiver, State.service, h.receivers, h.waitList, h.services, h.lent] using hs

/-! ### Writes that the agreements do not see, and single writes -/

/-- The fields that the agreements and the clock speak of. -/
def agreed (s : State) :
    Nat × Vector PairRecord 24 × Vector Service 24 × Vector Receiver 4 × List Waiting × BusHolder × Option Nat ×
      Option Access × TestUnit :=
  (s.now, s.pairs, s.serviceA, s.receivers, s.waitList, s.bus.view, s.bus.lastAccepted, s.bus.access, s.unit)

theorem SparesPool.of_agreed {s t : State} (h : t.agreed = s.agreed := by simp [agreed]) : s.SparesPool t := by
  simp only [agreed, Prod.mk.injEq] at h
  obtain ⟨now, pairs, services, receivers, waitList, view, accepted, access, unit⟩ := h
  refine ⟨now, services, receivers, waitList, fun p => by rw [State.pair, pairs]; rfl, ?_, ?_, ?_⟩
  · simp only [HolderOk, view, accepted, unit, imp_self]
  · simp only [AccessOk, State.pair, inAccess, pairs, access, imp_self]
  · simp only [Unheld, view, unit, imp_self]

theorem SparesPool.setBus (s : State) (b : TestBus) (view : b.view = s.bus.view := by rfl)
    (accepted : b.lastAccepted = s.bus.lastAccepted := by rfl) (access : b.access = s.bus.access := by rfl) :
    s.SparesPool { s with bus := b } := .of_agreed (by simp [agreed, view, accepted, access])

/-- A write of the unit that joins or leaves no bus, and outside MINE closes no source and begins no measurement. -/
theorem SparesPool.setUnit {s : State} {u : TestUnit} (joined : u.connected = s.unit.connected)
    (work : s.bus.view ≠ .mine → s.unit.measurement = none →
      (s.unit.source = false → u.source = false) ∧ u.measurement = none) :
    s.SparesPool { s with unit := u } := by
  refine ⟨rfl, rfl, rfl, rfl, fun _ => rfl, fun hs => ?_, id, fun hs => ⟨hs.1, (work hs.1 hs.2).2⟩⟩
  obtain ⟨accepted, connected, idle⟩ := hs
  refine ⟨accepted, joined.trans connected, fun hv => ?_⟩
  obtain ⟨source, measurement⟩ := idle hv
  exact ⟨(work hv measurement).1 source, (work hv measurement).2⟩

theorem SparesPool.stopUnit (s : State) : s.SparesPool s.stopUnit :=
  .setUnit rfl fun _ _ => ⟨fun _ => rfl, rfl⟩

/-- The view moves outside MINE (R134, R135). -/
theorem SparesPool.setView {s : State} {v : BusHolder} (hs : s.bus.view ≠ .mine) (hv : v ≠ .mine) :
    s.SparesPool (s.setView v) := by
  have stays : (v == .mine) = (s.bus.view == .mine) := by simp [hs, hv]
  refine ⟨rfl, rfl, rfl, rfl, fun _ => rfl, fun h => ?_, id, fun h => ⟨hv, h.2⟩⟩
  obtain ⟨accepted, connected, idle⟩ := h
  exact ⟨accepted.trans stays.symm, connected.trans stays.symm, fun _ => idle hs⟩

/-- The unit leaves the bus in the same step as the view leaves MINE (R132, R146). -/
theorem SparesPool.release {s t : State} (pool : (t.now, t.pairs, t.serviceA, t.receivers, t.waitList, t.bus.access) =
      (s.now, s.pairs, s.serviceA, s.receivers, s.waitList, s.bus.access))
    (view : t.bus.view ≠ .mine) (accepted : t.bus.lastAccepted = none) (connected : t.unit.connected = false)
    (source : t.unit.source = false) (measurement : t.unit.measurement = none) : s.SparesPool t := by
  simp only [Prod.mk.injEq] at pool
  obtain ⟨now, pairs, services, receivers, waitList, access⟩ := pool
  refine ⟨now, services, receivers, waitList, fun p => by rw [State.pair, pairs]; rfl, fun _ => ⟨?_, ?_, fun _ => ?_⟩,
    ?_, fun _ => ⟨view, measurement⟩⟩
  · simp [accepted, view]
  · simp [connected, view]
  · exact ⟨source, measurement⟩
  · simp only [AccessOk, State.pair, inAccess, pairs, access, imp_self]

/-- A write of a record that lends and takes no receiver, and begins and ends no freeze for an access. -/
theorem SparesPool.setPair {s : State} {p : Pair} {r : PairRecord} (lent : r.receiver = (s.pair p).receiver)
    (freeze : s.AccessOk → (r.freeze == .access) = ((s.pair p).freeze == .access)) : s.SparesPool (s.setPair p r) := by
  refine ⟨rfl, rfl, rfl, rfl, fun q => ?_, id, fun hs q => ?_, id⟩
  · rw [pair_setPair]
    split
    · next e => rw [e, ← lent]
    · rfl
  · rw [setPair_inAccess, ← hs q, pair_setPair]
    split
    · next e => rw [e, ← freeze hs]
    · rfl

theorem SparesPool.modPair {s : State} {p : Pair} {f : PairRecord → PairRecord}
    (lent : ∀ r : PairRecord, (f r).receiver = r.receiver) (freeze : ∀ r : PairRecord, (f r).freeze = r.freeze) :
    s.SparesPool (s.modPair p f) :=
  .setPair (lent _) fun _ => by rw [freeze]

/-! ### The named operations -/

theorem SparesPool.setSlot (s : State) (i : Fin 4) (x : Option ReplySlot) : s.SparesPool (s.setSlot i x) := .of_agreed
theorem SparesPool.place (s : State) (k : ItemKind) : s.SparesPool (s.place k) := .of_agreed
theorem SparesPool.removeItem (s : State) (ref : ItemRef) : s.SparesPool (s.removeItem ref) := .of_agreed
theorem SparesPool.updateItem (s : State) (ref : ItemRef) (f : Item → Item) : s.SparesPool (s.updateItem ref f) :=
  .of_agreed
theorem SparesPool.withdraw (s : State) (ref : ItemRef) (f : Item → Item) : s.SparesPool (s.withdraw ref f) :=
  .of_agreed
theorem SparesPool.placeLineEvents (s : State) (p : Pair) : s.SparesPool (s.placeLineEvents p) := .of_agreed

theorem SparesPool.appendEvent (s : State) (p : Pair) (t : EventType) (v : Nat) : s.SparesPool (s.appendEvent p t v) :=
  .after (.placeLineEvents _ p) (.modPair (fun _ => PairRecord.append_receiver ..) fun _ => PairRecord.append_freeze ..)

/-- The carrying forward of the clock is no part of the agreements (log entry 2). -/
theorem KeepsAgreements.elapseTo (s : State) (t : Nat) : s.KeepsAgreements (s.elapseTo t) := ⟨id, id, id⟩

/-- An access begins where none is (R138, R139). -/
theorem SparesPool.beginAccess {s : State} {p : Pair} (h : s.bus.access = none) (holder : StationNo) :
    s.SparesPool (s.beginAccess p holder) := by
  refine ⟨rfl, rfl, rfl, rfl, fun q => ?_, id, fun hs q => ?_, id⟩
  · show ((s.modPair p fun r => { r with freeze := .access }).pair q).receiver = _
    rw [pair_modPair]
    split
    · next e => rw [e]
    · rfl
  · show (((s.modPair p fun r => { r with freeze := .access }).pair q).freeze == .access) = (some p == some q)
    rw [pair_modPair]
    split
    · next e => simp [e]
    · next e => rw [hs q, inAccess_of_access_none h]; simpa using Ne.symm e

/-- An access ends with the freeze of its pair, and no other pair is frozen for one (R54, R140). -/
theorem SparesPool.endAccess (s : State) : s.SparesPool s.endAccess := by
  cases ha : s.bus.access with
  | none => rw [endAccess_of_none ha]; exact .refl s
  | some a =>
    rw [endAccess_of_some ha]
    refine ⟨rfl, rfl, rfl, rfl, fun q => ?_, id, fun hs q => ?_, id⟩
    · show ((s.setPair a.pair (s.pair a.pair).endAccess).pair q).receiver = _
      rw [pair_setPair]
      split
      · next e => rw [e]; rfl
      · rfl
    · show (((s.setPair a.pair (s.pair a.pair).endAccess).pair q).freeze == .access) = false
      rw [pair_setPair]
      split
      · rfl
      · next e => rw [hs q]; simpa [inAccess, ha] using Ne.symm e

end State
end Sys2Proof.Machine
end

section
/-! PROOFS. The claim logic, the incident table and the test bus controller spare the tone pool, and so does all that the
station does of its own accord. -/

namespace Sys2Proof.Machine

namespace State

/-! ### Station control (chapter 11) -/

theorem SparesPool.enterFailed (s : State) : s.SparesPool s.enterFailed :=
  (SparesPool.endAccess s).trans (.release rfl (by simp [State.enterFailed]) rfl rfl rfl rfl)

theorem SparesPool.pinAssert (s : State) : s.SparesPool (pinAssert s) :=
  (SparesPool.endAccess s).trans (.release rfl (by simp [Machine.pinAssert]) rfl rfl rfl rfl)

theorem SparesPool.reportIntegrity (s : State) : s.SparesPool s.reportIntegrity := by
  unfold State.reportIntegrity
  split
  · exact .of_agreed
  · exact .ite (.enterFailed s) .of_agreed

/-! ### Claims (chapter 5) -/

theorem SparesPool.retireTag (s : State) (p : Pair) : s.SparesPool (s.retireTag p) := .of_agreed
theorem SparesPool.allocateTag (s : State) (p : Pair) (cls : FaultClass) : s.SparesPool (s.allocateTag p cls) :=
  .of_agreed

theorem SparesPool.setClaim (s : State) (p : Pair) (c : ClaimState) (t : Option Nat) :
    s.SparesPool (s.setClaim p c t) :=
  .modPair (fun _ => rfl) fun _ => rfl

theorem SparesPool.holdOff (s : State) (p : Pair) : s.SparesPool (s.holdOff p) := .setClaim ..

theorem SparesPool.claimPending (s : State) (p : Pair) (cls : FaultClass) : s.SparesPool (s.claimPending p cls) :=
  .after (.ite (.updateItem ..) (.place ..)) (.after (.setClaim ..) (.allocateTag s p cls))

theorem SparesPool.withdrawClaim (s : State) (p : Pair) : s.SparesPool (s.withdrawClaim p) :=
  .after (.retireTag ..) (.withdraw ..)

/-! ### The incident table (chapter 7) -/

theorem SparesPool.writeEntry (s : State) (e : EntryNo) (x : Entry) : s.SparesPool (s.writeEntry e x) := .of_agreed

theorem SparesPool.leaveEntry (s : State) (e : EntryNo) (st : StationNo) (pr : PairNo) :
    s.SparesPool (s.leaveEntry e st pr) := .ite (.refl s) (.writeEntry ..)

theorem SparesPool.joinOwn (s : State) (e : EntryNo) (p : Pair) (cls : FaultClass) : s.SparesPool (s.joinOwn e p cls) :=
  .after (.setClaim ..) (.writeEntry ..)

theorem SparesPool.clearRun (s : State) : s.SparesPool s.clearRun := .of_agreed rfl

theorem SparesPool.endLocalAccess (s : State) : s.SparesPool s.endLocalAccess := by
  unfold State.endLocalAccess
  split
  · exact .ite (.endAccess s) (.refl s)
  · exact .refl s

theorem SparesPool.withdrawQuiet (s : State) : s.SparesPool s.withdrawQuiet := by
  unfold State.withdrawQuiet
  split
  · split
    · exact .withdraw ..
    · exact .refl s
  · exact .refl s

theorem SparesPool.abandonRun (s : State) (e : EntryNo) : s.SparesPool (s.abandonRun e) := by
  unfold State.abandonRun
  split
  · exact .refl s
  · split
    · exact .after (.setBus _ _) (.clearRun s)
    · exact (((SparesPool.clearRun s).trans (.endLocalAccess _)).trans (.withdrawQuiet _)).trans
        ((SparesPool.stopUnit _).trans (.setBus _ _))

theorem SparesPool.answerDefer (e : EntryNo) (s : State) (d : Defer) : s.SparesPool (State.answerDefer e s d) := by
  unfold State.answerDefer
  refine .ite (.refl s) (.ite (.after (.place ..) (.writeEntry ..)) ?_)
  dsimp only
  split
  · exact .writeEntry ..
  · refine .ite ?_ (.writeEntry ..)
    split
    · exact .after (.holdOff ..) (.after (.retireTag ..) (.writeEntry ..))
    · exact .after (.joinOwn ..) (.after (.retireTag ..) (.writeEntry ..))
    · exact .after (.holdOff ..) (.after (.retireTag ..) (.writeEntry ..))

theorem SparesPool.answerDefers (s : State) (e : EntryNo) : s.SparesPool (s.answerDefers e) :=
  .foldl (SparesPool.answerDefer e) _ s

theorem SparesPool.unlinkOwn (k : Key) (forced : Bool) (s : State) (p : Pair) :
    s.SparesPool (State.unlinkOwn k forced s p) :=
  .ite (.ite (.holdOff s p) (.claimPending s p k.cls)) (.refl s)

theorem SparesPool.closeEntry (s : State) (e : EntryNo) (v : Verdict) (forced : Bool) :
    s.SparesPool (s.closeEntry e v forced) := by
  unfold State.closeEntry
  dsimp only
  refine .after (.answerDefers ..) ?_
  split
  · exact .after (.foldl (SparesPool.unlinkOwn _ _) _ _) (.after (.abandonRun ..) (.writeEntry ..))
  · exact .after (.abandonRun ..) (.writeEntry ..)

theorem SparesPool.withdrawReplies (s : State) (e : EntryNo) : s.SparesPool (s.withdrawReplies e) := .of_agreed rfl

theorem SparesPool.loseFree (s : State) (e : EntryNo) (x : Entry) (key : Option Key) :
    s.SparesPool (s.loseFree e x key) :=
  .after (.ite (.withdraw ..) (.refl _)) (.after (.abandonRun ..) (.writeEntry ..))

theorem SparesPool.loseEntry (s : State) (e : EntryNo) : s.SparesPool (s.loseEntry e) :=
  .after (.reportIntegrity _)
    (.after (.ite (.loseFree ..) (.after (.closeEntry ..) (.writeEntry ..))) (.withdrawReplies ..))

theorem SparesPool.readEntry (s : State) (e : EntryNo) : s.SparesPool (s.readEntry e) := .ite (.refl s) (.loseEntry s e)

theorem SparesPool.localJoin (s : State) (e : EntryNo) (p : Pair) (cls : FaultClass) :
    s.SparesPool (s.localJoin e p cls) := by
  unfold State.localJoin
  refine .ite (.joinOwn ..) (.ite (.after (.setClaim ..) (.writeEntry ..)) ?_)
  dsimp only
  split
  · exact .after (.writeEntry ..) (.after (.setClaim ..) (.allocateTag ..))
  · exact .after (.setClaim ..) (.allocateTag ..)

theorem SparesPool.claimMake (s : State) (p : Pair) (cls : FaultClass) : s.SparesPool (s.claimMake p cls) := by
  unfold State.claimMake
  split
  · exact .claimPending ..
  · exact .after (.ite (.refl _) (.ite (.claimPending ..) (.localJoin ..))) (.readEntry ..)

theorem SparesPool.localLeave (s : State) (k : Key) (p : Pair) : s.SparesPool (s.localLeave k p) := by
  unfold State.localLeave
  split
  · exact .refl s
  · exact .after (.ite (.leaveEntry ..) (.refl _)) (.readEntry ..)

theorem SparesPool.leaveIncident (s : State) (p : Pair) (cls : FaultClass) (owned : Bool) :
    s.SparesPool (s.leaveIncident p cls owned) :=
  .after (.ite (.localLeave ..) (.after (.place ..) (.withdrawClaim ..))) (.setClaim ..)

theorem SparesPool.endStanding (s : State) (p : Pair) : s.SparesPool (s.endStanding p) := by
  unfold State.endStanding
  split
  · exact .refl s
  · exact .after (.setClaim ..) (.withdrawClaim ..)
  · exact .after (.setClaim ..) (.retireTag ..)
  · exact .leaveIncident ..
  · exact .setClaim ..

theorem SparesPool.turnClaim (s : State) (p : Pair) (cls : FaultClass) : s.SparesPool (s.turnClaim p cls) := by
  unfold State.turnClaim
  split
  · exact .after (.claimPending ..) (.retireTag ..)
  · exact .after (.ite (.refl _) (.ite (.after (.claimPending ..) (.retireTag ..))
      (.after (.localJoin ..) (.withdrawClaim ..)))) (.readEntry ..)

theorem SparesPool.claimFor (s : State) (p : Pair) (cls : FaultClass) : s.SparesPool (s.claimFor p cls) := by
  unfold State.claimFor
  split
  · exact .claimMake ..
  · exact .ite (.refl s) (.turnClaim ..)
  · exact .ite (.refl s) (.after (.claimMake ..) (.retireTag ..))
  · exact .ite (.refl s) (.after (.ite (.claimMake ..) (.refl _)) (.leaveIncident ..))
  · exact .refl s

theorem SparesPool.faultConsequence (s : State) (p : Pair) (x : FaultStep) : s.SparesPool (s.faultConsequence p x) := by
  cases x with
  | quiet => exact .refl s
  | entered cls => exact .claimFor ..
  | turned cls => exact .claimFor ..
  | cleared => exact .endStanding ..

/-- Another pair joins the entry that is taken, PENDING or LINKED elsewhere before (R115). -/
theorem SparesPool.gather (s : State) (c : Bool) (e : EntryNo) (p : Pair) (cls : FaultClass) :
    s.SparesPool (if c then (s.withdrawClaim p).joinOwn e p cls else s) :=
  .ite (.after (.joinOwn ..) (.withdrawClaim ..)) (.refl s)

theorem SparesPool.readToTake (s : State) (k : Key) : s.SparesPool (s.readToTake k) := by
  unfold State.readToTake
  split
  · exact .refl s
  · exact .readEntry ..

theorem SparesPool.becomeOwner (s : State) (k : Key) (p : Pair) : s.SparesPool (s.becomeOwner k p) := by
  unfold State.becomeOwner
  refine .after (.ite (.refl _) ?_) (.after (.readToTake _ k) (.readToTake s k))
  split
  · exact .place ..
  · exact .after (.foldl (fun t q => .gather t _ _ q _) _ _) (.after (.foldl (fun t q => .gather t _ _ q _) _ _)
      (.after (.setClaim ..) (.after (.retireTag ..) (.writeEntry ..))))

theorem SparesPool.beginConfirmation (s : State) (e : EntryNo) : s.SparesPool (s.beginConfirmation e) := by
  unfold State.beginConfirmation
  dsimp only
  split
  · exact .refl s
  · exact .ite (.writeEntry ..) (.ite (.writeEntry ..) (.after (.setBus _ _) (.writeEntry ..)))

/-! ### How jobs end, and the access of a pair (chapters 8 and 9) -/

theorem SparesPool.concludeRun (s : State) (result : RunResult) : s.SparesPool (s.concludeRun result) := by
  unfold State.concludeRun
  split
  · exact .refl s
  · exact .after (.ite (.refl _) (.ite (.closeEntry ..)
      (.after (.ite (.refl _) (.writeEntry ..)) (.after (.answerDefers ..) (.writeEntry ..)))))
      (.after (.readEntry ..) (.clearRun s))

theorem SparesPool.endTest (s : State) (outcome : TestOutcome) (legs : List LegRecord) :
    s.SparesPool (s.endTest outcome legs) := by
  unfold State.endTest
  split
  · exact .refl s
  · exact .after (.place ..) (.setBus s _)

/-- A measurement begins in MINE alone (R149). -/
theorem SparesPool.beginMeasurement (s : State) (station : StationNo) (pair : PairNo) (forRun : Bool) :
    s.SparesPool (s.beginMeasurement station pair forRun) := by
  unfold State.beginMeasurement
  split
  · next h =>
    simp only [Bool.and_eq_true, beq_iff_eq] at h
    exact .setUnit rfl fun hv => absurd h.1 hv
  · exact .refl s

/-- A pair can be tested only while no pair is in access (R138). -/
theorem no_access_of_testable {s : State} {p : Pair} (h : s.untestable p = false) : s.bus.access = none := by
  simp only [State.untestable, Bool.or_eq_false_iff] at h
  exact Option.isSome_eq_false_iff.1 h.2 |> Option.isNone_iff_eq_none.1

theorem SparesPool.accessOwn {s : State} {p : Pair} (h : s.untestable p = false) (forRun : Bool) :
    s.SparesPool (s.accessOwn p forRun) :=
  .after (.beginMeasurement ..) (.beginAccess (no_access_of_testable h) _)

theorem SparesPool.abandonLocal (s : State) (p : Pair) : s.SparesPool (s.abandonLocal p) := by
  unfold State.abandonLocal
  split
  · exact .refl s
  · exact .ite (.after (.ite (.setBus _ _) (.endTest ..)) (.stopUnit s)) (.refl s)

theorem SparesPool.cutAccess (s : State) (p : Pair) : s.SparesPool (s.cutAccess p) :=
  .ite (.after (.abandonLocal ..) (.endAccess s)) (.refl s)

/-! ### The loss of the lock (R144) -/

theorem SparesPool.leaveMine (s : State) {view : BusHolder} (hv : view ≠ .mine) : s.SparesPool (s.leaveMine view) :=
  .release rfl hv rfl rfl rfl rfl

theorem SparesPool.loseLock (s : State) {view : BusHolder} (hv : view ≠ .mine) : s.SparesPool (s.loseLock view) :=
  .after (.concludeRun ..) (.after (.ite (.endTest ..) (.refl _))
    (.after (.leaveMine _ hv) (.after (.withdraw ..) (.endLocalAccess s))))

/-- With the lock lost nothing is measured (R132, R146). -/
theorem unheld_loseLock (s : State) {view : BusHolder} (hv : view ≠ .mine) : (s.loseLock view).Unheld := by
  have left : ((s.endLocalAccess.withdraw .testBus markOrphaned).leaveMine view).Unheld := ⟨hv, rfl⟩
  exact (SparesPool.concludeRun ..).unheld ((SparesPool.ite (.endTest ..) (.refl _)).unheld left)

/-! ### What the station does of its own accord -/

/-- A next action, where there is one, spares the pool. -/
def SparedBy (s : State) (o : Option State) : Prop := ∀ t, o = some t → s.SparesPool t

theorem SparedBy.none {s : State} : s.SparedBy .none := fun _ h => absurd h (Option.some_ne_none _).symm

theorem SparedBy.some {s t : State} (h : s.SparesPool t) : s.SparedBy (.some t) := fun _ e => Option.some.inj e ▸ h

theorem SparedBy.ite {s : State} {o o' : Option State} {c : Prop} [Decidable c] (h : s.SparedBy o)
    (h' : s.SparedBy o') : s.SparedBy (if c then o else o') := by
  split <;> assumption

theorem SparedBy.dueStep (s : State) : s.SparedBy s.dueStep := by
  unfold State.dueStep
  refine .ite .none ?_
  split
  · exact .some (.loseEntry ..)
  · split
    · exact .some .of_agreed
    · exact .some (.beginConfirmation ..)
    · exact .some (.after (.beginConfirmation ..) (.of_agreed rfl))

theorem SparedBy.visitMember (s : State) (run : Run) (m : Member) : s.SparedBy (s.visitMember run m) := by
  have skip : s.SparedBy (.some { s with bus := { s.bus with position := s.bus.position + 1 } }) := .some (.setBus _ _)
  unfold State.visitMember
  refine .ite skip (.ite ?_ (.ite .none (.some (.place ..))))
  split
  · exact skip
  · split
    · exact skip
    · next h => exact .some (.accessOwn (by simpa using h) true)

theorem SparesPool.startTest (s : State) (t : UplinkTest) : s.SparesPool (s.startTest t) := by
  unfold State.startTest
  refine .ite (.endTest ..) ?_
  split
  · exact .endTest ..
  · next h =>
    simp only [Bool.or_eq_true, not_or, Bool.not_eq_true] at h
    have testable :
        State.untestable { s with bus := { s.bus with test := some { t with phase := .running } } } t.pair = false :=
      h.1
    exact .after (.accessOwn testable false) (.setBus _ _)

/-- What the holder does next, by its kind (R137, R141, R142). -/
theorem SparedBy.holderStep (s : State) : s.SparedBy s.holderStep := by
  have placed (k : ItemKind) : s.SparedBy (.some (s.place k)) := .some (.place s k)
  have concluded (r : RunResult) : s.SparedBy (.some (s.concludeRun r)) := .some (.concludeRun s r)
  have unlocked : s.SparedBy (.some { (s.place .unlock) with bus := { s.bus with unlockDue := false } }) :=
    .some ((SparesPool.place s .unlock).trans (.setBus _ _ (by simp) (by simp) (by simp)))
  unfold State.holderStep
  refine .ite .none (.ite ?remote (.ite (.ite .none unlocked) (.ite (.ite .none (placed _)) (.ite .none ?job))))
  case remote =>
    split
    · exact .ite .none (placed _)
    · exact .none
  case job =>
    split
    · refine .ite ?_ (.ite .none (.ite (concluded _) (.some (.setBus _ _))))
      split
      · refine .ite (concluded _) (.ite .none ?_)
        split
        · split
          · exact .visitMember _ _ _
          · exact .none
        · exact .visitMember _ _ _
      · exact concluded _
    · refine .ite .none ?_
      split
      · exact .ite (.ite (.some (.endTest ..)) (.some (.startTest ..))) (.ite .none (placed _))
      · exact .ite .none (placed _)

theorem SparedBy.busStep (s : State) : s.SparedBy s.busStep := by
  unfold State.busStep
  refine .ite .none ?_
  split
  · exact .holderStep s
  · exact .ite (.some (.withdraw ..)) (.ite (.some (.place ..)) .none)
  · exact .ite (.some (.withdraw ..)) .none

theorem SparedBy.nextStep (s : State) : s.SparedBy s.nextStep := by
  have due := SparedBy.dueStep s
  unfold State.nextStep
  split
  · next t h => exact .some (due t h)
  · exact .busStep s

theorem SparesPool.settle (s : State) : s.SparesPool s.settle := by
  have upTo (n : Nat) (s : State) : s.SparesPool (s.settleUpTo n) := by
    induction n generalizing s with
    | zero => exact .refl s
    | succ n ih =>
      unfold State.settleUpTo
      split
      · exact .refl s
      · next t h => exact (SparedBy.nextStep s t h).trans (ih t)
  exact upTo 400 s

theorem SparesPool.settleIf (s : State) (changed : Bool) : s.SparesPool (s.settleIf changed) :=
  .ite (.settle s) (.refl s)

theorem SparesPool.onEntry {s : State} {act : State → State} (e : EntryNo) (h : s.SparesPool (act s)) :
    s.SparesPool (s.onEntry e act) :=
  .ite h (.after (.settle _) (.loseEntry s e))

end State
end Sys2Proof.Machine
end

section
/-! PROOFS. The tone receiver pool keeps its agreement through lending, release and reassignment, and through a record
made anew with its service (R56 to R62, R168, R169). -/

namespace Sys2Proof.Machine

namespace State

/-! ### A receiver between two services -/

/-- The pool agrees but for one receiver, which no pair's record names: it is free to be lent or to go IDLE. -/
structure PoolOkBut (s : State) (r : ReceiverNo) : Prop where
  idle : ∀ i, i ≠ r → ((s.receiver i).state == .idle) = (s.receiver i).pair.isNone
  names : ∀ i, i ≠ r → ∀ p : Pair, (s.receiver i).pair = some p ↔ (s.pair p).receiver = some i
  unnamed : ∀ p : Pair, (s.pair p).receiver ≠ some r
  once : (s.waitList.map Waiting.pair).Nodup
  waiting : ∀ w ∈ s.waitList, (s.pair w.pair).receiver = none
  lent : s.waitList ≠ [] → ∀ i, i ≠ r → (s.receiver i).state ≠ .idle
  off : ∀ p : Pair, s.service p ≠ .equipped → s.OffPool p

/-- A receiver that serves no pair is named by none. -/
theorem PoolOk.but_unserved {s : State} (h : s.PoolOk) {r : ReceiverNo} (hr : (s.receiver r).pair = none) :
    s.PoolOkBut r := by
  obtain ⟨idle, names, once, waiting, lent, off⟩ := h
  refine ⟨fun i _ => idle i, fun i _ => names i, fun p hp => ?_, once, waiting, fun hw i _ => lent hw i, off⟩
  rw [(names r p).2 hp] at hr
  cases hr

/-- The pair that a receiver serves gives it up (R60). -/
theorem PoolOk.but_freed {s : State} (h : s.PoolOk) {r : ReceiverNo} {p : Pair} (hr : (s.receiver r).pair = some p) :
    (s.modPair p fun x => { x with receiver := none }).PoolOkBut r := by
  obtain ⟨idle, names, once, waiting, lent, off⟩ := h
  have own : (s.pair p).receiver = some r := (names r p).1 hr
  refine ⟨fun i _ => idle i, fun i hi q => ?_, fun q => ?_, once, fun w hw => ?_, fun hw i _ => lent hw i,
    fun q hq => ⟨?_, (off q hq).2⟩⟩
  · rw [modPair_receiver, names i q, pair_modPair]
    split
    · next e => simpa [e, own] using hi.symm
    · rfl
  · rw [pair_modPair]
    split
    · simp
    · next e =>
      intro hq
      rw [(names r q).2 hq] at hr
      exact e (Option.some.inj hr)
  · rw [pair_modPair]
    split
    · rfl
    · exact waiting w hw
  · rw [pair_modPair]
    split
    · rfl
    · exact (off q hq).1

/-- A receiver that no pair waits for goes IDLE (R62). -/
theorem PoolOkBut.idled {s : State} {r : ReceiverNo} (h : s.PoolOkBut r) (hw : s.waitList = []) :
    (s.setReceiver r Receiver.idle).PoolOk := by
  refine ⟨fun i => ?_, fun i p => ?_, h.once, h.waiting, fun h' => absurd hw h', h.off⟩ <;> rw [receiver_setReceiver] <;>
    split
  · rfl
  · next e => exact h.idle i e
  · next e => simpa [e, Receiver.idle] using h.unnamed p
  · next e => exact h.names i e p

/-- A receiver is lent to an EQUIPPED pair that holds none and does not wait (R58, R62). -/
theorem PoolOkBut.lend {s : State} {r : ReceiverNo} {p : Pair} (h : s.PoolOkBut r) (hp : s.OffPool p)
    (he : s.service p = .equipped) : (s.lend r p).PoolOk := by
  obtain ⟨none, absent⟩ := hp
  have record (q : Pair) : ((s.lend r p).pair q).receiver = if q = p then some r else (s.pair q).receiver := by
    rw [State.lend, setReceiver_pair, pair_modPair]
    split <;> rfl
  have lent (i : ReceiverNo) : (s.lend r p).receiver i =
      if i = r then Receiver.lentTo p s.now (s.pair p).spoilsAudio else s.receiver i := receiver_setReceiver ..
  refine ⟨fun i => ?_, fun i q => ?_, h.once, fun w hw => ?_, fun hw i => ?_, fun q hq => ⟨?_, (h.off q hq).2⟩⟩
  · rw [lent]
    split
    · rfl
    · next e => exact h.idle i e
  · rw [lent, record]
    split <;> split
    · next e e' => simp [Receiver.lentTo, e, e']
    · next e e' => simpa [Receiver.lentTo, e, Ne.symm e'] using h.unnamed q
    · next e e' => rw [e', h.names i e p, none]; simpa using Ne.symm e
    · next e e' => exact h.names i e q
  · rw [record, if_neg (absent w hw)]
    exact h.waiting w hw
  · rw [lent]
    split
    · simp [Receiver.lentTo]
    · next e => exact h.lent hw i e
  · rw [record, if_neg (by rintro rfl; exact hq he)]
    exact (h.off q hq).1

/-- The head of the wait list leaves it, for the receiver that is free. -/
theorem PoolOkBut.tail {s : State} {r : ReceiverNo} {w : Waiting} {rest : List Waiting} (h : s.PoolOkBut r)
    (hw : s.waitList = w :: rest) :
    ({ s with waitList := rest } : State).PoolOkBut r ∧ ({ s with waitList := rest } : State).OffPool w.pair ∧
      s.service w.pair = .equipped := by
  have stays {v : Waiting} (hv : v ∈ rest) : v ∈ s.waitList := hw ▸ List.mem_cons_of_mem w hv
  have head : w ∈ s.waitList := hw ▸ List.mem_cons_self
  have once := h.once
  rw [hw, List.map_cons, List.nodup_cons] at once
  refine ⟨⟨h.idle, h.names, h.unnamed, once.2, fun v hv => h.waiting v (stays hv),
      fun _ => h.lent (by simp [hw]), fun p hp => ⟨(h.off p hp).1, fun v hv => (h.off p hp).2 v (stays hv)⟩⟩,
    ⟨h.waiting w head, fun v hv e => once.1 (e ▸ List.mem_map_of_mem hv)⟩, ?_⟩
  by_contra hn
  exact (h.off w.pair hn).2 w head rfl

/-! ### Lending, release and reassignment -/

/-- The second half of a release: a receiver that serves no pair goes to the head of the wait list or goes IDLE (R62). -/
def passOn (s : State) (r : ReceiverNo) : State :=
  match s.waitList with
  | [] => s.setReceiver r Receiver.idle
  | w :: rest =>
    (({ s with waitList := rest } : State).lend r w.pair).appendEvent w.pair .receiverLate
      (min 15 ((s.now - w.since) / 1000))

theorem releaseReceiver_of_unserved {s : State} {r : ReceiverNo} (h : (s.receiver r).pair = none) :
    s.releaseReceiver r = s.passOn r := by
  simp only [State.releaseReceiver, h, passOn] <;> rfl

theorem releaseReceiver_of_served {s : State} {r : ReceiverNo} {p : Pair} (h : (s.receiver r).pair = some p) :
    s.releaseReceiver r = (s.modPair p fun x => { x with receiver := none }).passOn r := by
  simp only [State.releaseReceiver, h, passOn] <;> rfl

theorem passOn_idle {s : State} (h : s.waitList = []) (r : ReceiverNo) :
    s.passOn r = s.setReceiver r Receiver.idle := by
  simp only [passOn, h]

theorem passOn_head {s : State} {w : Waiting} {rest : List Waiting} (h : s.waitList = w :: rest) (r : ReceiverNo) :
    s.passOn r = (({ s with waitList := rest } : State).lend r w.pair).appendEvent w.pair .receiverLate
      (min 15 ((s.now - w.since) / 1000)) := by
  simp only [passOn, h]

theorem PoolOkBut.passOn {s : State} {r : ReceiverNo} (h : s.PoolOkBut r) : (s.passOn r).PoolOk := by
  cases hw : s.waitList with
  | nil => rw [passOn_idle hw]; exact h.idled hw
  | cons w rest =>
    obtain ⟨shorter, off, equipped⟩ := h.tail hw
    rw [passOn_head hw]
    exact (KeepsAgreements.of_spares (.appendEvent ..)).pool (shorter.lend off equipped)

/-- A release by a timer or by a pair that gives the receiver up (R60 to R62). -/
theorem PoolOk.releaseReceiver {s : State} (h : s.PoolOk) (r : ReceiverNo) : (s.releaseReceiver r).PoolOk := by
  cases hr : (s.receiver r).pair with
  | none => rw [releaseReceiver_of_unserved hr]; exact (h.but_unserved hr).passOn
  | some p => rw [releaseReceiver_of_served hr]; exact (h.but_freed hr).passOn

/-- A pair is lent the lowest IDLE receiver or waits for one (R58). -/
theorem PoolOk.requestReceiver {s : State} (h : s.PoolOk) {p : Pair} (he : s.service p = .equipped) :
    (s.requestReceiver p).PoolOk := by
  unfold State.requestReceiver
  split
  · exact h
  next hn =>
    simp only [Bool.or_eq_true, not_or, Bool.not_eq_true, Option.isSome_eq_false_iff, Option.isNone_iff_eq_none,
      State.onWaitList, List.any_eq_false, beq_iff_eq] at hn
    have off : s.OffPool p := hn
    split
    · next r hr =>
      have free : (s.receiver r).state = .idle := by simpa using List.find?_some hr
      have unserved : (s.receiver r).pair = none := by simpa [free] using (h.1 r).symm
      exact (h.but_unserved unserved).lend off he
    · next hr =>
      have busy : ∀ r : ReceiverNo, (s.receiver r).state ≠ .idle := by simpa using hr
      obtain ⟨idle, names, once, waiting, lent, offs⟩ := h
      refine ⟨idle, names, ?_, fun w hw => ?_, fun _ => busy, fun q hq => ⟨(offs q hq).1, fun w hw => ?_⟩⟩
      · simp only [List.map_append, List.map_singleton, List.nodup_append, List.nodup_singleton]
        refine ⟨once, trivial, fun a ha b hb => ?_⟩
        obtain ⟨w, hw, rfl⟩ := List.mem_map.1 ha
        rw [List.mem_singleton.1 hb]
        exact off.2 w hw
      · rcases List.mem_append.1 hw with hw | hw
        · exact waiting w hw
        · rw [List.mem_singleton.1 hw]; exact off.1
      · rcases List.mem_append.1 hw with hw | hw
        · exact (offs q hq).2 w hw
        · rw [List.mem_singleton.1 hw]
          rintro rfl
          exact hq he

/-- A pair that holds no receiver leaves the wait list (R59). -/
theorem PoolOk.leaveWaitList {s : State} (h : s.PoolOk) (p : Pair) : (s.leaveWaitList p).PoolOk := by
  obtain ⟨idle, names, once, waiting, lent, off⟩ := h
  have sub : (s.leaveWaitList p).waitList.Sublist s.waitList := List.filter_sublist
  exact ⟨idle, names, once.sublist (sub.map _), fun w hw => waiting w (sub.subset hw),
    fun hw => lent fun e => hw (by simp [State.leaveWaitList, e]),
    fun q hq => ⟨(off q hq).1, fun w hw => (off q hq).2 w (sub.subset hw)⟩⟩

theorem offPool_leaveWaitList {s : State} {p : Pair} (h : (s.pair p).receiver = none) :
    (s.leaveWaitList p).OffPool p :=
  ⟨h, fun w hw => by simpa using (List.mem_filter.1 hw).2⟩

/-- A receiver passed on goes to a pair that waits, and so to none that is off the pool. -/
theorem OffPool.passOn {s : State} {p : Pair} (h : s.OffPool p) (r : ReceiverNo) : (s.passOn r).OffPool p := by
  obtain ⟨none, absent⟩ := h
  cases hw : s.waitList with
  | nil => rw [passOn_idle hw]; exact ⟨none, absent⟩
  | cons w rest =>
    rw [hw] at absent
    have late : p ≠ w.pair := (absent w List.mem_cons_self).symm
    rw [passOn_head hw]
    have told := SparesPool.appendEvent (({ s with waitList := rest } : State).lend r w.pair) w.pair .receiverLate
      (min 15 ((s.now - w.since) / 1000))
    rw [OffPool, told.lent, told.waitList, State.lend, setReceiver_pair, pair_modPair_ne _ _ _ _ late]
    exact ⟨none, fun v hv => absent v (List.mem_cons_of_mem w hv)⟩

/-- The pair that a released receiver served holds and waits for none (R57, R60). -/
theorem PoolOk.offPool_releaseReceiver {s : State} (h : s.PoolOk) {r : ReceiverNo} {p : Pair}
    (hr : (s.receiver r).pair = some p) : (s.releaseReceiver r).OffPool p := by
  obtain ⟨-, names, -, waiting, -, -⟩ := h
  have own : (s.pair p).receiver = some r := (names r p).1 hr
  have absent : ∀ w ∈ s.waitList, w.pair ≠ p := by
    rintro w hw rfl
    rw [waiting w hw] at own
    cases own
  have freed : (s.modPair p fun x => { x with receiver := none }).OffPool p := ⟨by rw [pair_modPair_same], absent⟩
  rw [releaseReceiver_of_served hr]
  exact freed.passOn r

theorem PoolOk.dropReceiver {s : State} (h : s.PoolOk) (p : Pair) : (s.dropReceiver p).PoolOk := by
  unfold State.dropReceiver
  split
  · exact h.releaseReceiver _
  · exact h.leaveWaitList p

theorem PoolOk.offPool_dropReceiver {s : State} (h : s.PoolOk) (p : Pair) : (s.dropReceiver p).OffPool p := by
  unfold State.dropReceiver
  split
  · next r hr => exact h.offPool_releaseReceiver ((h.2.1 r p).2 hr)
  · next hr => exact offPool_leaveWaitList hr

/-- The receiver found for a pair in the pool's own records is the one its record names (R7, R56). -/
theorem PoolOk.reclaimReceiver {s : State} (h : s.PoolOk) (p : Pair) :
    (s.reclaimReceiver p).PoolOk ∧ (s.reclaimReceiver p).OffPool p := by
  have left := h.leaveWaitList p
  unfold State.reclaimReceiver
  dsimp only
  split
  · next r hr => exact ⟨left.releaseReceiver r, left.offPool_releaseReceiver (servingReceiver_pair hr)⟩
  · next hr =>
    have unserved : ∀ r : ReceiverNo, (s.receiver r).pair ≠ some p := by
      simpa [State.servingReceiver, State.leaveWaitList, State.receiver] using hr
    refine ⟨left, offPool_leaveWaitList ?_⟩
    cases hp : (s.pair p).receiver with
    | none => rfl
    | some r => exact absurd ((h.2.1 r p).2 hp) (unserved r)

/-! ### What the pool's operations leave of the other agreements -/

/-- An operation of the pool: it writes receivers, the wait list, the receiver fields and event lists of records, and the
queue. -/
structure PoolWork (s t : State) : Prop where
  bus : t.bus = s.bus
  unit : t.unit = s.unit
  freeze : ∀ p : Pair, (t.pair p).freeze = (s.pair p).freeze

theorem PoolWork.refl (s : State) : s.PoolWork s := ⟨rfl, rfl, fun _ => rfl⟩

theorem PoolWork.trans {s t u : State} (h : s.PoolWork t) (k : t.PoolWork u) : s.PoolWork u :=
  ⟨k.bus.trans h.bus, k.unit.trans h.unit, fun p => (k.freeze p).trans (h.freeze p)⟩

theorem PoolWork.after {s t u : State} (k : t.PoolWork u) (h : s.PoolWork t) : s.PoolWork u := h.trans k

theorem PoolWork.modPair (s : State) (p : Pair) {f : PairRecord → PairRecord}
    (h : ∀ r : PairRecord, (f r).freeze = r.freeze) : s.PoolWork (s.modPair p f) := by
  refine ⟨rfl, rfl, fun q => ?_⟩
  rw [pair_modPair]
  split
  · next e => rw [e]; exact h _
  · rfl

theorem PoolWork.setReceiver (s : State) (r : ReceiverNo) (x : Receiver) : s.PoolWork (s.setReceiver r x) :=
  ⟨rfl, rfl, fun _ => rfl⟩

theorem PoolWork.waitList (s : State) (l : List Waiting) : s.PoolWork { s with waitList := l } :=
  ⟨rfl, rfl, fun _ => rfl⟩

theorem PoolWork.placeLineEvents (s : State) (p : Pair) : s.PoolWork (s.placeLineEvents p) :=
  ⟨by simp, by simp, fun _ => by simp⟩

theorem PoolWork.appendEvent (s : State) (p : Pair) (t : EventType) (v : Nat) : s.PoolWork (s.appendEvent p t v) :=
  .after (.placeLineEvents _ p) (.modPair s p fun _ => PairRecord.append_freeze ..)

theorem PoolWork.lend (s : State) (r : ReceiverNo) (p : Pair) : s.PoolWork (s.lend r p) :=
  .after (.setReceiver ..) (.modPair s p fun _ => rfl)

theorem PoolWork.requestReceiver (s : State) (p : Pair) : s.PoolWork (s.requestReceiver p) := by
  unfold State.requestReceiver
  split
  · exact .refl s
  · split
    · exact .lend ..
    · exact .waitList s _

theorem PoolWork.releaseReceiver (s : State) (r : ReceiverNo) : s.PoolWork (s.releaseReceiver r) := by
  have passed (t : State) : t.PoolWork (t.passOn r) := by
    unfold passOn
    split
    · exact .setReceiver ..
    · exact .after (.appendEvent ..) (.after (.lend ..) (.waitList t _))
  cases hr : (s.receiver r).pair with
  | none => rw [releaseReceiver_of_unserved hr]; exact passed s
  | some p => rw [releaseReceiver_of_served hr]; exact .after (passed _) (.modPair s p fun _ => rfl)

theorem PoolWork.dropReceiver (s : State) (p : Pair) : s.PoolWork (s.dropReceiver p) := by
  unfold State.dropReceiver
  split
  · exact .releaseReceiver ..
  · exact .waitList s _

theorem PoolWork.reclaimReceiver (s : State) (p : Pair) : s.PoolWork (s.reclaimReceiver p) := by
  unfold State.reclaimReceiver
  dsimp only
  split
  · exact .after (.releaseReceiver ..) (.waitList s _)
  · exact .waitList s _

/-- An operation of the pool that keeps the pool's agreement keeps all three. -/
theorem PoolWork.keeps {s t : State} (h : s.PoolWork t) (pool : s.PoolOk → t.PoolOk) : s.KeepsAgreements t := by
  refine ⟨?_, ?_, pool⟩
  · simp only [HolderOk, h.bus, h.unit, imp_self]
  · simp only [AccessOk, inAccess, h.bus, h.freeze, imp_self]

theorem KeepsAgreements.dropReceiver (s : State) (p : Pair) : s.KeepsAgreements (s.dropReceiver p) :=
  (PoolWork.dropReceiver s p).keeps fun h => h.dropReceiver p

theorem KeepsAgreements.releaseReceiver (s : State) (r : ReceiverNo) : s.KeepsAgreements (s.releaseReceiver r) :=
  (PoolWork.releaseReceiver s r).keeps fun h => h.releaseReceiver r

/-- The loop supervisor asks for a receiver for an EQUIPPED pair alone (R18, R58). -/
theorem KeepsAgreements.poolMessage {s : State} {p : Pair} (he : s.service p = .equipped) (m : PoolMessage) :
    s.KeepsAgreements (s.poolMessage p m) := by
  cases m with
  | silent => exact .refl s
  | request => exact (PoolWork.requestReceiver s p).keeps fun h => h.requestReceiver he
  | release => exact .dropReceiver s p

/-- A write of a receiver at work: the pair it serves and whether it is lent stay. -/
theorem KeepsAgreements.setReceiver {s : State} {r : ReceiverNo} {x : Receiver} (hp : x.pair = (s.receiver r).pair)
    (hs : x.state = .idle ↔ (s.receiver r).state = .idle) : s.KeepsAgreements (s.setReceiver r x) := by
  have pair (i : ReceiverNo) : ((s.setReceiver r x).receiver i).pair = (s.receiver i).pair := by
    rw [receiver_setReceiver]
    split
    · next e => rw [e, hp]
    · rfl
  have idle (i : ReceiverNo) :
      ((s.setReceiver r x).receiver i).state = .idle ↔ (s.receiver i).state = .idle := by
    rw [receiver_setReceiver]
    split
    · next e => rw [e, hs]
    · rfl
  refine (PoolWork.setReceiver s r x).keeps fun h => ?_
  obtain ⟨idles, names, once, waiting, lent, off⟩ := h
  refine ⟨fun i => ?_, fun i p => by rw [pair]; exact names i p, once, waiting,
    fun hw i => (idle i).not.2 (lent hw i), off⟩
  rw [pair, ← idles i, Bool.eq_iff_iff, beq_iff_eq, beq_iff_eq, idle]

theorem KeepsAgreements.noteAudio (s : State) (p : Pair) : s.KeepsAgreements (s.noteAudio p) := by
  unfold State.noteAudio
  split
  · exact .refl s
  · exact .setReceiver rfl .rfl

/-! ### Records made anew, and services -/

/-- The record of a pair in no access is made anew, once the pair has left the pool (R6 to R8). -/
theorem KeepsAgreements.renewPair {s t : State} {p : Pair} {f : PairRecord → PairRecord} (h : s.KeepsAgreements t)
    (off : s.PoolOk → t.OffPool p) (hp : t.inAccess p = false) (fresh : ∀ r : PairRecord, (f r).receiver = none)
    (unfrozen : ∀ r : PairRecord, (f r).freeze = .unfrozen) : s.KeepsAgreements (t.modPair p f) := by
  refine ⟨h.holder, fun hs q => ?_, fun hs => ?_⟩
  · rw [modPair_inAccess, pair_modPair, ← h.access hs q]
    split
    · next e => rw [e, h.access hs p, hp, show (f (t.pair p)).freeze = .unfrozen from unfrozen _]; rfl
    · rfl
  · have same (q : Pair) : ((t.modPair p f).pair q).receiver = (t.pair q).receiver := by
      rw [pair_modPair]
      split
      · next e => rw [e, (off hs).1]; exact fresh _
      · rfl
    simpa only [PoolOk, modPair_receiver, modPair_waitList, modPair_service, same] using h.pool hs

/-- The service of a pair changes once it has left the pool (R168, R169). -/
theorem KeepsAgreements.setService {s t : State} {p : Pair} (h : s.KeepsAgreements t) (off : s.PoolOk → t.OffPool p)
    (v : Service) : s.KeepsAgreements (t.setService p v) := by
  refine ⟨h.holder, h.access, fun hs => ?_⟩
  obtain ⟨idle, names, once, waiting, lent, offs⟩ := h.pool hs
  refine ⟨idle, names, once, waiting, lent, fun q hq => ?_⟩
  rw [service_setService] at hq
  split at hq
  · next e => exact e ▸ off hs
  · exact offs q hq

theorem OffPool.modPair {s : State} {p : Pair} (h : s.OffPool p) {f : PairRecord → PairRecord}
    (fresh : ∀ r : PairRecord, (f r).receiver = none) : (s.modPair p f).OffPool p :=
  ⟨by rw [pair_modPair_same]; exact fresh _, h.2⟩

theorem SparesPool.offPool {s t : State} (h : s.SparesPool t) {p : Pair} (hp : s.OffPool p) : t.OffPool p := by
  rw [OffPool, h.lent, h.waitList]
  exact hp

end State
end Sys2Proof.Machine
end

section
/-! PROOFS. Every command keeps the agreements of holding, access and tone pool, so every step does. -/

namespace Sys2Proof.Machine

namespace State

/-- A next state of an operation that spares the pool, and what the station then does of its own accord. -/
theorem KeepsAgreements.settled {s t : State} (h : s.SparesPool t) : s.KeepsAgreements t.settle :=
  .of_spares (.after (.settle t) h)

/-! ### The tone receivers (chapter 4) -/

/-- A block leaves a lent receiver lent and an IDLE one IDLE (R70, R71). -/
theorem receiverBlock_idle (x : Receiver) (v : Option (Fin 4 × Fin 4)) :
    (receiverBlock x v).1.state = .idle ↔ x.state = .idle := by
  unfold receiverBlock
  (repeat' split) <;> simp_all

theorem receiverBlock_pair (x : Receiver) (v : Option (Fin 4 × Fin 4)) : (receiverBlock x v).1.pair = x.pair := by
  unfold receiverBlock
  (repeat' split) <;> rfl

theorem KeepsAgreements.completeBlock (s : State) (r : ReceiverNo) (p : Pair) (samples : List Int) :
    s.KeepsAgreements (s.completeBlock r p samples) := by
  have judged (v : Option (Fin 4 × Fin 4)) (b : Bool) :
      s.KeepsAgreements (s.setReceiver r { (receiverBlock (s.receiver r) v).1 with spoiled := b }) :=
    .setReceiver (receiverBlock_pair ..) (receiverBlock_idle ..)
  unfold State.completeBlock
  dsimp only
  split
  · exact judged _ _
  · exact .after (.of_spares (.after (.appendEvent ..) (.modPair (fun _ => rfl) fun _ => rfl)))
      (.after (.setReceiver rfl .rfl) (judged _ _))

theorem KeepsAgreements.toneBlock (r : ReceiverNo) (samples : Vector Int 80) (s : State) :
    s.KeepsAgreements (toneBlock r samples s) := by
  unfold Machine.toneBlock
  refine .ite (.refl s) ?_
  split
  · exact .refl s
  · exact .completeBlock ..

theorem KeepsAgreements.digitPause (r : ReceiverNo) (s : State) : s.KeepsAgreements (digitPause r s) := by
  unfold Machine.digitPause
  refine .ite (.refl s) ?_
  split
  · exact .refl s
  · exact .ite (.refl s) (.after (.releaseReceiver ..) (.elapseTo ..))

theorem KeepsAgreements.noDigit (r : ReceiverNo) (s : State) : s.KeepsAgreements (noDigit r s) := by
  unfold Machine.noDigit
  refine .ite (.refl s) ?_
  split
  · exact .ite (.refl s) (.after (.releaseReceiver ..) (.elapseTo ..))
  · exact .refl s

/-! ### Resets (R172, R174) -/

/-- Every block at its values of R174 meets the agreements, whatever stood before. -/
theorem KeepsAgreements.initialise (s : State) (straps : Straps) (station : StationState) :
    s.KeepsAgreements (s.initialise straps station) := by
  have record (p : Pair) : (s.initialise straps station).pair p = PairRecord.initial := by
    simp [State.pair, State.initialise, Vector.get]
  have receiver (r : ReceiverNo) : (s.initialise straps station).receiver r = Receiver.idle := by
    simp [State.receiver, State.initialise, Vector.get]
  have waitList : (s.initialise straps station).waitList = [] := rfl
  refine ⟨fun _ => by simp [HolderOk, State.initialise, TestBus.initial, TestUnit.initial], fun _ p => ?_, fun _ => ?_⟩
  · rw [record]; rfl
  · simp only [PoolOk, record, receiver, waitList]
    simp [Receiver.idle, PairRecord.initial]

/-! ### Frames received (chapters 6 to 8) -/

theorem SparesPool.drive (s : State) (c : Cells) : s.SparesPool (s.drive c) := .of_agreed

theorem KeepsAgreements.receive {s : State} {act : State → State} (kind : FrameKind) (f : RxFrame)
    (h : ∀ t : State, t.KeepsAgreements (act t)) : s.KeepsAgreements (s.receive kind f act) := by
  unfold State.receive
  refine .ite (.refl s) ?_
  split
  · exact .of_spares (.enterFailed s)
  · exact .of_spares .of_agreed
  · exact .of_spares .of_agreed
  · exact .after (h _) (.of_spares (.of_agreed rfl))

theorem SparesPool.takeLock (f : RxFrame) (ownSeen : Bool) (s : State) : s.SparesPool (s.takeLock f ownSeen) := by
  unfold State.takeLock
  split
  · exact .drive ..
  · next h =>
    have driven : (s.drive ackCell).bus.view ≠ .mine := by simpa using h
    exact .ite (.drive ..) (.after (.settle _) (.after (.setView driven nofun) (.drive ..)))

/-- The view leaves MINE by the loss of the lock alone (R134, R144). -/
theorem SparesPool.changeView (s : State) {v : BusHolder} (hv : v ≠ .mine) :
    s.SparesPool (if s.bus.view == .mine then s.loseLock v else s.setView v) := by
  split
  · exact .loseLock s hv
  · next h => exact .setView (by simpa using h) hv

theorem SparesPool.takeUnlock (s : State) : s.SparesPool s.takeUnlock :=
  .after (.settle _) (.after (.changeView _ nofun) (.drive s ackCell))

theorem SparesPool.noteTestFrame (s : State) (kind : TestBusFrame) (sender : StationNo) :
    s.SparesPool (s.noteTestFrame kind sender) := by
  unfold State.noteTestFrame
  split
  · split
    · next h => exact .ite (.setView (by simp [h]) nofun) (.refl s)
    · exact .refl s
    · exact .refl s
  · exact .changeView s nofun
  · exact .changeView s nofun

theorem SparesPool.answerQuiet (s : State) (sender : StationNo) (pair : PairNo) (confirmation : Bool)
    (cls : FaultClass) : s.SparesPool (s.answerQuiet sender pair confirmation cls) := by
  unfold State.answerQuiet
  split
  · exact .refl s
  refine .ite (.refl s) ?_
  split
  · exact .drive ..
  · next h =>
    simp only [State.stalls, Bool.or_eq_true, not_or, Bool.not_eq_true] at h
    exact .after (.drive ..) (.beginAccess (no_access_of_testable h.1) sender)

theorem SparesPool.answerRelease (s : State) (pair : PairNo) : s.SparesPool (s.answerRelease pair) := by
  unfold State.answerRelease
  dsimp only
  split
  · exact .drive ..
  · exact .after (.cutAccess ..) (.drive ..)

theorem SparesPool.takeTestFrame (kind : TestBusFrame) (f : RxFrame) (s : State) :
    s.SparesPool (s.takeTestFrame kind f) := by
  refine .after (.settle _) (.after (.ite ?_ (.refl _)) (.noteTestFrame s kind f.sender))
  unfold State.answerTestFrame
  split
  · exact .answerQuiet ..
  · exact .answerRelease ..
  · exact .refl _

theorem SparesPool.answerClaim (s : State) (e : EntryNo) (st : StationNo) (pr : PairNo) (tag : BitVec 5)
    (renew : Bool) : s.SparesPool (s.answerClaim e st pr tag renew) := by
  unfold State.answerClaim
  refine .ite ?_ (.after (.drive ..) (.writeEntry ..))
  split
  · exact .drive ..
  · exact .after (.drive ..) (.writeEntry ..)

theorem SparesPool.takeClaim (st : StationNo) (key : Key) (pr : PairNo) (tag : BitVec 5) (renew : Bool) (s : State) :
    s.SparesPool (s.takeClaim st key pr tag renew) := by
  unfold State.takeClaim
  dsimp only
  refine .trans (.drive s ackCell) ?_
  split
  · exact .refl _
  · exact .after (.ite (.refl _) (.ite (.settle _) (.after (.settle _) (.answerClaim ..)))) (.readEntry ..)

theorem SparesPool.takeLeave (st : StationNo) (key : Key) (pr : PairNo) (s : State) :
    s.SparesPool (s.takeLeave st key pr) := by
  unfold State.takeLeave
  dsimp only
  refine .trans (.drive s ackCell) ?_
  split
  · exact .refl _
  · exact .after (.ite (.refl _) (.ite (.settle _) (.leaveEntry ..))) (.readEntry ..)

theorem SparesPool.takeDeferredReply (tag : BitVec 5) (pr : PairNo) (key : Key) (joined : Bool) (s : State) :
    s.SparesPool (s.takeDeferredReply tag pr key joined) := by
  unfold State.takeDeferredReply
  split
  · exact .refl s
  · exact .ite (.after (.ite (.setClaim ..) (.holdOff ..)) (.after (.drive ..) (.retireTag ..))) (.refl s)

theorem SparesPool.hearClosed (key : Key) (forced : Bool) (s : State) (p : Pair) :
    s.SparesPool (State.hearClosed key forced s p) := by
  have anew (t : State) (cls : FaultClass) :
      t.SparesPool (if forced then t.holdOff p else (t.setClaim p .unclaimed none).claimMake p cls) :=
    .ite (.holdOff ..) (.after (.claimMake ..) (.setClaim ..))
  unfold State.hearClosed
  refine .ite (.refl s) ?_
  split
  · exact .ite (.after (anew _ _) (.withdrawClaim ..)) (.refl s)
  · exact .ite (.after (anew _ _) (.retireTag ..)) (.refl s)
  · exact .refl s

theorem KeepsAgreements.faultClaimReceived (f : RxFrame) (s : State) : s.KeepsAgreements (faultClaimReceived f s) := by
  refine .receive _ f fun t => ?_
  split
  · exact .of_spares (.takeClaim ..)
  · exact .refl t

theorem KeepsAgreements.leaveReceived (f : RxFrame) (s : State) : s.KeepsAgreements (leaveReceived f s) := by
  refine .receive _ f fun t => ?_
  split
  · exact .of_spares (.takeLeave ..)
  · exact .refl t

theorem KeepsAgreements.testFrameReceived (kind : TestBusFrame) (f : RxFrame) (s : State) :
    s.KeepsAgreements (testFrameReceived kind f s) := .receive _ f fun t => .of_spares (.takeTestFrame kind f t)

theorem KeepsAgreements.unhandledKindFrame (s : State) : s.KeepsAgreements (unhandledKindFrame s) :=
  .ite (.of_spares (.of_agreed rfl)) (.refl s)

theorem KeepsAgreements.deferredReplyReceived (f : RxFrame) (s : State) :
    s.KeepsAgreements (deferredReplyReceived f s) := by
  refine .receive _ f fun t => .ite (.refl t) ?_
  split
  · exact .of_spares (.takeDeferredReply ..)
  · exact .refl t

theorem KeepsAgreements.incidentSnooped (f : RxFrame) (s : State) : s.KeepsAgreements (incidentSnooped f s) := by
  refine .receive _ f fun t => ?_
  split
  · exact .ite (.settled (.foldl (SparesPool.hearClosed _ _) _ t)) (.refl t)
  · exact .refl t

/-! ### Commands and replies (chapter 10) -/

/-- A parked pair has left the pool before its record is made anew (R59, R60, R168). -/
theorem KeepsAgreements.parkPair {s : State} {p : Pair} (hp : s.inAccess p = false) :
    s.KeepsAgreements (s.parkPair p) := by
  have ended : s.SparesPool (s.endStanding p) := .endStanding s p
  have dropped : s.KeepsAgreements ((s.endStanding p).dropReceiver p) := .after (.dropReceiver _ p) (.of_spares ended)
  have off (hs : s.PoolOk) : ((s.endStanding p).dropReceiver p).OffPool p :=
    PoolOk.offPool_dropReceiver ((KeepsAgreements.of_spares ended).pool hs) p
  have out := ((Calm.endStanding s p).trans (.dropReceiver _ p)).inAccess hp
  exact .ite (.of_spares ended) (.after (.of_spares (.settle _))
    ((dropped.renewPair off out (fun _ => rfl) fun _ => rfl).setService
      (fun hs => (off hs).modPair fun _ => rfl) .parked))

/-- A pair that is not EQUIPPED is off the pool, so its record can be made anew and its service changed (R57, R169). -/
theorem KeepsAgreements.unparkPair {s : State} {p : Pair} (hp : s.service p = .parked) :
    s.KeepsAgreements (s.unparkPair p) := by
  have cut : s.SparesPool (s.cutAccess p) := .cutAccess s p
  have off (hs : s.PoolOk) : (s.cutAccess p).OffPool p := by
    obtain ⟨-, -, -, -, -, off⟩ := hs
    exact cut.offPool (off p (by simp [hp]))
  exact .after (.of_spares (.settleIf _ _))
    (((KeepsAgreements.of_spares cut).renewPair off (inAccess_cutAccess s p) (fun _ => rfl) fun _ => rfl).setService
      (fun hs => (off hs).modPair fun _ => rfl) .equipped)

theorem SparesPool.doTestPair (s : State) (pr : PairNo) : s.SparesPool (s.doTestPair pr).state := by
  unfold State.doTestPair
  split
  · exact .refl s
  split
  · exact .refl s
  split
  · exact .refl s
  split
  · exact .refl s
  · exact .setBus s _

theorem KeepsAgreements.doPark (s : State) (pr : PairNo) : s.KeepsAgreements (s.doPark pr).state := by
  unfold State.doPark
  split
  · exact .refl s
  split
  · exact .refl s
  · exact .refl s
  split
  · exact .refl s
  · next h => exact .parkPair (by simpa using h)

theorem KeepsAgreements.doUnpark (s : State) (pr : PairNo) : s.KeepsAgreements (s.doUnpark pr).state := by
  unfold State.doUnpark
  split
  · exact .refl s
  split
  · exact .refl s
  · exact .refl s
  · next h => exact .unparkPair h

theorem SparesPool.doClearIncident (s : State) (key : Key) : s.SparesPool (s.doClearIncident key).state := by
  unfold State.doClearIncident
  split
  · exact .refl s
  split
  · exact .after (.settle _) (.loseEntry ..)
  split
  · exact .refl s
  · exact .after (.settle _) (.closeEntry ..)

theorem KeepsAgreements.carryOut (s : State) (c : Command) : s.KeepsAgreements (s.carryOut c).state := by
  cases c with
  | queryPair index part => exact .refl s
  | queryIncident key page => exact .refl s
  | testPair pr => exact .of_spares (.doTestPair ..)
  | park pr => exact .doPark ..
  | unpark pr => exact .doUnpark ..
  | clearIncident key => exact .of_spares (.doClearIncident ..)
  | restart => exact .refl s

theorem SparesPool.occupy (s : State) (i : Fin 4) (r : ReplySlot) : s.SparesPool (s.occupy i r) :=
  .after (.place ..) (.after (.drive ..) (.setSlot ..))

theorem KeepsAgreements.takeCommand (sender : StationNo) (field : BitVec 2) (c : Command) (s : State) :
    s.KeepsAgreements (s.takeCommand sender field c) := by
  unfold State.takeCommand
  split
  · exact .refl s
  · exact .ite (.after (.ite (.refl _) (.of_spares (.after (.settleIf ..) (.occupy ..)))) (KeepsAgreements.carryOut s c))
      (.of_spares (.occupy ..))

theorem KeepsAgreements.commandReceived (kind : LongKind) (f : RxFrame) (s : State) :
    s.KeepsAgreements (commandReceived kind f s) := by
  refine .receive _ f fun t => .ite (.refl t) ?_
  split
  · exact .takeCommand ..
  · exact .refl t

/-! ### Contention and outcomes (chapter 6) -/

theorem SparesPool.buildReply (s : State) (r : ReplySlot) : s.SparesPool (s.buildReply r).1 := by
  have asked (key : Key) (page : BitVec 3) : s.SparesPool (s.incidentQuery key page).1 := by
    unfold State.incidentQuery
    split
    · exact .refl s
    split
    · exact .after (.settle _) (.loseEntry ..)
    split <;> exact .refl s
  unfold State.buildReply
  split
  · exact .refl s
  split
  · exact .refl s
  · exact asked _ _
  · exact .refl s

theorem SparesPool.buildContent (s : State) (k : ItemKind) : s.SparesPool (s.buildContent k).1 := by
  cases k with
  | reply i =>
    unfold State.buildContent
    dsimp only
    split
    · exact .buildReply ..
    · exact .refl s
  | lineEvents p =>
    show s.SparesPool (s.modPair p fun r => { r with discard := false })
    exact .modPair (fun _ => rfl) fun _ => rfl
  | incident e =>
    have read : s.SparesPool (if (s.entry e).check then s else (s.loseEntry e).settle) :=
      .ite (.refl s) (.after (.settle _) (.loseEntry ..))
    unfold State.buildContent
    dsimp only
    generalize (if (s.entry e).check then s else (s.loseEntry e).settle) = t at read
    split
    · exact read
    · show s.SparesPool (t.writeEntry e { t.entry e with changed := false })
      exact .after (.writeEntry ..) read
  | _ => exact .refl s

theorem SparesPool.contentionStart (s : State) : s.SparesPool (contentionStart s) := by
  have offered (t : State) (x : Item) : t.SparesPool (t.offer x) := by
    unfold State.offer
    refine .ite (.buildContent ..) ?_
    split
    · exact .buildContent ..
    · exact .after (.updateItem ..) (.buildContent ..)
  unfold Machine.contentionStart
  refine .ite (.refl s) ?_
  dsimp only
  split
  · exact .of_agreed
  · exact .after (offered _ _) (.of_agreed rfl)

theorem SparesPool.arbitrationLost (s : State) : s.SparesPool (arbitrationLost s) := by
  unfold Machine.arbitrationLost
  refine .ite (.refl s) ?_
  split
  · exact .refl s
  · exact .ite (.after (.settle _) (.removeItem ..)) (.updateItem ..)

/-- The state an item's own part of an outcome leaves, as the producers take it apart. -/
theorem SparesPool.of_dispose {s t : State} {x : Item} {o : Outcome} {fate : Fate} (h : s.dispose x o = (t, fate)) :
    s.SparesPool t := by
  have disposed : s.SparesPool (s.dispose x o).1 := by
    cases o <;> unfold State.dispose <;> dsimp only
    case delivered => exact .removeItem ..
    all_goals split; exacts [.removeItem .., .updateItem ..]
  simpa [h] using disposed

theorem SparesPool.lineEventsDone (s : State) (x : Item) (p : Pair) (o : Outcome) :
    s.SparesPool (s.lineEventsDone x p o) := by
  unfold State.lineEventsDone
  split
  · next h => exact .of_dispose h
  · next h =>
    exact .after (.placeLineEvents ..)
      (.after (.ite (.refl _) (.modPair (fun _ => rfl) fun _ => rfl)) (.of_dispose h))
  · next h =>
    exact .after (.placeLineEvents ..)
      (.after (.ite (.refl _) (.modPair (fun _ => rfl) fun _ => rfl)) (.of_dispose h))

theorem SparesPool.faultClaimDone (s : State) (x : Item) (p : Pair) (r : TxResult) :
    s.SparesPool (s.faultClaimDone x p r) := by
  have noAttempt : s.SparesPool (s.noAttempt x) := .ite (.removeItem ..) (.updateItem ..)
  have timed (t : State) (d : Option Nat) : t.SparesPool (t.modPair p fun r => { r with claimTimer := d }) :=
    .modPair (fun _ => rfl) fun _ => rfl
  unfold State.faultClaimDone
  refine .ite noAttempt (.ite ?_ ?_)
  · unfold State.supersededDone
    dsimp only
    split
    · exact .after (.ite (.place ..) (.refl _)) noAttempt
    · exact noAttempt
  · split
    · exact .ite (.after (timed _ _) (.updateItem ..)) (.updateItem ..)
    · exact .after (timed _ _) (.updateItem ..)
    · exact .after (.ite (.ite (.setClaim ..) (.after (.setClaim ..) (.retireTag ..)))
        (.after (.settle _) (.becomeOwner ..))) (.removeItem ..)
    · exact .refl s

/-- A holder's last accepted time is present before and after it is refreshed (R132, R135). -/
theorem SparesPool.accepted (s : State) : s.SparesPool s.accepted := by
  unfold State.accepted
  split
  · next h =>
    refine ⟨rfl, rfl, rfl, rfl, fun _ => rfl, fun hs => ?_, id, id⟩
    obtain ⟨-, connected, idle⟩ := hs
    exact ⟨h.symm, connected, idle⟩
  · exact .refl s

/-- The view becomes MINE, with the time and the connection that go with it (R132, R146). -/
theorem KeepsAgreements.becomeHolder (s : State) : s.KeepsAgreements s.becomeHolder :=
  ⟨fun _ => ⟨rfl, rfl, fun h => absurd rfl h⟩, id, id⟩

theorem KeepsAgreements.lockDone (s : State) (x : Item) (keepAlive : Bool) (o : Outcome) :
    s.KeepsAgreements (s.lockDone x keepAlive o) := by
  unfold State.lockDone
  refine .ite (.settled (.removeItem ..)) (.ite ?_ ?_)
  · split
    · exact .settled (.after (.accepted _) (.removeItem ..))
    · exact .settled (.after (.loseLock _ nofun) (.removeItem ..))
    · split
      · next h => exact .of_spares (.of_dispose h)
      · next h => exact .settled (.after (.loseLock _ nofun) (.of_dispose h))
  · split
    · next h => exact .of_spares (.of_dispose h)
    · next h => exact .after (.of_spares (.settle _)) (.after (.becomeHolder _) (.of_spares (.of_dispose h)))
    · next h => exact .settled (.of_dispose h)

theorem SparesPool.unlockDone (s : State) (x : Item) (o : Outcome) : s.SparesPool (s.unlockDone x o) := by
  unfold State.unlockDone
  refine .ite (.after (.settle _) (.removeItem ..)) ?_
  split
  · next h => exact .of_dispose h
  · next h => exact .after (.settle _) (.after (.leaveMine _ nofun) (.of_dispose h))

theorem SparesPool.quietDone (s : State) (x : Item) (st : StationNo) (pr : PairNo) (o : Outcome) :
    s.SparesPool (s.quietDone x st pr o) := by
  have passed (t : State) : t.SparesPool (t.passMember x) := .ite (.refl t) (.setBus _ _)
  unfold State.quietDone
  refine .ite (.after (.settle _) (.removeItem ..)) ?_
  split
  · exact .after (.settle _) (.after (.ite (.refl _) (.beginMeasurement ..))
      (.after (.setBus _ _) (.after (.accepted _) (.removeItem ..))))
  · exact .after (.settle _) (.after (passed _) (.after (.accepted _) (.removeItem ..)))
  · split
    · next h => exact .of_dispose h
    · next h => exact .after (.settle _) (.after (passed _) (.of_dispose h))

theorem SparesPool.releaseDone (s : State) (x : Item) (o : Outcome) : s.SparesPool (s.releaseDone x o) := by
  unfold State.releaseDone
  refine .ite (.after (.settle _) (.removeItem ..)) ?_
  split
  · next h => exact .of_dispose h
  · next h => exact .after (.settle _) (.after (.accepted _) (.after (.setBus _ _) (.of_dispose h)))
  · next h => exact .after (.settle _) (.after (.setBus _ _) (.of_dispose h))

theorem SparesPool.deferredReplyDone (s : State) (x : Item) (e : EntryNo) (st : StationNo) (pr : PairNo)
    (o : Outcome) : s.SparesPool (s.deferredReplyDone x e st pr o) := by
  have replied (t : State) : t.SparesPool (t.addReplied e st pr x.content) := by
    unfold State.addReplied
    dsimp only
    split
    · exact .ite (.writeEntry ..) (.refl t)
    · exact .refl t
  unfold State.deferredReplyDone
  refine .ite (.after (.settle _) (.after (.removeItem ..) (.loseEntry ..)))
    (.ite (.after (.settle _) (.removeItem ..)) ?_)
  split
  · next h => exact .of_dispose h
  · next h => exact .after (.settle _) (.after (.writeEntry ..) (.after (replied _) (.of_dispose h)))
  · next h => exact .after (.settle _) (.after (.writeEntry ..) (.of_dispose h))

theorem SparesPool.incidentDone (s : State) (x : Item) (e : EntryNo) (o : Outcome) :
    s.SparesPool (s.incidentDone x e o) := by
  have left (t : State) : t.SparesPool (t.incidentLeft e) :=
    .onEntry e (.ite (.place ..) (.ite (.writeEntry ..) (.refl t)))
  unfold State.incidentDone
  split
  · next h => exact .of_dispose h
  · next h => exact .after (left _) (.of_dispose h)

theorem KeepsAgreements.replyDone (s : State) (x : Item) (i : Fin 4) (o : Outcome) :
    s.KeepsAgreements (s.replyDone x i o) := by
  have left (t : State) : t.KeepsAgreements (t.replyLeft i) := by
    unfold State.replyLeft
    split
    · exact .ite (.initialise ..) (.of_spares (.setSlot ..))
    · exact .refl t
  unfold State.replyDone
  split
  · next h => exact .of_spares (.of_dispose h)
  · next h => exact .after (left _) (.of_spares (.of_dispose h))

theorem SparesPool.testResultDone (s : State) (x : Item) (o : Outcome) : s.SparesPool (s.testResultDone x o) := by
  unfold State.testResultDone
  split
  · next h => exact .of_dispose h
  · next h => exact .after (.ite (.accepted _) (.refl _)) (.after (.setBus _ _) (.of_dispose h))

theorem KeepsAgreements.produce (s : State) (x : Item) (r : TxResult) : s.KeepsAgreements (s.produce x r) := by
  unfold State.produce
  dsimp only
  split
  · exact .of_spares (.lineEventsDone ..)
  · exact .of_spares (.faultClaimDone ..)
  · exact .of_spares (.of_dispose rfl)
  · exact .lockDone ..
  · exact .of_spares (.unlockDone ..)
  · exact .of_spares (.quietDone ..)
  · exact .of_spares (.releaseDone ..)
  · exact .of_spares (.deferredReplyDone ..)
  · exact .of_spares (.incidentDone ..)
  · exact .replyDone ..
  · exact .of_spares (.testResultDone ..)

theorem KeepsAgreements.frameOutcome (kind : SentKind) (r : TxResult) (s : State) :
    s.KeepsAgreements (frameOutcome kind r s) := by
  have noted : s.SparesPool (s.noteEnd r) := by
    cases r with
    | collision => exact .ite .of_agreed (.refl s)
    | sent seen => exact .of_agreed rfl
  unfold Machine.frameOutcome
  refine .ite (.refl s) ?_
  split
  · exact .refl s
  · exact .ite (.after (.produce ..) (.of_spares noted)) (.refl s)

theorem KeepsAgreements.frameTruncated (s : State) : s.KeepsAgreements (frameTruncated s) := by
  unfold Machine.frameTruncated
  refine .ite (.refl s) ?_
  dsimp only
  split
  · exact .of_spares .of_agreed
  · exact .after (.produce ..) (.of_spares (.of_agreed rfl))

/-! ### The test unit (chapter 9) -/

theorem SparesPool.completeMeasurement (s : State) (m : Measurement) (legs : List LegRecord) :
    s.SparesPool (s.completeMeasurement m legs) := by
  have handed (t : State) : t.SparesPool (t.handOver m legs) := by
    unfold State.handOver
    refine .ite ?_ (.endTest ..)
    split
    · exact .refl t
    · exact .setBus _ _
  exact .after (.settle _) (.after (.ite (.endAccess _) (.refl _))
    (.after (handed _) (.after (.setUnit rfl fun _ h => ⟨id, h⟩) (.stopUnit s))))

/-- A reading goes on only where a measurement is in progress, and so in MINE (R149). -/
theorem SparesPool.legDone {s : State} {m : Measurement} (hm : s.unit.measurement = some m) (l : LegRecord) :
    s.SparesPool (s.legDone m l) := by
  unfold State.legDone
  split
  · exact .setUnit rfl fun _ h => by rw [hm] at h; cases h
  · exact .completeMeasurement ..

theorem KeepsAgreements.calibrationDone (volts : Int) (s : State) : s.KeepsAgreements (calibrationDone volts s) := by
  unfold Machine.calibrationDone
  refine .ite (.refl s) ?_
  split
  · exact .refl s
  · refine .after (.ite (.settled (.setUnit rfl fun _ _ => ⟨fun _ => rfl, rfl⟩)) ?_) (.elapseTo ..)
    exact .settled (.after (.ite (.endTest ..) (.refl _)) (.after (.ite (.concludeRun ..) (.refl _))
      (.setUnit rfl fun _ _ => ⟨fun _ => rfl, rfl⟩)))

theorem KeepsAgreements.legOffReadingDone (volts : Int) (s : State) :
    s.KeepsAgreements (legOffReadingDone volts s) := by
  unfold Machine.legOffReadingDone
  refine .ite (.refl s) ?_
  split
  · next m t hm _ =>
    refine .ite (.refl s) (.after (.of_spares (.ite (.legDone (s := s.elapseTo t) hm _) ?_)) (.elapseTo s t))
    exact .setUnit rfl fun _ h => by rw [elapseTo_unit, hm] at h; cases h
  · exact .refl s

theorem KeepsAgreements.legOnReadingDone (volts : Int) (s : State) : s.KeepsAgreements (legOnReadingDone volts s) := by
  unfold Machine.legOnReadingDone
  refine .ite (.refl s) ?_
  split
  · next m t _ hm _ _ =>
    split
    · exact .refl s
    · exact .after (.of_spares (.legDone (s := s.elapseTo t) hm _)) (.elapseTo s t)
  · exact .refl s

/-! ### The scan (chapters 1 to 3 and 5) -/

theorem SparesPool.dropClaim (s : State) (p : Pair) : s.SparesPool (s.dropClaim p) := by
  have orphaned : s.SparesPool (s.orphanClaim p) := by
    unfold State.orphanClaim
    split
    · exact .ite (.refl s) (.withdraw ..)
    · exact .refl s
  have dropped : s.SparesPool ((s.orphanClaim p).retireTag p) := .after (.retireTag ..) orphaned
  unfold State.dropClaim
  dsimp only
  split
  · exact .after (.localLeave ..) (.after (.setClaim ..) dropped)
  · exact dropped

/-- The record is made anew once its pair has left the pool and its access has ended (R6, R7). -/
theorem KeepsAgreements.reinitialise (s : State) (p : Pair) : s.KeepsAgreements (s.reinitialise p) := by
  have dropped : s.SparesPool (s.dropClaim p) := .dropClaim s p
  have reclaimed : (s.dropClaim p).KeepsAgreements ((s.dropClaim p).reclaimReceiver p) :=
    (PoolWork.reclaimReceiver _ p).keeps fun h => (h.reclaimReceiver p).1
  have cut : ((s.dropClaim p).reclaimReceiver p).SparesPool (((s.dropClaim p).reclaimReceiver p).cutAccess p) :=
    .cutAccess _ p
  have off (hs : s.PoolOk) : (((s.dropClaim p).reclaimReceiver p).cutAccess p).OffPool p :=
    cut.offPool (PoolOk.reclaimReceiver ((KeepsAgreements.of_spares dropped).pool hs) p).2
  have upTo := (KeepsAgreements.of_spares dropped).trans (reclaimed.trans (.of_spares cut))
  exact .after (.of_spares (.after (.settle _) (.after (.reportIntegrity _) (.after (.placeLineEvents ..)
    (.updateItem ..))))) (upTo.renewPair off (inAccess_cutAccess _ p) (fun _ => rfl) fun _ => rfl)

theorem SparesPool.closeInterval (s : State) (p : Pair) : s.SparesPool (s.closeInterval p) := by
  have chosen (c : Bool) : s.SparesPool (if c then { s with choices := s.choices + 1 } else s) :=
    .ite (.of_agreed rfl) (.refl s)
  have pairs (c : Bool) : (if c then { s with choices := s.choices + 1 } else s).pair p = s.pair p := by
    split <;> rfl
  unfold State.closeInterval
  refine .after (.settleIf _ _) (.after (.faultConsequence ..) (.after (.placeLineEvents ..)
    ((chosen _).trans (.setPair ?_ fun _ => ?_))))
  · rw [pairs, appendClose_receiver, integrateClose_receiver, ringingClose_receiver]
  · rw [pairs, appendClose_freeze, integrateClose_freeze, ringingClose_freeze]

theorem SparesPool.closeIfFull (s : State) (p : Pair) : s.SparesPool (s.closeIfFull p) :=
  .ite (.closeInterval ..) (.refl s)

theorem SparesPool.evaluateLoop (s : State) (p : Pair) (before : LatchedSet) :
    s.SparesPool (s.evaluateLoop p before) := by
  have freeze := evaluateFault_freeze (s.pair p) (pairClass before) (pairClass (s.pair p).latched) false
  have receiver : (evaluateFault (s.pair p) (pairClass before) (pairClass (s.pair p).latched) false).1.receiver =
      (s.pair p).receiver := by rw [evaluateFault_eq]
  unfold State.evaluateLoop
  refine .ite (.refl s) (.after (.settleIf _ _) (.after (.faultConsequence ..) (.after (.placeLineEvents ..)
    (.setPair ?_ fun _ => ?_))))
  · split
    · rw [PairRecord.append_receiver, receiver]
    · exact receiver
  · split
    · rw [PairRecord.append_freeze, freeze]
    · rw [freeze]

end State

/-! ### The record that the loop supervisor leaves (R36, R54) -/

theorem offHookClosed_line (now : Nat) (r : PairRecord) :
    (offHookClosed now r).1.receiver = r.receiver ∧ (offHookClosed now r).1.freeze = r.freeze := by
  unfold offHookClosed enterLockout
  dsimp only
  (repeat' split) <;> simp

/-- A row of the loop table lends no receiver and leaves the freeze cause (section 3.9). -/
theorem loopMachine_line (now : Nat) (r : PairRecord) (closed : Bool) :
    (loopMachine now r closed).1.receiver = r.receiver ∧ (loopMachine now r closed).1.freeze = r.freeze := by
  unfold loopMachine
  split
  case h_5 => exact offHookClosed_line now r
  case h_7 =>
    split
    · exact ⟨rfl, rfl⟩
    · unfold endBreak
      split
      · exact offHookClosed_line now _
      · split <;> simp
  all_goals (repeat' split) <;> simp [seize, beginBreak, hangUp]

/-- A feed freeze and the return of feed move the freeze cause between none and FEED, and lend no receiver (R52, R53). -/
theorem countDead_line (now : Nat) (r : PairRecord) (cls : SampleClass) :
    (countDead now r cls).receiver = r.receiver ∧ (r.freeze ≠ .access → (countDead now r cls).freeze ≠ .access) := by
  unfold countDead feedFreeze
  dsimp only
  (repeat' split) <;> simp

theorem countBack_line (now : Nat) (r : PairRecord) (cls : SampleClass) :
    (countBack now r cls).receiver = r.receiver ∧ (r.freeze ≠ .access → (countBack now r cls).freeze ≠ .access) := by
  unfold countBack
  (repeat' split) <;> simp

theorem loopSample_line (now : Nat) (r : PairRecord) (cls : SampleClass) :
    (loopSample now r cls).1.receiver = r.receiver ∧
      (r.freeze ≠ .access → (loopSample now r cls).1.freeze ≠ .access) := by
  unfold loopSample
  split
  · obtain ⟨lent, freeze⟩ := loopMachine_line now r (effectiveClosed r cls)
    obtain ⟨lent', freeze'⟩ := countDead_line now (loopMachine now r (effectiveClosed r cls)).1 cls
    exact ⟨lent'.trans lent, fun h => freeze' (by rwa [freeze])⟩
  · exact countBack_line now r cls
  · exact ⟨rfl, id⟩

namespace State

/-- A sampled turn is one of an EQUIPPED pair that is not in TEST_ACCESS (R18, R54). -/
theorem KeepsAgreements.sampleTurn {s : State} {p : Pair} (he : s.service p = .equipped)
    (h : (s.pair p).freeze ≠ .access) (tip ring : Int) : s.KeepsAgreements (s.sampleTurn p tip ring) := by
  unfold State.sampleTurn
  dsimp only
  obtain ⟨lent, freeze⟩ := loopSample_line s.now ((s.pair p).sample (senseReading tip) (senseReading ring))
    ((s.pair p).sample (senseReading tip) (senseReading ring)).classMemory
  generalize loopSample s.now _ _ = x at lent freeze
  have written : s.SparesPool ((s.setPair p x.1).placeLineEvents p) :=
    .after (.placeLineEvents ..) (.setPair lent fun _ => by
      have : x.1.freeze ≠ .access := freeze h
      simp [h, this])
  refine .after (.noteAudio ..) (.after (.of_spares (.closeIfFull ..)) (.after (.of_spares (.evaluateLoop ..))
    (.after (.poolMessage ?_ _) (.of_spares written))))
  simpa using he

theorem KeepsAgreements.scanTurn (p : Pair) (tip ring : Int) (s : State) :
    s.KeepsAgreements (scanTurn p tip ring s) := by
  unfold Machine.scanTurn
  refine .ite (.refl s) ?_
  split
  · exact .refl s
  · exact .ite (.refl s) (.reinitialise ..)
  · next he =>
    refine .ite (.reinitialise ..) ?_
    split
    · exact .of_spares (.after (.closeIfFull ..) (.modPair (fun _ => rfl) fun _ => rfl))
    · next h => exact .sampleTurn he (by simpa using h) tip ring

/-! ### Timers -/

theorem KeepsAgreements.listenInExpiry (s : State) : s.KeepsAgreements (listenInExpiry s) := by
  unfold Machine.listenInExpiry
  split
  · next t _ _ => exact (KeepsAgreements.elapseTo s t).trans (.settled (.of_agreed rfl))
  · exact .refl s

theorem KeepsAgreements.itemBackoffExpiry (ref : ItemRef) (s : State) :
    s.KeepsAgreements (itemBackoffExpiry ref s) := by
  unfold Machine.itemBackoffExpiry
  refine .ite (.refl s) ?_
  split
  · split
    · exact .ite (.after (.of_spares (.modPair (fun _ => rfl) fun _ => rfl)) (.elapseTo ..)) (.refl s)
    · exact .refl s
  · split
    · exact .after (.of_spares (.updateItem ..)) (.elapseTo ..)
    · exact .refl s

theorem SparesPool.claimWaitEnd (s : State) (p : Pair) : s.SparesPool (s.claimWaitEnd p) := by
  unfold State.claimWaitEnd
  split
  · split
    · exact .after (.settle _) (.after (.claimMake ..) (.after (.setClaim ..) (.retireTag ..)))
    · exact .refl s
  · exact .ite (.refl s) (.after (.place ..) (.after (.allocateTag ..) (.setClaim ..)))
  · dsimp only
    split
    · exact .after (.settle _) (.after (.claimMake ..) (.setClaim ..))
    · exact .setClaim ..
  · exact .refl s

theorem KeepsAgreements.claimWaitsEnd (s : State) (t : Nat) (p : Pair) : s.KeepsAgreements (s.claimWaitsEnd t p) :=
  .after (.of_spares (.foldl (fun u q => .ite (.claimWaitEnd u q) (.refl u)) _ _)) (.elapseTo s t)

theorem KeepsAgreements.deferWaitExpiry (p : Pair) (s : State) : s.KeepsAgreements (deferWaitExpiry p s) := by
  unfold Machine.deferWaitExpiry
  refine .ite (.refl s) ?_
  split
  · exact .claimWaitsEnd ..
  · exact .refl s

theorem KeepsAgreements.renewTimerExpiry (p : Pair) (s : State) : s.KeepsAgreements (renewTimerExpiry p s) := by
  unfold Machine.renewTimerExpiry
  refine .ite (.refl s) ?_
  split
  · exact .ite (.refl s) (.claimWaitsEnd ..)
  · exact .refl s

theorem KeepsAgreements.holdOffExpiry (p : Pair) (s : State) : s.KeepsAgreements (holdOffExpiry p s) := by
  unfold Machine.holdOffExpiry
  refine .ite (.refl s) ?_
  split
  · exact .claimWaitsEnd ..
  · exact .refl s

theorem KeepsAgreements.memberExpiry (e : EntryNo) (st : StationNo) (pr : PairNo) (s : State) :
    s.KeepsAgreements (memberExpiry e st pr s) := by
  unfold Machine.memberExpiry
  refine .ite (.refl s) ?_
  split
  · exact .refl s
  · exact .after (.of_spares (.onEntry e (.writeEntry ..))) (.elapseTo ..)

theorem KeepsAgreements.emptyListExpiry (e : EntryNo) (s : State) : s.KeepsAgreements (emptyListExpiry e s) := by
  unfold Machine.emptyListExpiry
  refine .ite (.refl s) ?_
  split
  · exact .refl s
  · exact .after (.of_spares (.onEntry e (.writeEntry ..))) (.elapseTo ..)

theorem KeepsAgreements.clearHoldExpiry (e : EntryNo) (s : State) : s.KeepsAgreements (clearHoldExpiry e s) := by
  unfold Machine.clearHoldExpiry
  refine .ite (.refl s) ?_
  split
  · exact .refl s
  · exact .after (.of_spares (.onEntry e (.closeEntry ..))) (.elapseTo ..)

theorem SparesPool.callTest (s : State) : s.SparesPool s.callTest := .of_agreed rfl

theorem KeepsAgreements.confirmationRetryExpiry (e : EntryNo) (s : State) :
    s.KeepsAgreements (confirmationRetryExpiry e s) := by
  unfold Machine.confirmationRetryExpiry
  refine .ite (.refl s) ?_
  split
  · exact .refl s
  · exact .after (.of_spares (.onEntry e (.after (.settle _) (.after (.callTest _) (.writeEntry ..))))) (.elapseTo ..)

theorem KeepsAgreements.viewLapse (s : State) : s.KeepsAgreements (viewLapse s) := by
  unfold Machine.viewLapse
  refine .ite (.refl s) ?_
  split
  · next heard hv =>
    exact (KeepsAgreements.elapseTo s (heard + 5000)).trans (.settled (.setView (by simp [hv]) nofun))
  · exact .refl s
  · exact .refl s

theorem KeepsAgreements.keepAliveDue (s : State) : s.KeepsAgreements (keepAliveDue s) := by
  unfold Machine.keepAliveDue
  refine .ite (.refl s) ?_
  split
  · exact .refl s
  · exact .ite (.after (.of_spares (.place ..)) (.elapseTo ..)) (.refl s)

theorem KeepsAgreements.selfLimitExpiry (s : State) : s.KeepsAgreements (selfLimitExpiry s) := by
  unfold Machine.selfLimitExpiry
  refine .ite (.refl s) ?_
  split
  · exact .refl s
  · exact .after (.settled (.loseLock _ nofun)) (.elapseTo ..)

theorem KeepsAgreements.restraintExpiry (s : State) : s.KeepsAgreements (restraintExpiry s) := by
  unfold Machine.restraintExpiry
  refine .ite (.refl s) ?_
  split
  · exact .refl s
  · exact (KeepsAgreements.elapseTo s _).trans (.settled (.setBus _ _))

theorem KeepsAgreements.jobDeadlineExpiry (job : Job) (s : State) : s.KeepsAgreements (jobDeadlineExpiry job s) := by
  unfold Machine.jobDeadlineExpiry
  refine .ite (.refl s) ?_
  split
  · exact .refl s
  · cases job with
    | confirmation => exact .after (.settled (.concludeRun ..)) (.elapseTo ..)
    | uplinkTest => exact .after (.settled (.endTest ..)) (.elapseTo ..)

theorem KeepsAgreements.releaseWaitExpiry (s : State) : s.KeepsAgreements (releaseWaitExpiry s) := by
  unfold Machine.releaseWaitExpiry
  refine .ite (.refl s) ?_
  split
  · exact .refl s
  · exact (KeepsAgreements.elapseTo s _).trans (.settled (.setBus _ _))

theorem KeepsAgreements.selfReleaseExpiry (s : State) : s.KeepsAgreements (selfReleaseExpiry s) := by
  unfold Machine.selfReleaseExpiry
  refine .ite (.refl s) ?_
  split
  · exact .refl s
  · exact .after (.of_spares (.after (.settleIf ..) (.cutAccess ..))) (.elapseTo ..)

/-! ### Commands and steps -/

theorem KeepsAgreements.idle (s : State) : s.KeepsAgreements s.idle := .ite ⟨id, id, id⟩ (.refl s)

theorem KeepsAgreements.of_next {s t u : State} (h : s.KeepsAgreements t)
    (e : (Host.Outcome.next t : Host.Outcome State Fault Refusal) = .next u) : s.KeepsAgreements u := by
  cases e; exact h

/-- Every command keeps the agreements. -/
theorem KeepsAgreements.exec {c : Instr} {s t : State} (h : exec c s = .next t) : s.KeepsAgreements t := by
  cases c with
  | resetPinAssert => exact .of_next (.of_spares (.pinAssert s)) h
  | resetPinRelease straps => exact .of_next (.initialise s straps _) h
  | listenInExpiry => exact .of_next (.listenInExpiry s) h
  | scanTurn p tip ring => exact .of_next (.scanTurn p tip ring s) h
  | toneBlockComplete r samples => exact .of_next (.toneBlock r samples s) h
  | digitPauseExpiry r => exact .of_next (.digitPause r s) h
  | noDigitExpiry r => exact .of_next (.noDigit r s) h
  | contentionStart => exact .of_next (.of_spares (.contentionStart s)) h
  | arbitrationLost => exact .of_next (.of_spares (.arbitrationLost s)) h
  | frameTruncated => exact .of_next (.frameTruncated s) h
  | frameCheckedOnly kind f => exact .of_next (.receive _ f .refl) h
  | unhandledKindFrame long kind => exact .of_next (.unhandledKindFrame s) h
  | lockReceived f ownSeen => exact .of_next (.receive _ f fun t => .of_spares (.takeLock f ownSeen t)) h
  | unlockReceived f => exact .of_next (.receive _ f fun t => .of_spares (.takeUnlock t)) h
  | faultClaimReceived f => exact .of_next (.faultClaimReceived f s) h
  | leaveReceived f => exact .of_next (.leaveReceived f s) h
  | quietReceived f => exact .of_next (.testFrameReceived .quiet f s) h
  | releaseReceived f => exact .of_next (.testFrameReceived .release f s) h
  | testFrameSnooped kind f => exact .of_next (.testFrameReceived kind f s) h
  | deferredReplyReceived f => exact .of_next (.deferredReplyReceived f s) h
  | incidentSnooped f => exact .of_next (.incidentSnooped f s) h
  | queryPair f => exact .of_next (.commandReceived .queryPair f s) h
  | queryIncident f => exact .of_next (.commandReceived .queryIncident f s) h
  | testPair f => exact .of_next (.commandReceived .testPair f s) h
  | park f => exact .of_next (.commandReceived .park f s) h
  | unpark f => exact .of_next (.commandReceived .unpark f s) h
  | clearIncident f => exact .of_next (.commandReceived .clearIncident f s) h
  | restart f => exact .of_next (.commandReceived .restart f s) h
  | lineEventsOutcome r => exact .of_next (.frameOutcome .lineEvents r s) h
  | faultClaimOutcome r => exact .of_next (.frameOutcome .faultClaim r s) h
  | leaveOutcome r => exact .of_next (.frameOutcome .leave r s) h
  | lockOutcome r => exact .of_next (.frameOutcome .lock r s) h
  | unlockOutcome r => exact .of_next (.frameOutcome .unlock r s) h
  | quietOutcome r => exact .of_next (.frameOutcome .quiet r s) h
  | releaseOutcome r => exact .of_next (.frameOutcome .release r s) h
  | deferredReplyOutcome r => exact .of_next (.frameOutcome .deferredReply r s) h
  | incidentOutcome r => exact .of_next (.frameOutcome .incident r s) h
  | replyOutcome r => exact .of_next (.frameOutcome .reply r s) h
  | testResultOutcome r => exact .of_next (.frameOutcome .testResult r s) h
  | itemBackoffExpiry ref => exact .of_next (.itemBackoffExpiry ref s) h
  | deferWaitExpiry p => exact .of_next (.deferWaitExpiry p s) h
  | renewTimerExpiry p => exact .of_next (.renewTimerExpiry p s) h
  | holdOffExpiry p => exact .of_next (.holdOffExpiry p s) h
  | memberExpiry e st pr => exact .of_next (.memberExpiry e st pr s) h
  | emptyListExpiry e => exact .of_next (.emptyListExpiry e s) h
  | clearHoldExpiry e => exact .of_next (.clearHoldExpiry e s) h
  | confirmationRetryExpiry e => exact .of_next (.confirmationRetryExpiry e s) h
  | viewLapse => exact .of_next (.viewLapse s) h
  | keepAliveDue => exact .of_next (.keepAliveDue s) h
  | selfLimitExpiry => exact .of_next (.selfLimitExpiry s) h
  | restraintExpiry => exact .of_next (.restraintExpiry s) h
  | jobDeadlineExpiry job => exact .of_next (.jobDeadlineExpiry job s) h
  | releaseWaitExpiry => exact .of_next (.releaseWaitExpiry s) h
  | selfReleaseExpiry => exact .of_next (.selfReleaseExpiry s) h
  | calibrationDone volts => exact .of_next (.calibrationDone volts s) h
  | legOffReadingDone volts => exact .of_next (.legOffReadingDone volts s) h
  | legOnReadingDone volts => exact .of_next (.legOnReadingDone volts s) h

end State

/-- Settles O55: every command keeps the agreements, and an idle step moves the clock alone. -/
theorem stepKeepsHoldingAccessAndPool : Obligations.StepKeepsHoldingAccessAndPool := by
  intro s t h
  have kept : s.KeepsAgreements t := by
    unfold step at h
    split at h
    · exact .of_next (.idle s) h
    · next rest _ =>
      have taken : s.KeepsAgreements { s with pending := rest } := .of_spares (.of_agreed rfl)
      exact taken.trans (.exec h)
  exact ⟨kept.holder, kept.access, kept.pool⟩

end Sys2Proof.Machine
end

section
/-! PROOFS. The loop supervisor's table, row by row (section 3.9, R37 to R47), and the turns of the scan at which it tells
no receiver: a row of the table writes the record, the feed-dead run is counted beside it (R52), and nothing else of the
station changes but the LINE EVENTS item and the receiver's note of the audio. -/

namespace Sys2Proof.Machine

section LoopTable

variable {now : Nat} {r : PairRecord}

/-! ### The rows -/

/-- What the loop supervisor takes for CLOSED (R36, R51). -/
theorem effectiveClosed_eq (r : PairRecord) : effectiveClosed r r.classMemory =
    decide (r.classMemory = .closed ∧ ¬(r.loop = .onHook ∧ r.ringingHold = true)) := by
  rw [Bool.eq_iff_iff]
  simp [effectiveClosed]

theorem loopMachine_onHook_closed (h : r.loop = .onHook) :
    loopMachine now r true = ({ r with loop := .seizePending, closedRun := 1 }, .silent) := by
  simp [loopMachine, h]

theorem loopMachine_seizePending_closed (h : r.loop = .seizePending) (hc : r.closedRun < 7) :
    loopMachine now r true = ({ r with closedRun := r.closedRun + 1 }, .silent) := by
  have : ¬ 7 ≤ r.closedRun := by omega
  simp [loopMachine, h, this]

/-- The eighth CLOSED sample seizes the pair, and a receiver is asked for (R38). -/
theorem loopMachine_seizePending_seizes (h : r.loop = .seizePending) (hc : r.closedRun = 7) :
    loopMachine now r true = (seize now r, .request) := by
  simp [loopMachine, h, hc]

theorem loopMachine_offHook_open (h : r.loop = .offHook) : loopMachine now r false =
    ({ r with loop := .inBreak, breakLength := 1, beforeBreak := .offHook }, .silent) := by
  simp [loopMachine, h, beginBreak]

theorem loopMachine_lockout_open (h : r.loop = .lockout) : loopMachine now r false =
    ({ r with loop := .inBreak, breakLength := 1, beforeBreak := .lockout }, .silent) := by
  simp [loopMachine, h, beginBreak]

theorem loopMachine_lockout_closed (h : r.loop = .lockout) : loopMachine now r true = (r, .silent) := by
  simp [loopMachine, h]

/-- A break begun in LOCKOUT ends there (R46). -/
theorem loopMachine_inBreak_locked (h : r.loop = .inBreak) (hb : r.beforeBreak = .lockout) :
    loopMachine now r true = ({ r with loop := .lockout, breakLength := 0 }, .silent) := by
  simp [loopMachine, h, hb]

theorem loopMachine_inBreak_ends (h : r.loop = .inBreak) (hb : r.beforeBreak = .offHook) :
    loopMachine now r true = endBreak now r := by
  simp [loopMachine, h, hb]

/-- A break of 4 to 24 samples is a pulse (R42, R43). -/
theorem endBreak_pulse (hlow : 4 ≤ r.breakLength) (hhigh : r.breakLength ≤ 24) : endBreak now r =
    ({ r with
        loop := .offHook, breakLength := 0, pulseCount := min 15 (r.pulseCount + 1), dialled := true, closedRun := 1 },
      .silent) := by
  have : ¬ r.breakLength ≤ 3 := by omega
  simp [endBreak, this, hhigh]

/-- A break of 25 samples or more is a flash (R42). -/
theorem endBreak_flash (h : 25 ≤ r.breakLength) : endBreak now r =
    ({ r.append now .flash r.pulseCount with
        loop := .offHook, breakLength := 0, pulseCount := 0, lockoutTimer := 0, closedRun := 1 }, .silent) := by
  have short : ¬ r.breakLength ≤ 3 := by omega
  have pulse : ¬ r.breakLength ≤ 24 := by omega
  simp [endBreak, short, pulse]

/-- The 161st sample of a break hangs the pair up (R41). -/
theorem loopMachine_inBreak_hangsUp (h : r.loop = .inBreak) (hb : r.breakLength = 160) :
    loopMachine now r false = (hangUp now r, .release) := by
  simp [loopMachine, h, hb]

/-! ### The feed-dead run beside a row (R52) -/

@[simp] theorem PairRecord.append_feedDead (r : PairRecord) (now : Nat) (t : EventType) (v : Nat) :
    (r.append now t v).feedDead = r.feedDead := by rw [PairRecord.append_eq]

/-- Where no feed freeze begins, a sample is a row of the loop table and a count of the feed-dead run. -/
theorem loopSample_of_row {y : PairRecord} {m : PoolMessage} (hf : r.freeze = .unfrozen)
    (hy : loopMachine now r (effectiveClosed r r.classMemory) = (y, m)) (hn : y.feedDead = r.feedDead)
    (hd : r.classMemory = .dead → r.feedDead < 19) : loopSample now r r.classMemory =
      ({ y with feedDead := if r.classMemory = .dead then r.feedDead + 1 else 0 }, m) := by
  by_cases hc : r.classMemory = .dead
  · have : ¬ 19 ≤ r.feedDead := by have := hd hc; omega
    simp only [loopSample, hf, hy]
    simp [countDead, hc, hn, this]
  · simp only [loopSample, hf, hy]
    simp [countDead, hc]

end LoopTable

/-! ### The silent rows (O6) -/

/-- A turn whose row of the loop table is silent. -/
theorem exec_scanTurn_of_row {s : State} {p : Pair} {tip ring : Int} {r y : PairRecord} (h : s.samples p)
    (hf : (s.pair p).freeze = .unfrozen) (hr : (s.pair p).sample (senseReading tip) (senseReading ring) = r)
    (hy : loopMachine s.now r (effectiveClosed r r.classMemory) = (y, .silent))
    (hd : r.classMemory = .dead → r.feedDead < 19) (hn : y.feedDead = r.feedDead := by rfl)
    (hl : y.latched = r.latched := by rfl) (ha : y.acc = r.acc := by rfl) :
    exec (.scanTurn p tip ring) s = .next
      (((s.setPair p { y with feedDead := if r.classMemory = .dead then r.feedDead + 1 else 0 }).placeLineEvents
        p).noteAudio p) := by
  subst hr
  exact exec_scanTurn_of_silent h (loopSample_of_row hf hy hn hd) hl ha

/-- Settles O6: each row is a silent one, so the record it leaves is all there is to compute. -/
theorem loopTurns : Obligations.LoopTurns := by
  intro s p tip ring h hf r closed after hd
  have turn {y : PairRecord} (c : Bool) (hc : effectiveClosed r r.classMemory = c)
      (hy : loopMachine s.now r c = (y, .silent)) (hn : y.feedDead = r.feedDead := by rfl)
      (hl : y.latched = r.latched := by rfl) (ha : y.acc = r.acc := by rfl) :
      exec (.scanTurn p tip ring) s = after y :=
    exec_scanTurn_of_row h hf rfl (hc ▸ hy) hd hn hl ha
  have yes (hc : closed) : effectiveClosed r r.classMemory = true := by
    rw [effectiveClosed_eq]; exact decide_eq_true hc
  have no (hc : ¬closed) : effectiveClosed r r.classMemory = false := by
    rw [effectiveClosed_eq]; exact decide_eq_false hc
  refine ⟨fun hl hc => turn _ (yes hc) (loopMachine_onHook_closed hl),
    fun hl hc => turn _ (no hc) (loopMachine_onHook_open hl),
    fun hl hc hn => turn _ (yes hc) (loopMachine_seizePending_closed hl hn),
    fun hl hc => turn _ (no hc) (loopMachine_seizePending_open hl),
    fun hl hc => turn _ (no hc) (loopMachine_offHook_open hl),
    fun hl hc hb => turn _ (no hc) (loopMachine_inBreak_open hl hb),
    fun hl hc hb hlow hhigh => turn _ (yes hc) ((loopMachine_inBreak_ends hl hb).trans (endBreak_pulse hlow hhigh)),
    fun hl hc hb hlow => turn _ (yes hc) ((loopMachine_inBreak_ends hl hb).trans (endBreak_flash hlow))
      (PairRecord.append_feedDead ..) (PairRecord.append_latched ..) (PairRecord.append_acc ..),
    fun hl hc hb => turn _ (yes hc) (loopMachine_inBreak_locked hl hb),
    fun hl hc => turn _ (yes hc) (loopMachine_lockout_closed hl),
    fun hl hc => turn _ (no hc) (loopMachine_lockout_open hl)⟩

end Sys2Proof.Machine
end

section
/-! PROOFS. What a release leaves of the station: a receiver given up goes IDLE or to the head of the wait list, a place on
the list is given up, and the pair that gives it up keeps the rest of its record (R59, R60, R62). -/

namespace Sys2Proof.Machine

theorem PairRecord.append_setCheck (r : PairRecord) (now : Nat) (t : EventType) (v : Nat) :
    ({ r with check := true } : PairRecord).append now t v = { r.append now t v with check := true } := by
  unfold PairRecord.append; split <;> rfl

@[simp] theorem PairRecord.append_fault (r : PairRecord) (now : Nat) (t : EventType) (v : Nat) :
    (r.append now t v).fault = r.fault := by rw [PairRecord.append_eq]

@[simp] theorem PairRecord.append_recovery (r : PairRecord) (now : Nat) (t : EventType) (v : Nat) :
    (r.append now t v).recovery = r.recovery := by rw [PairRecord.append_eq]

@[simp] theorem PairRecord.append_claim (r : PairRecord) (now : Nat) (t : EventType) (v : Nat) :
    (r.append now t v).claim = r.claim := by rw [PairRecord.append_eq]

theorem PairRecord.append_events_ne_nil (r : PairRecord) (now : Nat) (t : EventType) (v : Nat) :
    (r.append now t v).events ≠ [] := by
  unfold PairRecord.append
  split
  · simp
  · next h => exact fun e => h (by simp [show r.events = [] from e])

namespace State

variable {s : State} {p : Pair}

/-! ### Writes of what stands -/

theorem setPair_self (h : (s.pair p).check = true) : s.setPair p (s.pair p) = s := by
  rw [State.setPair, PairRecord.set_check h]
  simp [State.pair, Vector.get]

theorem setReceiver_setReceiver (s : State) (i : ReceiverNo) (a b : Receiver) :
    (s.setReceiver i a).setReceiver i b = s.setReceiver i b := by
  simp [State.setReceiver]

/-! ### The release (R59, R60, R62) -/

/-- A lent receiver and the event of its lateness are one write of the record. -/
theorem lend_appendEvent (s : State) (i : ReceiverNo) (q : Pair) (t : EventType) (v : Nat) :
    (s.lend i q).appendEvent q t v =
      ((s.modPair q fun x => ({ x with receiver := some i } : PairRecord).append s.now t v).setReceiver i
        (Receiver.lentTo q s.now (s.pair q).spoilsAudio)).placeLineEvents q := by
  have fused (r : PairRecord) (x : Receiver) :
      ((s.setPair q r).setReceiver i x).modPair q (fun r => r.append s.now t v) =
        (s.setPair q (r.append s.now t v)).setReceiver i x := by
    rw [State.modPair, setReceiver_pair, pair_setPair_same, PairRecord.append_setCheck]
    simp [State.setPair, State.setReceiver]
  exact congrArg (State.placeLineEvents · q) (fused { s.pair q with receiver := some i } _)

theorem dropReceiver_of_unserved (h : (s.pair p).receiver = none) : s.dropReceiver p = s.leaveWaitList p := by
  simp only [State.dropReceiver, h]

theorem dropReceiver_of_served {i : ReceiverNo} (h : (s.pair p).receiver = some i) (hi : (s.receiver i).pair = some p) :
    s.dropReceiver p = (s.modPair p fun x => { x with receiver := none }).passOn i := by
  simp only [State.dropReceiver, h, releaseReceiver_of_served hi]

theorem dropReceiver_idle {i : ReceiverNo} (h : (s.pair p).receiver = some i) (hi : (s.receiver i).pair = some p)
    (hw : s.waitList = []) :
    s.dropReceiver p = (s.modPair p fun x => { x with receiver := none }).setReceiver i Receiver.idle := by
  rw [dropReceiver_of_served h hi, passOn_idle (by exact hw)]

theorem dropReceiver_head {i : ReceiverNo} (h : (s.pair p).receiver = some i) (hi : (s.receiver i).pair = some p)
    {w : Waiting} {rest : List Waiting} (hw : s.waitList = w :: rest) (hp : w.pair ≠ p) :
    s.dropReceiver p =
      ((({ s.modPair p fun x => { x with receiver := none } with waitList := rest } : State).modPair w.pair fun x =>
        ({ x with receiver := some i } : PairRecord).append s.now .receiverLate
          (min 15 ((s.now - w.since) / 1000))).setReceiver i
        (Receiver.lentTo w.pair s.now (s.pair w.pair).spoilsAudio)).placeLineEvents w.pair := by
  rw [dropReceiver_of_served h hi, passOn_head (by exact hw), lend_appendEvent]
  have other : ((s.modPair p fun x => { x with receiver := none }).pair w.pair) = s.pair w.pair :=
    pair_modPair_ne _ _ _ _ hp
  rw [show State.pair { s.modPair p fun x => { x with receiver := none } with waitList := rest } w.pair = s.pair w.pair
    from other]
  rfl

/-! ### What a release leaves unchanged -/

/-- A release writes the pool, records and the queue. -/
theorem passOn_eq (s : State) (i : ReceiverNo) : s.passOn i = { s with
    pairs := (s.passOn i).pairs, receivers := (s.passOn i).receivers, waitList := (s.passOn i).waitList
    queue := (s.passOn i).queue } := by
  cases hw : s.waitList with
  | nil => rw [passOn_idle hw]; rfl
  | cons w rest =>
    rw [passOn_head hw, lend_appendEvent, placeLineEvents_eq]
    rfl

theorem dropReceiver_eq (s : State) (p : Pair) : s.dropReceiver p = { s with
    pairs := (s.dropReceiver p).pairs, receivers := (s.dropReceiver p).receivers
    waitList := (s.dropReceiver p).waitList, queue := (s.dropReceiver p).queue } := by
  cases h : (s.pair p).receiver with
  | none => rw [dropReceiver_of_unserved h]; rfl
  | some i =>
    simp only [State.dropReceiver, h]
    cases hi : (s.receiver i).pair with
    | none => rw [releaseReceiver_of_unserved hi]; exact passOn_eq s i
    | some q =>
      rw [releaseReceiver_of_served hi]
      exact passOn_eq (s.modPair q fun x => { x with receiver := none }) i

@[simp] theorem dropReceiver_now (s : State) (p : Pair) : (s.dropReceiver p).now = s.now := by rw [dropReceiver_eq]
@[simp] theorem dropReceiver_straps (s : State) (p : Pair) : (s.dropReceiver p).straps = s.straps := by
  rw [dropReceiver_eq]
@[simp] theorem dropReceiver_entries (s : State) (p : Pair) : (s.dropReceiver p).entries = s.entries := by
  rw [dropReceiver_eq]

/-- The receiver that a pair's record names serves it, and the pair does not wait beside (R56, R57). -/
def ServedWell (s : State) (p : Pair) : Prop :=
  ∀ i, (s.pair p).receiver = some i → (s.receiver i).pair = some p ∧ ∀ w ∈ s.waitList, w.pair ≠ p

/-- A pair that gives up its receiver keeps the rest of its record. -/
theorem pair_dropReceiver (h : s.ServedWell p) (hc : (s.pair p).check = true) :
    (s.dropReceiver p).pair p = { s.pair p with receiver := none } := by
  have freed : (s.modPair p fun x => { x with receiver := none }).pair p = { s.pair p with receiver := none } := by
    rw [pair_modPair_same]
    exact PairRecord.set_check hc
  cases hn : (s.pair p).receiver with
  | none =>
    rw [dropReceiver_of_unserved hn, ← hn]
    rfl
  | some i =>
    obtain ⟨hi, absent⟩ := h i hn
    cases hw : s.waitList with
    | nil => rw [dropReceiver_idle hn hi hw, setReceiver_pair, freed]
    | cons w rest =>
      have other : w.pair ≠ p := absent w (by simp [hw])
      rw [dropReceiver_head hn hi hw other, placeLineEvents_pair, setReceiver_pair, pair_modPair_ne _ _ _ _ other.symm]
      exact freed

/-- An item that stands outlasts a placing. -/
theorem hasItem_place_of_hasItem {ref : ItemRef} (h : s.hasItem ref = true) (k : ItemKind) :
    (s.place k).hasItem ref = true := by
  by_cases hk : itemRef k = ref
  · rw [place_of_present (hk ▸ h)]
    exact h
  · rwa [hasItem_place_other hk]

theorem hasItem_placeLineEvents_of_hasItem {ref : ItemRef} (h : s.hasItem ref = true) (q : Pair) :
    (s.placeLineEvents q).hasItem ref = true := by
  unfold State.placeLineEvents
  split
  · exact h
  · exact hasItem_place_of_hasItem h _

theorem hasItem_passOn {ref : ItemRef} (h : s.hasItem ref = true) (i : ReceiverNo) :
    (s.passOn i).hasItem ref = true := by
  cases hw : s.waitList with
  | nil => rw [passOn_idle hw]; exact h
  | cons w rest =>
    rw [passOn_head hw, lend_appendEvent]
    refine hasItem_placeLineEvents_of_hasItem ?_ _
    exact h

theorem hasItem_dropReceiver {ref : ItemRef} (h : s.hasItem ref = true) (p : Pair) :
    (s.dropReceiver p).hasItem ref = true := by
  unfold State.dropReceiver
  split
  · next i hn =>
    cases hi : (s.receiver i).pair with
    | none => rw [releaseReceiver_of_unserved hi]; exact hasItem_passOn h i
    | some q =>
      rw [releaseReceiver_of_served hi]
      refine hasItem_passOn ?_ i
      exact h
  · exact h

theorem placeLineEvents_of_hasItem (h : s.hasItem (.lineEvents p) = true) : s.placeLineEvents p = s := by
  unfold State.placeLineEvents
  split
  · rfl
  · exact place_of_present h

end State
end Sys2Proof.Machine
end

section
/-! PROOFS. The turns of the scan that tell the pool of a release: a completed digit, the entry to LOCKOUT and the hang-up
(R39, R41, R46), and the evaluation of the fault state that follows a change of PERMANENT_LOOP (R47, R82). -/

namespace Sys2Proof.Machine

/-! ### The evaluation on PERMANENT_LOOP alone (R80 to R82) -/

section Evaluation

variable {l : LatchedSet} {k : FaultClass} {r : PairRecord}

/-- PERMANENT_LOOP is the lowest-ranked class (R80). -/
theorem pairClass_setPermanentLoop (h : pairClass l = some k) (hl : l.permanentLoop = false) (b : Bool) :
    pairClass { l with permanentLoop := b } = some k := by
  simp only [pairClass, hl] at h ⊢
  grind

theorem pairClass_permanentLoop (h : pairClass l = none) :
    pairClass { l with permanentLoop := true } = some .permanentLoop := by
  simp only [pairClass] at h ⊢
  grind

theorem evaluateFault_same (h : r.fault = .faulted) (weighed : Bool) :
    evaluateFault r (some k) (some k) weighed = (r, .quiet) := by
  simp [evaluateFault, h]

theorem evaluateFault_recovers (h : r.fault = .faulted) (before : Option FaultClass) (weighed : Bool) :
    evaluateFault r before none weighed = ({ r with fault := .recovering, recovery := 0 }, .quiet) := by
  simp [evaluateFault, h]

theorem evaluateFault_enters (h : r.fault = .clear ∨ r.fault = .recovering) (before : Option FaultClass)
    (weighed : Bool) :
    evaluateFault r before (some k) weighed =
      ({ r with fault := .faulted, recovery := if r.fault = .recovering then 0 else r.recovery }, .entered k) := by
  rcases h with h | h <;> simp [evaluateFault, h]

end Evaluation

namespace State

variable {s : State} {p : Pair} {before : LatchedSet} {y : PairRecord} {cls : FaultClass}

theorem evaluateLoop_of_same (h : (s.pair p).latched = before) : s.evaluateLoop p before = s := by
  rw [State.evaluateLoop, if_pos (by simp [h])]

theorem evaluateLoop_of_quiet (h : (s.pair p).latched ≠ before)
    (he : evaluateFault (s.pair p) (pairClass before) (pairClass (s.pair p).latched) false = (y, .quiet)) :
    s.evaluateLoop p before = (s.setPair p y).placeLineEvents p := by
  simp [State.evaluateLoop, h, he, faultEvent, State.faultConsequence, State.settleIf]

/-- An evaluation that finds nothing to change writes what stands (R13, R82). -/
theorem evaluateLoop_of_standing (he : evaluateFault (s.pair p) (pairClass before) (pairClass (s.pair p).latched) false =
      (s.pair p, .quiet)) (hc : (s.pair p).check = true) (hi : s.hasItem (.lineEvents p) = true) :
    s.evaluateLoop p before = s := by
  by_cases h : (s.pair p).latched = before
  · exact evaluateLoop_of_same h
  · rw [evaluateLoop_of_quiet h he, setPair_self hc, placeLineEvents_of_hasItem hi]

theorem evaluateLoop_of_entered (h : (s.pair p).latched ≠ before)
    (he : evaluateFault (s.pair p) (pairClass before) (pairClass (s.pair p).latched) false = (y, .entered cls)) :
    s.evaluateLoop p before =
      (((s.setPair p (y.append s.now .fault (classCode cls))).placeLineEvents p).claimFor p cls).settle := by
  simp [State.evaluateLoop, h, he, faultEvent, State.faultConsequence, State.settleIf]

theorem KeepsLines.acc {s t : State} (h : s.KeepsLines t) (p : Pair) : (t.pair p).acc = (s.pair p).acc :=
  have : (t.pair p).line.acc = (s.pair p).line.acc := by rw [h.line p]
  this

/-- The evaluation leaves the accumulator alone. -/
theorem evaluateLoop_acc (s : State) (p : Pair) (before : LatchedSet) :
    ((s.evaluateLoop p before).pair p).acc = (s.pair p).acc := by
  unfold State.evaluateLoop
  dsimp only
  split
  · rfl
  · rw [(KeepsLines.after (.settleIf _ _) (.faultConsequence _ p _)).acc, placeLineEvents_pair, pair_setPair_same,
      evaluateFault_eq]
    split <;> simp

/-- Which entry holds a pair's key is read in the table and the straps. -/
theorem ownedEntry_pairKey {t : State} (entries : t.entries = s.entries) (straps : t.straps = s.straps) :
    t.ownedEntry (t.pairKey p cls) = s.ownedEntry (s.pairKey p cls) := by
  simp only [State.ownedEntry, State.entry, State.pairKey, entries, straps]

/-- A pair without a standing claims by contention where this station does not own the key (R85, R87). -/
theorem claimFor_pending (hc : (s.pair p).claim = .unclaimed) (ho : s.ownedEntry (s.pairKey p cls) = none) :
    s.claimFor p cls = s.claimPending p cls := by
  simp only [State.claimFor, hc, State.claimMake, ho]

end State

/-! ### A turn that ends the pair's business with the pool -/

section Release

variable {s : State} {p : Pair} {tip ring : Int} {r x : PairRecord}

/-- A sample that is not DEAD, on a pair that is not frozen, is a row of the loop table (R36, R52). -/
theorem loopSample_of_fed {now : Nat} {y : PairRecord} {m : PoolMessage} (hf : r.freeze = .unfrozen)
    (hc : r.classMemory ≠ .dead) (hy : loopMachine now r (effectiveClosed r r.classMemory) = (y, m)) :
    loopSample now r r.classMemory = ({ y with feedDead := 0 }, m) := by
  simp [loopSample, hf, hy, countDead, hc]

/-- The state after the record is written and the pair has given up its receiver or its place on the list. -/
def State.released (s : State) (p : Pair) (x : PairRecord) : State :=
  ((s.setPair p x).placeLineEvents p).dropReceiver p

theorem State.servedWell_written (hn : x.receiver = r.receiver)
    (held : ∀ i, r.receiver = some i → (s.receiver i).pair = some p ∧ ∀ w ∈ s.waitList, w.pair ≠ p) :
    ((s.setPair p x).placeLineEvents p).ServedWell p := by
  intro i hi
  simpa using held i (by simpa [hn] using hi)

/-- What the pair's record is after a release. -/
theorem State.pair_released (hn : x.receiver = r.receiver)
    (held : ∀ i, r.receiver = some i → (s.receiver i).pair = some p ∧ ∀ w ∈ s.waitList, w.pair ≠ p) :
    (s.released p x).pair p = { x with receiver := none, check := true } := by
  rw [State.released, State.pair_dropReceiver (State.servedWell_written hn held) (by simp)]
  simp

@[simp] theorem State.released_now (s : State) (p : Pair) (x : PairRecord) : (s.released p x).now = s.now := by
  simp [State.released]
@[simp] theorem State.released_straps (s : State) (p : Pair) (x : PairRecord) : (s.released p x).straps = s.straps := by
  simp [State.released]
@[simp] theorem State.released_entries (s : State) (p : Pair) (x : PairRecord) :
    (s.released p x).entries = s.entries := by
  simp [State.released]

/-- A LINE EVENTS item stands after a release where the list is not empty (R13). -/
theorem State.hasItem_released (hr : s.running = true) (he : x.events ≠ []) :
    (s.released p x).hasItem (.lineEvents p) = true := by
  refine State.hasItem_dropReceiver ?_ p
  rw [State.placeLineEvents, if_neg (by simpa using he)]
  exact State.hasItem_place_same (k := .lineEvents p) (by simpa using hr)

/-- A turn whose sample the pool is told of by a release: beside it only the fault state is evaluated. -/
theorem exec_scanTurn_of_release (h : s.samples p)
    (hr : (s.pair p).sample (senseReading tip) (senseReading ring) = r)
    (hx : loopSample s.now r r.classMemory = (x, .release)) (ha : x.acc = r.acc) (hn : x.receiver = r.receiver)
    (held : ∀ i, r.receiver = some i → (s.receiver i).pair = some p ∧ ∀ w ∈ s.waitList, w.pair ≠ p) :
    exec (.scanTurn p tip ring) s = .next ((s.released p x).evaluateLoop p r.latched) := by
  have record := State.pair_released hn held
  have scans : (((s.released p x).evaluateLoop p r.latched).pair p).acc.scans < 20 := by
    obtain ⟨-, -, -, -, few⟩ := h
    rw [State.evaluateLoop_acc, record]
    show x.acc.scans < 20
    rw [ha, ← hr, sample_scans]
    omega
  have unserved : (((s.released p x).evaluateLoop p r.latched).pair p).receiver = none := by
    rw [(State.SparesPool.evaluateLoop ..).lent, record]
  rw [exec_scanTurn, scanTurn_of_samples h]
  simp only [State.sampleTurn, hr, hx, State.poolMessage]
  rw [← State.released, closeIfFull_of_lt scans, State.noteAudio_of_unserved unserved]

/-- A release at which PERMANENT_LOOP does not change. -/
theorem exec_scanTurn_of_plain_release (h : s.samples p)
    (hr : (s.pair p).sample (senseReading tip) (senseReading ring) = r)
    (hx : loopSample s.now r r.classMemory = (x, .release)) (ha : x.acc = r.acc) (hn : x.receiver = r.receiver)
    (hl : x.latched = r.latched)
    (held : ∀ i, r.receiver = some i → (s.receiver i).pair = some p ∧ ∀ w ∈ s.waitList, w.pair ≠ p) :
    exec (.scanTurn p tip ring) s = .next (s.released p x) := by
  rw [exec_scanTurn_of_release h hr hx ha hn held, State.evaluateLoop_of_same]
  rw [State.pair_released hn held]
  exact hl

end Release

end Sys2Proof.Machine
end

section
/-! PROOFS. The CLOSED samples of OFF_HOOK: the closed run, the digit and LOCKOUT (R39, R42, R45 to R47). -/

namespace Sys2Proof.Machine

section OffHookClosed

variable {now : Nat} {r : PairRecord}

/-- The record of a pair whose break of at most 3 samples, if it is in one, was a hit (R42). -/
def PairRecord.rejoined (r : PairRecord) : PairRecord :=
  { r with loop := .offHook, breakLength := if r.loop = .inBreak then 0 else r.breakLength }

theorem rejoined_of_offHook (h : r.loop = .offHook) : r.rejoined = r := by
  simp only [PairRecord.rejoined, h, reduceCtorEq, if_false]
  rw [← h]

theorem rejoined_append (t : EventType) (v : Nat) : r.rejoined.append now t v =
    { r.append now t v with loop := .offHook, breakLength := if r.loop = .inBreak then 0 else r.breakLength } := by
  unfold PairRecord.append PairRecord.rejoined
  dsimp only
  split <;> rfl

/-- A CLOSED sample in OFF_HOOK, and one that ends a hit, are taken alike (R42). -/
theorem loopMachine_rejoined
    (h : r.loop = .offHook ∨ (r.loop = .inBreak ∧ r.beforeBreak = .offHook ∧ r.breakLength ≤ 3)) :
    loopMachine now r true = offHookClosed now r.rejoined := by
  rcases h with hl | ⟨hl, hb, hn⟩
  · simp only [loopMachine, hl, rejoined_of_offHook hl]
  · simp [loopMachine, hl, hb, endBreak, hn, PairRecord.rejoined]

/-- The event of a completed digit (R39). -/
theorem append_digitEvent (r : PairRecord) (now n : Nat) : r.append now (digitEvent n).1 (digitEvent n).2 =
    if n ≤ 9 then r.append now .digitPulse n
    else if n = 10 then r.append now .digitPulse 0 else r.append now .digitError n := by
  simp only [digitEvent, Nat.lt_succ_iff]
  split
  · rfl
  · split <;> rfl

/-- The thirtieth CLOSED sample with pulses pending completes the digit (R39). -/
theorem offHookClosed_digit (hp : 0 < r.pulseCount) (hc : r.closedRun = 29) : offHookClosed now r =
    ({ r.append now (digitEvent r.pulseCount).1 (digitEvent r.pulseCount).2 with
        closedRun := 30, pulseCount := 0, dialled := true }, .release) := by
  simp only [offHookClosed, hc]
  rw [if_pos ⟨hp, by decide, by decide⟩]
  rfl

/-- The digit is completed at the thirtieth sample alone (R39). -/
theorem no_digit (h : ¬(0 < r.pulseCount ∧ r.closedRun = 29)) :
    ¬(r.pulseCount > 0 ∧ r.closedRun < 30 ∧ min 30 (r.closedRun + 1) = 30) := by
  omega

/-- A CLOSED sample that completes no digit and brings no lockout is counted (R39, R45). -/
theorem offHookClosed_counts (h : ¬(0 < r.pulseCount ∧ r.closedRun = 29))
    (ht : (if r.dialled = true then r.lockoutTimer else r.lockoutTimer + 5) < 30000) : offHookClosed now r =
    ({ r with
        closedRun := min 30 (r.closedRun + 1)
        lockoutTimer := if r.dialled = true then r.lockoutTimer else r.lockoutTimer + 5 }, .silent) := by
  rw [offHookClosed, if_neg (no_digit h)]
  cases hd : r.dialled with
  | true => simp
  | false =>
    have below : r.lockoutTimer + 5 < 30000 := by simpa [hd] using ht
    simp [Nat.min_eq_right below.le, Nat.not_le.2 below]

/-- The append of LOCKOUT does not meet the runs written before it. -/
theorem enterLockout_counted (run timer : Nat) :
    enterLockout now { r with closedRun := run, lockoutTimer := timer } =
      { r.append now .lockout 0 with
        loop := .lockout, closedRun := 0, pulseCount := 0, lockoutTimer := timer
        latched := { r.latched with permanentLoop := true } } := by
  unfold enterLockout PairRecord.append
  split <;> rfl

/-- A lockout timer that reaches 30 s (R45, R46). -/
theorem offHookClosed_lockout (h : ¬(0 < r.pulseCount ∧ r.closedRun = 29)) (hd : r.dialled = false)
    (ht : 29995 ≤ r.lockoutTimer) : offHookClosed now r =
    ({ r.append now .lockout 0 with
        loop := .lockout, closedRun := 0, pulseCount := 0, lockoutTimer := 30000
        latched := { r.latched with permanentLoop := true } }, .release) := by
  have reached : min 30000 (r.lockoutTimer + 5) = 30000 := by omega
  rw [offHookClosed, if_neg (no_digit h), if_neg (by simp [hd])]
  dsimp only
  rw [reached, if_pos (by decide), enterLockout_counted]

end OffHookClosed

/-! ### The turns (O7) -/

section Turns

variable {s : State} {p : Pair} {tip ring : Int} {r : PairRecord}

/-- A CLOSED sample of a pair in OFF_HOOK, or in a break that ends as a hit, as the scan takes it. -/
theorem loopSample_rejoined {now : Nat} {y : PairRecord} {m : PoolMessage} (hf : r.freeze = .unfrozen)
    (hc : r.classMemory = .closed)
    (hl : r.loop = .offHook ∨ (r.loop = .inBreak ∧ r.beforeBreak = .offHook ∧ r.breakLength ≤ 3))
    (hy : offHookClosed now r.rejoined = (y, m)) :
    loopSample now r r.classMemory = ({ y with feedDead := 0 }, m) := by
  have closed : effectiveClosed r r.classMemory = true := by
    rw [effectiveClosed_eq]
    rcases hl with hl | ⟨hl, -⟩ <;> simp [hc, hl]
  exact loopSample_of_fed hf (by simp [hc]) (by rw [closed, loopMachine_rejoined hl, hy])

/-- Settles O7: the release of the pool case by case, and each CLOSED sample as a row of the table; an entry to LOCKOUT is
followed by the evaluation on PERMANENT_LOOP. -/
theorem offHookTurnsAndDigits : Obligations.OffHookTurnsAndDigits := by
  refine ⟨fun s p => ⟨State.dropReceiver_of_unserved, fun i hn hi => ⟨State.dropReceiver_idle hn hi,
    fun q since rest hq hw => State.dropReceiver_head hn hi hw hq⟩⟩, ?counted, ?digit, ?lockout⟩
  case counted =>
    intro s p tip ring h hf r timer hc hl hd ht
    have row := loopSample_rejoined (now := s.now) (r := r) hf hc hl (offHookClosed_counts (r := r.rejoined) hd ht)
    exact exec_scanTurn_of_silent h row rfl rfl
  case digit =>
    intro s p tip ring h hf r hc hl hrun hp held
    have row := loopSample_rejoined (now := s.now) (r := r) hf hc (.inl hl)
      ((congrArg (offHookClosed s.now) (rejoined_of_offHook hl)).trans (offHookClosed_digit hp hrun))
    have turn := exec_scanTurn_of_plain_release h rfl row (by exact PairRecord.append_acc ..)
      (by exact PairRecord.append_receiver ..) (by exact PairRecord.append_latched ..) held
    rw [append_digitEvent] at turn
    exact turn
  case lockout =>
    intro s p tip ring h hf r locked out hc hl hd hdial ht hlatch held
    have row : loopSample s.now r r.classMemory = (locked, .release) := by
      rw [loopSample_rejoined (r := r) hf hc hl (offHookClosed_lockout (r := r.rejoined) hd hdial ht), rejoined_append]
      rfl
    have served : locked.receiver = r.receiver := PairRecord.append_receiver ..
    have turn : exec (.scanTurn p tip ring) s = .next (out.evaluateLoop p r.latched) :=
      exec_scanTurn_of_release h rfl row (PairRecord.append_acc ..) served held
    have record : out.pair p = { locked with receiver := none, check := true } := State.pair_released served held
    have latched : (out.pair p).latched = { r.latched with permanentLoop := true } := by rw [record]
    refine ⟨fun hnone hfault hclaim howned => ?_, fun k hk hfault => ?_⟩
    · have fault : (out.pair p).fault = r.fault := by rw [record]; exact PairRecord.append_fault ..
      have recovery : (out.pair p).recovery = r.recovery := by rw [record]; exact PairRecord.append_recovery ..
      have claim : (out.pair p).claim = r.claim := by rw [record]; exact PairRecord.append_claim ..
      have entered : evaluateFault (out.pair p) (pairClass r.latched) (pairClass (out.pair p).latched) false =
          ({ out.pair p with fault := .faulted, recovery := if r.fault = .recovering then 0 else r.recovery },
            .entered .permanentLoop) := by
        rw [latched, pairClass_permanentLoop hnone, evaluateFault_enters (fault ▸ hfault), fault, recovery]
      have changed : (out.pair p).latched ≠ r.latched := fun e => by
        have := congrArg LatchedSet.permanentLoop (latched.symm.trans e)
        simp [hlatch] at this
      have now : out.now = s.now := by simp [out]
      rw [turn, State.evaluateLoop_of_entered changed entered, now,
        State.claimFor_pending]
      · rfl
      · simp [claim, hclaim]
      · rw [← howned]
        exact State.ownedEntry_pairKey (by simp [out]) (by simp [out])
    · rw [turn, State.evaluateLoop_of_standing]
      · rw [latched, hk, pairClass_setPermanentLoop hk hlatch]
        exact evaluateFault_same (by rw [record]; exact (PairRecord.append_fault ..).trans hfault) _
      · rw [record]
      · exact State.hasItem_released h.1 fun e => PairRecord.append_events_ne_nil r s.now .lockout 0 e

end Turns

end Sys2Proof.Machine
end

section
/-! PROOFS. Seizure and hang-up (R38, R41, R47): the receiver asked for at the eighth CLOSED sample, and given back at the
161st sample of an open loop. -/

namespace Sys2Proof.Machine

/-! ### The request (R58) -/

namespace State

variable {s : State} {p : Pair}

/-- A pair that holds no receiver and does not wait is lent the lowest-numbered IDLE one. -/
theorem requestReceiver_lends (hn : (s.pair p).receiver = none) (hw : ∀ w ∈ s.waitList, w.pair ≠ p) {i : ReceiverNo}
    (hi : (s.receiver i).state = .idle) (hlow : ∀ j : ReceiverNo, j < i → (s.receiver j).state ≠ .idle) :
    s.requestReceiver p = s.lend i p := by
  have found : (List.finRange 4).find? (fun r => (s.receiver r).state == .idle) = some i :=
    find?_finRange (by simp [hi]) fun j hj => by simpa using hlow j hj
  have off : ((s.pair p).receiver.isSome || s.onWaitList p) = false := by simpa [hn, State.onWaitList] using hw
  simp [State.requestReceiver, off, found]

/-- Where no receiver is IDLE the pair waits at the tail. -/
theorem requestReceiver_waits (hn : (s.pair p).receiver = none) (hw : ∀ w ∈ s.waitList, w.pair ≠ p)
    (hbusy : ∀ i : ReceiverNo, (s.receiver i).state ≠ .idle) :
    s.requestReceiver p = { s with waitList := s.waitList ++ [{ pair := p, since := s.now }] } := by
  have found : (List.finRange 4).find? (fun r => (s.receiver r).state == .idle) = none := by simpa using hbusy
  have off : ((s.pair p).receiver.isSome || s.onWaitList p) = false := by simpa [hn, State.onWaitList] using hw
  simp [State.requestReceiver, off, found]

/-- A receiver just lent to a pair that spoils no audio is left as it is lent (R64). -/
theorem noteAudio_lend (h : (s.pair p).spoilsAudio = false) (i : ReceiverNo) :
    (s.lend i p).noteAudio p =
      (s.modPair p fun x => { x with receiver := some i }).setReceiver i (Receiver.lentTo p s.now false) := by
  have record : (s.lend i p).pair p = { s.pair p with receiver := some i, check := true } := by
    rw [State.lend, setReceiver_pair, pair_modPair_same]
  have lent : (s.lend i p).receiver i = Receiver.lentTo p s.now false := by
    rw [State.lend, receiver_setReceiver_same, h]
  have quiet : ((s.lend i p).pair p).spoilsAudio = false := by rw [record]; exact h
  rw [State.noteAudio, record]
  dsimp only
  rw [← record, quiet, lent, State.lend, setReceiver_setReceiver]
  rfl

end State

section Turns

variable {s u : State} {p : Pair} {tip ring : Int} {r x : PairRecord}

/-- A turn whose sample asks for a receiver. -/
theorem exec_scanTurn_of_request (h : s.samples p)
    (hr : (s.pair p).sample (senseReading tip) (senseReading ring) = r)
    (hx : loopSample s.now r r.classMemory = (x, .request))
    (hu : ((s.setPair p x).placeLineEvents p).requestReceiver p = u) (ha : (u.pair p).acc = r.acc)
    (hl : (u.pair p).latched = r.latched) : exec (.scanTurn p tip ring) s = .next (u.noteAudio p) := by
  have scans : (u.pair p).acc.scans < 20 := by
    obtain ⟨-, -, -, -, few⟩ := h
    rw [ha, ← hr, sample_scans]
    omega
  rw [exec_scanTurn, scanTurn_of_samples h]
  simp only [State.sampleTurn, hr, hx, State.poolMessage, hu]
  rw [State.evaluateLoop_of_same hl, closeIfFull_of_lt scans]

/-- A hang-up from a break begun in OFF_HOOK unlatches nothing (R41). -/
theorem hangUp_of_offHook (now : Nat) (h : r.beforeBreak = .offHook) : hangUp now r =
    { r.append now .onhook 0 with loop := .onHook, breakLength := 0, closedRun := 0, pulseCount := 0 } := by
  simp only [hangUp, h]
  rw [← PairRecord.append_latched r now .onhook 0]
  rfl

/-- A hang-up from a break begun in LOCKOUT unlatches PERMANENT_LOOP (R47). -/
theorem hangUp_of_lockout (now : Nat) (h : r.beforeBreak = .lockout) : hangUp now r =
    { r.append now .onhook 0 with
      loop := .onHook, breakLength := 0, closedRun := 0, pulseCount := 0
      latched := { r.latched with permanentLoop := false } } := by
  simp only [hangUp, h]
  rfl

/-- The 161st sample of an open loop as the scan takes it. -/
theorem loopSample_hangsUp {now : Nat} (hf : r.freeze = .unfrozen) (hc : r.classMemory = .openLoop)
    (hl : r.loop = .inBreak) (hb : r.breakLength = 160) :
    loopSample now r r.classMemory = ({ hangUp now r with feedDead := 0 }, .release) := by
  have opened : effectiveClosed r r.classMemory = false := by simp [effectiveClosed, hc]
  exact loopSample_of_fed hf (by simp [hc]) (by rw [opened, loopMachine_inBreak_hangsUp hl hb])

/-- The eighth CLOSED sample as the scan takes it. -/
theorem loopSample_seizes {now : Nat} (hf : r.freeze = .unfrozen) (hc : r.classMemory = .closed)
    (hl : r.loop = .seizePending) (hrun : r.closedRun = 7) :
    loopSample now r r.classMemory = ({ seize now r with feedDead := 0 }, .request) := by
  have closed : effectiveClosed r r.classMemory = true := by simp [effectiveClosed, hc, hl]
  exact loopSample_of_fed hf (by simp [hc]) (by rw [closed, loopMachine_seizePending_seizes hl hrun])

/-- Settles O8: the request at the seizure by the state of the receivers, the release at the hang-up, and the evaluation
that follows where PERMANENT_LOOP is unlatched. -/
theorem seizureAndHangUp : Obligations.SeizureAndHangUp := by
  refine ⟨?seizure, ?hangUp, ?unlatched⟩
  case seizure =>
    intro s p tip ring h hf r seized hc hl hrun hn hw
    have row := loopSample_seizes (now := s.now) (r := r) hf hc hl hrun
    have record : seized.pair p = { seize s.now r with feedDead := 0, check := true } := by
      simp only [seized, State.placeLineEvents_pair, State.pair_setPair_same]
      rfl
    have acc : (seized.pair p).acc = r.acc := by rw [record]; exact PairRecord.append_acc ..
    have latched : (seized.pair p).latched = r.latched := by rw [record]; exact PairRecord.append_latched ..
    have unserved : (seized.pair p).receiver = none := by rw [record]; exact (PairRecord.append_receiver ..).trans hn
    have absent : ∀ w ∈ seized.waitList, w.pair ≠ p := by simpa [seized] using hw
    refine ⟨fun i hi hlow => ?_, fun hbusy => ?_⟩
    · have asked := State.requestReceiver_lends unserved absent (i := i) (by simpa [seized] using hi)
        (by simpa [seized] using hlow)
      have quiet : (seized.pair p).spoilsAudio = false := by
        have freeze : (seized.pair p).freeze = .unfrozen := by rw [record]; exact (PairRecord.append_freeze ..).trans hf
        have loop : (seized.pair p).loop = .offHook := by rw [record]; rfl
        simp [PairRecord.spoilsAudio, loop, freeze]
      rw [exec_scanTurn_of_request h rfl row asked (by simpa [State.lend] using acc)
          (by simpa [State.lend] using latched),
        State.noteAudio_lend quiet]
      simp [Receiver.lentTo, seized]
    · have asked := State.requestReceiver_waits unserved absent (by simpa [seized] using hbusy)
      rw [exec_scanTurn_of_request h rfl row asked acc latched, State.noteAudio_of_unserved (by exact unserved)]
      simp [seized]
  case hangUp =>
    intro s p tip ring h hf r hung idle hc hl hb hlen held
    have row := loopSample_hangsUp (now := s.now) (r := r) hf hc hl hlen
    rw [hangUp_of_offHook s.now hb] at row
    have turn : exec (.scanTurn p tip ring) s = .next (hung.dropReceiver p) :=
      exec_scanTurn_of_plain_release h rfl row (by exact PairRecord.append_acc ..)
        (by exact PairRecord.append_receiver ..) (by exact PairRecord.append_latched ..) held
    refine ⟨turn, fun i hi hw => ?_⟩
    rw [turn, State.dropReceiver_idle (i := i) _ (by simpa [hung] using (held i hi).1) (by simpa [hung] using hw)]
    · rfl
    · simpa [hung] using hi
  case unlatched =>
    intro s p tip ring h hf r rest hung hc hl hb hlen held hlatch hfault out
    have row : loopSample s.now r r.classMemory = (hung, .release) := by
      rw [loopSample_hangsUp (r := r) hf hc hl hlen, hangUp_of_lockout s.now hb]
    have served : hung.receiver = r.receiver := PairRecord.append_receiver ..
    have turn : exec (.scanTurn p tip ring) s = .next (out.evaluateLoop p r.latched) :=
      exec_scanTurn_of_release h rfl row (PairRecord.append_acc ..) served held
    have record : out.pair p = { hung with receiver := none, check := true } := State.pair_released served held
    have latched : (out.pair p).latched = rest := by rw [record]
    have fault : (out.pair p).fault = .faulted := by rw [record]; exact (PairRecord.append_fault ..).trans hfault
    refine ⟨fun hnone => ?_, fun k hk => ?_⟩
    · have changed : (out.pair p).latched ≠ r.latched := fun e => by
        have := congrArg LatchedSet.permanentLoop (latched.symm.trans e)
        simp [rest, hlatch] at this
      rw [turn, State.evaluateLoop_of_quiet changed]
      rw [latched, hnone]
      exact evaluateFault_recovers fault ..
    · have before : pairClass r.latched = some k := by
        have := pairClass_setPermanentLoop hk rfl true
        rwa [show { rest with permanentLoop := true } = r.latched by simp [rest, ← hlatch]] at this
      rw [turn, State.evaluateLoop_of_standing]
      · rw [latched, hk, before]
        exact evaluateFault_same fault _
      · rw [record]
      · exact State.hasItem_released h.1 fun e => PairRecord.append_events_ne_nil r s.now .onhook 0 e

end Turns

end Sys2Proof.Machine
end

section
/-! PROOFS. QUIET and RELEASE at their target, and the release that a station makes of itself (R134, R138 to R140, R144,
R154). -/

namespace Sys2Proof.Machine

namespace State

variable {s seen : State} {p : Pair} {pr : PairNo} {cls : FaultClass} {m : Measurement} {a : Access}

/-! ### The view first (R134, R144) -/

/-- What a QUIET or a RELEASE of a sender makes of the view: a holder loses the lock. -/
def overruled (s : State) (sender : StationNo) : State :=
  if s.bus.view = .mine then s.loseLock (.held sender s.now) else s.setView (.held sender s.now)

theorem noteTestFrame_quiet (s : State) (sender : StationNo) : s.noteTestFrame .quiet sender = s.overruled sender := by
  simp [State.noteTestFrame, overruled]

theorem noteTestFrame_release (s : State) (sender : StationNo) :
    s.noteTestFrame .release sender = s.overruled sender := by
  simp [State.noteTestFrame, overruled]

theorem SparesPool.overruled (s : State) (sender : StationNo) : s.SparesPool (s.overruled sender) := by
  have := SparesPool.changeView s (v := .held sender s.now) nofun
  simpa [State.overruled] using this

theorem overruled_straps (s : State) (sender : StationNo) : (s.overruled sender).straps = s.straps := by
  have : s.Calm (s.overruled sender) := .ite (.loseLock ..) (.setView ..)
  exact this.straps

/-- Nothing is measured after it where nothing was outside MINE (R132, R146). -/
theorem overruled_measurement (h : s.bus.view = .mine ∨ s.unit.measurement = none) (sender : StationNo) :
    (s.overruled sender).unit.measurement = none := by
  unfold overruled
  split
  · obtain ⟨-, idle⟩ := unheld_loseLock s (view := .held sender s.now) nofun
    exact idle
  · next hv => exact h.resolve_left hv

/-- A test-bus frame at its target, once the view is taken. -/
theorem takeTestFrame_at_target {kind : TestBusFrame} {f : RxFrame} (hseen : s.noteTestFrame kind f.sender = seen)
    (ht : f.target = seen.straps.station) : s.takeTestFrame kind f =
      (if seen.running = true then seen.answerTestFrame f.sender (bodyOf (.long (testFrameKind kind)) f.body)
        else seen).settle := by
  simp [State.takeTestFrame, hseen, ht]

/-! ### The answer to a QUIET (R138, R139) -/

theorem stalls_iff {confirmation : Bool} : s.stalls p confirmation cls = true ↔
    (s.pair p).loop = .seizePending ∨ (s.pair p).loop = .offHook ∨ (s.pair p).loop = .inBreak ∨
      (s.pair p).receiver.isSome = true ∨ (s.pair p).freeze ≠ .unfrozen ∨ s.bus.access.isSome = true ∨
      (confirmation = true ∧ ∀ owned : Bool, (s.pair p).claim ≠ .linked cls owned) := by
  have claimed : (match (s.pair p).claim with
      | .linked k _ => k != cls
      | _ => true) = true ↔ ∀ owned : Bool, (s.pair p).claim ≠ .linked cls owned := by
    cases (s.pair p).claim <;> simp
  simp only [State.stalls, State.untestable, Bool.or_eq_true, Bool.and_eq_true, beq_iff_eq, bne_iff_ne, or_assoc]
  exact or_congr .rfl (or_congr .rfl (or_congr .rfl (or_congr .rfl (or_congr .rfl (or_congr .rfl
    (and_congr .rfl claimed))))))

theorem answerQuiet_of_absent (hp : toPair pr = some p) (h : s.service p = .absent) (sender : StationNo)
    (confirmation : Bool) : s.answerQuiet sender pr confirmation cls = s := by
  simp [State.answerQuiet, hp, h]

theorem answerQuiet_of_stall (hp : toPair pr = some p) (h : s.service p ≠ .absent) {confirmation : Bool}
    (hst : s.stalls p confirmation cls = true) (sender : StationNo) :
    s.answerQuiet sender pr confirmation cls = s.drive { noCells with stall := true } := by
  simp [State.answerQuiet, hp, h, hst]

theorem answerQuiet_of_free (hp : toPair pr = some p) (h : s.service p ≠ .absent) {confirmation : Bool}
    (hst : s.stalls p confirmation cls = false) (sender : StationNo) :
    s.answerQuiet sender pr confirmation cls = (s.beginAccess p sender).drive ackCell := by
  simp [State.answerQuiet, hp, h, hst]

/-! ### The end of an access (R140, R154) -/

theorem cutAccess_of_access (h : s.bus.access = some a) : s.cutAccess a.pair =
    ({ s.setPair a.pair (s.pair a.pair).endAccess with bus := { s.bus with access := none } } : State).abandonLocal
      a.pair := by
  simp [State.cutAccess, State.inAccess, h, endAccess_of_some]

/-- An access that is not of the pair being measured here ends alone. -/
theorem abandonLocal_of_elsewhere
    (h : ∀ m, s.unit.measurement = some m → ¬(m.station = s.straps.station ∧ m.pair = pairNo p)) :
    s.abandonLocal p = s := by
  cases hm : s.unit.measurement with
  | none => simp [State.abandonLocal, hm]
  | some m =>
    have := h m hm
    simp only [State.abandonLocal, hm]
    rw [if_neg (by simpa using this)]

theorem abandonLocal_of_run (hm : s.unit.measurement = some m) (hs : m.station = s.straps.station)
    (hp : m.pair = pairNo p) (hr : m.forRun = true) :
    s.abandonLocal p = { s.stopUnit with bus := { s.bus with position := s.bus.position + 1 } } := by
  simp [State.abandonLocal, hm, hs, hp, hr]

theorem abandonLocal_of_test (hm : s.unit.measurement = some m) (hs : m.station = s.straps.station)
    (hp : m.pair = pairNo p) (hr : m.forRun = false) : s.abandonLocal p = s.stopUnit.endTest .abandoned [] := by
  simp [State.abandonLocal, hm, hs, hp, hr]

theorem endTest_of_test {t : UplinkTest} (h : s.bus.test = some t) (outcome : TestOutcome) (legs : List LegRecord) :
    s.endTest outcome legs =
      ({ s with bus := { s.bus with test := some { t with phase := .ended outcome legs } } } : State).place
        .testResult := by
  simp [State.endTest, h]

/-- The release a station makes of itself: the access is cut at its deadline (R140). -/
theorem selfReleaseExpiry_of_access (hr : s.running = true) (h : s.bus.access = some a) : selfReleaseExpiry s =
    ((s.elapseTo (a.began + 3000)).cutAccess a.pair).settleIf (a.holder == s.straps.station) := by
  simp [selfReleaseExpiry, hr, h]

end State

/-! ### The obligation (O22) -/

section Target

variable {s : State} {f : RxFrame} {pr : PairNo}

/-- A QUIET at its target: the lock lost first, then the answer of a station that still runs (R134). -/
theorem exec_quietReceived {confirmation : Bool} {cls : FaultClass} (h : s.hears (.long .quiet) f)
    (ht : f.target = s.straps.station) (hb : bodyOf (.long .quiet) f.body = some (.quiet pr confirmation cls)) :
    let seen := ({ s with abandoned := false, cells := noCells } : State).overruled f.sender
    exec (.quietReceived f) s = .next
      (if seen.running = true then seen.answerQuiet f.sender pr confirmation cls else seen).settle := by
  intro seen
  show Host.Outcome.next (s.receive (.long .quiet) f (State.takeTestFrame .quiet f)) = _
  rw [receive_of_hears h,
    State.takeTestFrame_at_target (State.noteTestFrame_quiet ..) (by rw [State.overruled_straps, ht])]
  simp only [testFrameKind, hb]
  rfl

/-- A RELEASE at its target, as a QUIET. -/
theorem exec_releaseReceived (h : s.hears (.long .release) f) (ht : f.target = s.straps.station)
    (hb : bodyOf (.long .release) f.body = some (.release pr)) :
    let seen := ({ s with abandoned := false, cells := noCells } : State).overruled f.sender
    exec (.releaseReceived f) s = .next (if seen.running = true then seen.answerRelease pr else seen).settle := by
  intro seen
  show Host.Outcome.next (s.receive (.long .release) f (State.takeTestFrame .release f)) = _
  rw [receive_of_hears h,
    State.takeTestFrame_at_target (State.noteTestFrame_release ..) (by rw [State.overruled_straps, ht])]
  simp only [testFrameKind, hb]
  rfl

/-- Settles O22: the view is taken first, and the answer is one equation for each case; an access ends alone or with the
measurement made over it. -/
theorem accessAtTarget : Obligations.AccessAtTarget := by
  refine ⟨?quiet, ?release, ?selfRelease⟩
  case quiet =>
    intro s f pr confirmation cls h ht hb read seen
    have spared : s.SparesPool seen :=
      .after (.overruled read f.sender) (.of_agreed rfl)
    have exec_eq : exec (.quietReceived f) s = .next
        (if seen.running = true then seen.answerQuiet f.sender pr confirmation cls else seen).settle :=
      exec_quietReceived h ht hb
    refine ⟨fun hnone => ?_, fun p hp hr => ?_⟩
    · rcases hnone with hp | hr
      · rw [exec_eq]
        simp [State.answerQuiet, hp]
      · rw [exec_eq, if_neg (by simp [hr])]
    · intro r stalled
      have service : seen.service p = s.service p := by simp only [State.service, spared.services]
      have stalls : seen.stalls p confirmation cls = true ↔ stalled := State.stalls_iff
      rw [exec_eq, if_pos hr, ← service]
      refine ⟨fun hs => ?_, fun hs hst => ?_, fun hs hst => ?_⟩
      · rw [State.answerQuiet_of_absent hp hs]
      · rw [State.answerQuiet_of_stall hp hs (stalls.2 hst), drive_running _ hr]
      · rw [State.answerQuiet_of_free hp hs (by simpa using mt stalls.1 hst), drive_running _ (by simpa using hr),
          ← spared.now]
        rfl
  case release =>
    intro s f pr h ht hm hb read viewed seen
    have exec_eq : exec (.releaseReceived f) s = .next
        (if viewed.running = true then viewed.answerRelease pr else viewed).settle :=
      exec_releaseReceived h ht hb
    refine ⟨fun hr => ?_, fun hr => ?_⟩
    · rw [exec_eq, if_neg (by simp [hr]), State.settle_of_not_active]
      simp [State.running] at hr
      exact hr.2
    · have answered : viewed.answerRelease pr = match toPair pr with
          | none => seen
          | some p => seen.cutAccess p := by
        rw [State.answerRelease, drive_running _ hr]
        rfl
      rw [exec_eq, if_pos hr, answered]
      refine ⟨fun hother => ?_, fun a ha hp => ?_⟩
      · cases hp : toPair pr with
        | none => rfl
        | some p =>
          have off : seen.inAccess p = false := by
            simp only [State.inAccess, beq_eq_false_iff_ne, ne_eq, Option.map_eq_some_iff, not_exists, not_and]
            exact fun a ha e => hother a ha (e ▸ hp)
          dsimp only
          rw [State.cutAccess_of_no_access off]
      · have idle : viewed.unit.measurement = none := State.overruled_measurement (s := read) hm f.sender
        rw [hp]
        dsimp only
        rw [State.cutAccess_of_access ha, State.abandonLocal_of_elsewhere]
        · rfl
        · exact fun m hm => absurd (hm.symm.trans idle) (Option.some_ne_none m)
  case selfRelease =>
    intro s a hr ha freed stopped elsewhere
    have exec_eq : exec .selfReleaseExpiry s =
        .next ((freed.abandonLocal a.pair).settleIf (a.holder == s.straps.station)) := by
      show Host.Outcome.next (selfReleaseExpiry s) = _
      rw [State.selfReleaseExpiry_of_access hr ha, State.cutAccess_of_access (by exact ha)]
      rfl
    refine ⟨fun hh he => ?_, fun hh he => ?_, fun m hh hm hs hp => ?_⟩
    · rw [exec_eq, State.abandonLocal_of_elsewhere (s := freed) he]
      simp [State.settleIf, hh]
    · rw [exec_eq, State.abandonLocal_of_elsewhere (s := freed) he]
      simp [State.settleIf, hh]
    · have settled (t : State) : t.settleIf (a.holder == s.straps.station) = t.settle := by simp [State.settleIf, hh]
      refine ⟨fun hrun => ?_, fun p hrun htest => ?_⟩
      · rw [exec_eq, settled, State.abandonLocal_of_run (s := freed) hm hs hp hrun]
        rfl
      · rw [exec_eq, settled, State.abandonLocal_of_test (s := freed) hm hs hp hrun,
          State.endTest_of_test (s := freed.stopUnit) htest]
        rfl

end Target

end Sys2Proof.Machine
end

section
/-! PROOFS. The tone receivers' decision: the energies of a block (R65, R66), the strongest of four (R67), the four
tests (R68), and a receiver at a block's completion (R69 to R71). -/

namespace Sys2Proof.Machine

/-! ### The energies of a block (R65, R66) -/

/-- The coefficients of the eight frequencies, cosines and sines, as the filter bank holds them. -/
def coefficientTables : List (List Int) := (rowBanks ++ columnBanks).flatMap fun b => [b.1, b.2]

theorem coefficientTables_bounded : ∀ cs ∈ coefficientTables, cs.length = 80 ∧ ∀ c ∈ cs, -4096 ≤ c ∧ c ≤ 4096 := by
  decide

theorem length_of_mem_banks {b : List Int × List Int} (hb : b ∈ rowBanks ++ columnBanks) :
    b.1.length = 80 ∧ b.2.length = 80 :=
  have table (cs : List Int) (hcs : cs ∈ [b.1, b.2]) : cs.length = 80 :=
    (coefficientTables_bounded cs (List.mem_flatMap.2 ⟨b, hb, hcs⟩)).1
  ⟨table b.1 (by simp), table b.2 (by simp)⟩

/-- A correlation is a sum over the 80 places of a block. -/
theorem correlate_eq_sum {cs xs : List Int} {n : Nat} (hx : xs.length = n) (hc : cs.length = n) :
    correlate cs xs = ((List.range n).map fun i => xs.getD i 0 * cs.getD i 0).sum := by
  refine congrArg List.sum (List.ext_getElem (by simp [hx, hc]) fun i hi _ => ?_)
  have places : i < xs.length ∧ i < cs.length := by simpa using hi
  simp [places]

/-- The total energy is formed from a block's correlation with itself. -/
theorem totalEnergy_eq_correlate (xs : List Int) : totalEnergy xs = saturate ((correlate xs xs).toNat * 5 / 2048) := by
  simp only [totalEnergy, correlate, List.zipWith_self, sq]

theorem toneEnergy_of_correlate {cs sn xs : List Int} {a b : Int} (ha : correlate cs xs = a)
    (hb : correlate sn xs = b) :
    toneEnergy (cs, sn) xs = min 65535 ((a * a + b * b).toNat / 2 ^ 38) := by
  simp only [toneEnergy, ha, hb, saturate, sq]

/-! ### The strongest of four (R67) -/

theorem strongest_energy (e0 e1 e2 e3 : Nat) :
    (strongest [e0, e1, e2, e3]).1 = max (max (max e0 e1) e2) e3 := by
  simp [strongest]

theorem le_strongest (e0 e1 e2 e3 : Nat) : ∀ e ∈ [e0, e1, e2, e3], e ≤ (strongest [e0, e1, e2, e3]).1 := by
  simp only [strongest_energy, List.forall_mem_cons, List.not_mem_nil, false_implies, implies_true, and_true]
  omega

/-- One of the four places holds the largest energy. -/
theorem exists_place_of_strongest (e0 e1 e2 e3 : Nat) :
    ∃ i : Fin 4, [e0, e1, e2, e3][i.val]? = some (strongest [e0, e1, e2, e3]).1 := by
  have held : (strongest [e0, e1, e2, e3]).1 ∈ [e0, e1, e2, e3] := by
    simp only [strongest_energy, List.mem_cons, List.not_mem_nil, or_false]
    omega
  obtain ⟨i, hi, place⟩ := List.getElem_of_mem held
  exact ⟨⟨i, hi⟩, List.getElem?_eq_some_iff.2 ⟨hi, place⟩⟩

/-- The place of the strongest is the lowest of those that hold the largest energy. -/
theorem strongest_place {es : List Nat} {i : Fin 4} (hi : es[i.val]? = some (strongest es).1)
    (hlow : ∀ j < i, es[j.val]? ≠ some (strongest es).1) : (strongest es).2 = i := by
  have found : (List.finRange 4).find? (fun j => es[j.val]? == some (strongest es).1) = some i :=
    find?_finRange (by simpa using hi) fun j hj => by simpa using hlow j hj
  exact congrArg (Option.getD · 0) found

/-! ### The four tests (R68) -/

theorem isPure_iff (es : List Nat) (best : Fin 4) (top : Nat) :
    isPure es best top = true ↔ ∀ i : Fin 4, i ≠ best → 8 * es.getD i.val 0 ≤ top := by
  simp [isPure, or_iff_not_imp_left]

theorem judge_eq_some_iff (e : Energies) (r c : Fin 4) : judge e = some (r, c) ↔
    r = (strongest e.rows).2 ∧ c = (strongest e.columns).2 ∧ 24 ≤ (strongest e.rows).1 ∧ 24 ≤ (strongest e.columns).1 ∧
      isPure e.rows r (strongest e.rows).1 = true ∧ isPure e.columns c (strongest e.columns).1 = true ∧
      (strongest e.rows).1 ≤ 6 * (strongest e.columns).1 ∧ (strongest e.columns).1 ≤ 3 * (strongest e.rows).1 ∧
      3 * e.total ≤ 4 * ((strongest e.rows).1 + (strongest e.columns).1) := by
  unfold judge
  dsimp only
  constructor
  · intro h
    split at h
    · next passed =>
      obtain ⟨rfl, rfl⟩ := Prod.mk.inj (Option.some.inj h)
      exact ⟨rfl, rfl, passed⟩
    · cases h
  · rintro ⟨rfl, rfl, passed⟩
    exact if_pos passed

/-! ### A receiver at a block's completion (R69 to R71) -/

/-- The digits of R69, row by row. -/
theorem toneDigit_eq (rc : Fin 4 × Fin 4) : toneDigit rc =
    [[1, 2, 3, 12], [4, 5, 6, 13], [7, 8, 9, 14], [10, 0, 11, 15]].flatten.getD (4 * rc.1.val + rc.2.val) 0 := by
  revert rc
  decide

section Block

variable {x : Receiver} {rc : Fin 4 × Fin 4} {v : Option (Fin 4 × Fin 4)}

theorem receiverBlock_listen_valid (h : x.state = .listen) :
    receiverBlock x (some rc) = ({ x with state := .candidate, candidate := some rc, run := 1 }, none) := by
  simp only [receiverBlock, h]

theorem receiverBlock_listen_invalid (h : x.state = .listen) : receiverBlock x none = (x, none) := by
  simp only [receiverBlock, h]

theorem receiverBlock_candidate_counts (h : x.state = .candidate) (hc : x.candidate = some rc) (hr : x.run < 3) :
    receiverBlock x (some rc) = ({ x with run := x.run + 1 }, none) := by
  simp [receiverBlock, h, hc, show ¬ 3 ≤ x.run by omega]

theorem receiverBlock_candidate_reports (h : x.state = .candidate) (hc : x.candidate = some rc) (hr : x.run = 3) :
    receiverBlock x (some rc) = ({ x with state := .toneOn, run := 0 }, some (toneDigit rc)) := by
  simp [receiverBlock, h, hc, hr]

theorem receiverBlock_candidate_other (h : x.state = .candidate) (hc : x.candidate ≠ some rc) :
    receiverBlock x (some rc) = ({ x with candidate := some rc, run := 1 }, none) := by
  simp [receiverBlock, h, hc]

theorem receiverBlock_candidate_invalid (h : x.state = .candidate) :
    receiverBlock x none = ({ x with state := .listen, candidate := none, run := 0 }, none) := by
  simp only [receiverBlock, h]

theorem receiverBlock_toneOn_held (h : x.state = .toneOn) (hc : x.candidate = some rc) :
    receiverBlock x (some rc) = (x, none) := by
  simp [receiverBlock, h, hc]

theorem receiverBlock_toneOn_other (h : x.state = .toneOn) (hc : x.candidate = some rc) (hv : v ≠ some rc) :
    receiverBlock x v = ({ x with state := .ending, run := 1 }, none) := by
  simp [receiverBlock, h, hc, hv]

theorem receiverBlock_ending_held (h : x.state = .ending) (hc : x.candidate = some rc) :
    receiverBlock x (some rc) = ({ x with state := .toneOn, run := 0 }, none) := by
  simp [receiverBlock, h, hc]

theorem receiverBlock_ending_counts (h : x.state = .ending) (hc : x.candidate = some rc) (hv : v ≠ some rc)
    (hr : x.run < 2) : receiverBlock x v = ({ x with run := x.run + 1 }, none) := by
  simp [receiverBlock, h, hc, hv, show ¬ 2 ≤ x.run by omega]

theorem receiverBlock_ending_ends (h : x.state = .ending) (hc : x.candidate = some rc) (hv : v ≠ some rc)
    (hr : x.run = 2) : receiverBlock x v = ({ x with state := .listen, candidate := none, run := 0 }, none) := by
  simp [receiverBlock, h, hc, hv, hr]

end Block

/-! ### The obligation (O14) -/

/-- Settles O14: the correlations as sums over the 80 places, the strongest of four as the lowest place of the largest,
and one equation of a receiver's block for each state and verdict. -/
theorem toneDecision : Obligations.ToneDecision := by
  refine ⟨?energies, coefficientTables_bounded, ?strongest, ?tests, ?seeking, ?holding⟩
  case energies =>
    intro xs hx sum energy
    have bank : ∀ b ∈ rowBanks ++ columnBanks, toneEnergy b xs = energy b.1 b.2 := fun b hb =>
      have ⟨hc, hs⟩ := length_of_mem_banks hb
      toneEnergy_of_correlate (correlate_eq_sum hx hc) (correlate_eq_sum hx hs)
    have rows : (rowBanks.map fun b => toneEnergy b xs) = rowBanks.map fun b => energy b.1 b.2 :=
      List.map_congr_left fun b hb => bank b (List.mem_append_left _ hb)
    have columns : (columnBanks.map fun b => toneEnergy b xs) = columnBanks.map fun b => energy b.1 b.2 :=
      List.map_congr_left fun b hb => bank b (List.mem_append_right _ hb)
    have total : totalEnergy xs = min 65535 ((sum xs).toNat * 5 / 2048) := by
      rw [totalEnergy_eq_correlate, correlate_eq_sum hx hx, saturate]
    rw [blockEnergies, rows, columns, total]
    rfl
  case strongest =>
    intro e0 e1 e2 e3 es x
    refine ⟨le_strongest e0 e1 e2 e3, ?_⟩
    obtain ⟨i, hi, least⟩ := wellFounded_lt.has_min {i : Fin 4 | es[i.val]? = some x.1}
      (exists_place_of_strongest e0 e1 e2 e3)
    have place : x.2 = i := strongest_place hi fun j hj held => least j held hj
    rw [place]
    exact ⟨hi, fun j held => not_lt.1 (least j held)⟩
  case tests =>
    intro r0 r1 r2 r3 c0 c1 c2 c3 total r c rows cols er ec
    simp only [judge_eq_some_iff, isPure_iff]
    rfl
  case seeking =>
    intro x rc rc' other
    refine ⟨receiverBlock_listen_valid, receiverBlock_listen_invalid, receiverBlock_candidate_counts, fun h hc hr => ?_,
      fun h hc => receiverBlock_candidate_other h (by simpa [hc] using other), receiverBlock_candidate_invalid⟩
    rw [← toneDigit_eq]
    exact receiverBlock_candidate_reports h hc hr
  case holding =>
    intro x rc v hc
    refine ⟨?_, fun h => receiverBlock_toneOn_other h hc, ?_, fun h => receiverBlock_ending_counts h hc,
      fun h => receiverBlock_ending_ends h hc⟩
    · rintro h rfl
      exact receiverBlock_toneOn_held h hc
    · rintro h rfl
      exact receiverBlock_ending_held h hc

end Sys2Proof.Machine
end

section
/-! PROOFS. A completed block at a lent receiver: the digit reported, the receiver alone moved, or the block discarded
(R61, R63, R64, R70 to R72). -/

namespace Sys2Proof.Machine

theorem exec_toneBlockComplete (i : ReceiverNo) (samples : Vector Int 80) (s : State) :
    exec (.toneBlockComplete i samples) s = .next (toneBlock i samples s) := rfl

/-! ### The receiver (R70, R71) -/

/-- No digit is reported but at the fourth consecutive valid block of a CANDIDATE. -/
theorem receiverBlock_reports_none {x : Receiver} {v : Option (Fin 4 × Fin 4)}
    (h : v.isNone = true ∨ x.state ≠ .candidate ∨ x.candidate ≠ v ∨ x.run < 3) : (receiverBlock x v).2 = none := by
  cases hs : x.state with
  | idle => simp [receiverBlock, hs]
  | listen => cases v <;> simp [receiverBlock, hs]
  | candidate =>
    cases v with
    | none => rw [receiverBlock_candidate_invalid hs]
    | some rc =>
      by_cases hc : x.candidate = some rc
      · rw [receiverBlock_candidate_counts hs hc (by simpa [hs, hc] using h)]
      · rw [receiverBlock_candidate_other hs hc]
  | toneOn =>
    simp only [receiverBlock, hs]
    split <;> rfl
  | ending =>
    simp only [receiverBlock, hs]
    (repeat' split) <;> rfl

theorem receiverBlock_spoiled (x : Receiver) (v : Option (Fin 4 × Fin 4)) :
    (receiverBlock x v).1.spoiled = x.spoiled := by
  unfold receiverBlock
  (repeat' split) <;> rfl

theorem spoilsAudio_eq_false_iff {r : PairRecord} :
    r.spoilsAudio = false ↔ r.loop ≠ .inBreak ∧ r.freeze = .unfrozen := by
  simp [PairRecord.spoilsAudio]

namespace State

variable {s : State} {i : ReceiverNo} {p : Pair} {samples : Vector Int 80}

/-! ### Whether a block is judged (R61) -/

theorem justLent_eq_true {a : Nat} (h : (s.receiver i).assigned = some a) (ha : s.now ≤ a) : s.justLent i = true := by
  simp [State.justLent, h, ha]

theorem justLent_eq_false (h : ∀ a, (s.receiver i).assigned = some a → a < s.now) : s.justLent i = false := by
  unfold State.justLent
  split
  · next a ha => simpa using h a ha
  · rfl

theorem toneBlock_of_justLent (h : s.justLent i = true) : toneBlock i samples s = s := by
  simp [toneBlock, h]

theorem toneBlock_of_lent (hr : s.running = true) (hp : (s.receiver i).pair = some p) (h : s.justLent i = false) :
    toneBlock i samples s = s.completeBlock i p samples.toList := by
  simp [toneBlock, hr, h, hp]

/-! ### The block judged (R63, R64, R72) -/

/-- What the pair's state at the end of a block and the receiver's mark leave of the verdict on it (R64). -/
def verdictOn (s : State) (i : ReceiverNo) (p : Pair) (xs : List Int) : Option (Fin 4 × Fin 4) :=
  if (s.receiver i).spoiled || (s.pair p).spoilsAudio then none else Machine.judge (blockEnergies (xs.map audioSample))

theorem verdictOn_of_clean (hx : (s.receiver i).spoiled = false) (hp : (s.pair p).spoilsAudio = false) (xs : List Int) :
    s.verdictOn i p xs = Machine.judge (blockEnergies (xs.map audioSample)) := by
  simp [verdictOn, hx, hp]

theorem verdictOn_of_spoiled (h : (s.receiver i).spoiled = true ∨ (s.pair p).spoilsAudio = true) (xs : List Int) :
    s.verdictOn i p xs = none := by
  rcases h with h | h <;> simp [verdictOn, h]

/-- A block without a digit moves the receiver alone. -/
theorem completeBlock_of_no_digit {v : Option (Fin 4 × Fin 4)} {xs : List Int} (hv : s.verdictOn i p xs = v)
    (h : (receiverBlock (s.receiver i) v).2 = none) : s.completeBlock i p xs =
      s.setReceiver i { (receiverBlock (s.receiver i) v).1 with spoiled := (s.pair p).spoilsAudio } := by
  unfold verdictOn at hv
  simp only [State.completeBlock, hv, h]

/-- A write of a record and an append to its list are one write (R2, R9). -/
theorem modPair_appendEvent (s : State) (p : Pair) (f : PairRecord → PairRecord) (t : EventType) (v : Nat) :
    (s.modPair p f).appendEvent p t v = (s.modPair p fun r => (f r).append s.now t v).placeLineEvents p := by
  simp only [State.appendEvent, State.modPair, setPair_setPair, setPair_now, pair_setPair_same,
    PairRecord.append_setCheck]
  rfl

/-- A digit's report: the last-digit time, the dialled flag and DIGIT_TONE in one step (R72). -/
theorem reportDigit_setReceiver (s : State) (i : ReceiverNo) (p : Pair) (y : Receiver) (digit : Nat) :
    (s.setReceiver i y).reportDigit i p digit =
      ((s.setReceiver i { y with lastDigit := some s.now }).modPair p fun r =>
        ({ r with dialled := true } : PairRecord).append s.now .digitTone digit).placeLineEvents p := by
  rw [State.reportDigit, modPair_appendEvent, receiver_setReceiver_same, setReceiver_setReceiver]
  rfl

theorem completeBlock_of_digit {v : Option (Fin 4 × Fin 4)} {xs : List Int} {y : Receiver} {digit : Nat}
    (hv : s.verdictOn i p xs = v) (h : receiverBlock (s.receiver i) v = (y, some digit)) : s.completeBlock i p xs =
      (s.setReceiver i { y with spoiled := (s.pair p).spoilsAudio }).reportDigit i p digit := by
  unfold verdictOn at hv
  simp only [State.completeBlock, hv, h]

end State

/-! ### The obligation (O15) -/

/-- Settles O15: whether the block is judged, what R64 leaves of its verdict, and whether the receiver reports. -/
theorem toneBlocks : Obligations.ToneBlocks := by
  intro s i p samples hr hp x still verdict
  have clean_iff : (s.pair p).spoilsAudio = false ↔ still := spoilsAudio_eq_false_iff
  refine ⟨fun a ha hnow => ?atAssignment, fun later => ?judged⟩
  case atAssignment =>
    rw [exec_toneBlockComplete, State.toneBlock_of_justLent (State.justLent_eq_true ha hnow)]
  case judged =>
    rw [exec_toneBlockComplete, State.toneBlock_of_lent hr hp (State.justLent_eq_false later)]
    refine ⟨fun rc hstill hx hv hs hc hrun => ?digit, fun hstill hx hnone => ?moved, fun hstill hx => ?marked,
      fun hstill => ?disturbed⟩
    case digit =>
      have clean := clean_iff.2 hstill
      rw [State.completeBlock_of_digit ((State.verdictOn_of_clean hx clean _).trans hv)
        (receiverBlock_candidate_reports hs hc hrun), clean, ← hx, State.reportDigit_setReceiver]
    case moved =>
      have clean := clean_iff.2 hstill
      rw [State.completeBlock_of_no_digit (State.verdictOn_of_clean hx clean _) (receiverBlock_reports_none hnone),
        clean, ← hx, ← receiverBlock_spoiled x verdict]
    case marked =>
      rw [State.completeBlock_of_no_digit (State.verdictOn_of_spoiled (.inl hx) _)
        (receiverBlock_reports_none (.inl rfl)), clean_iff.2 hstill]
    case disturbed =>
      have spoils : (s.pair p).spoilsAudio = true := by simpa using mt clean_iff.1 hstill
      rw [State.completeBlock_of_no_digit (State.verdictOn_of_spoiled (.inr spoils) _)
        (receiverBlock_reports_none (.inl rfl)), spoils]

end Sys2Proof.Machine
end

section
/-! PROOFS. The digit-pause and no-digit timers (R61): a receiver released goes IDLE or to the head of the wait list
(R62). -/

namespace Sys2Proof.Machine

theorem exec_digitPauseExpiry (i : ReceiverNo) (s : State) :
    exec (.digitPauseExpiry i) s = .next (digitPause i s) := rfl

theorem exec_noDigitExpiry (i : ReceiverNo) (s : State) : exec (.noDigitExpiry i) s = .next (noDigit i s) := rfl

namespace State

variable {s : State} {i : ReceiverNo} {p : Pair}

/-! ### The release by the receiver's own record (R62) -/

theorem releaseReceiver_idle (hi : (s.receiver i).pair = some p) (hw : s.waitList = []) :
    s.releaseReceiver i = (s.modPair p fun x => { x with receiver := none }).setReceiver i Receiver.idle := by
  rw [releaseReceiver_of_served hi, passOn_idle (by exact hw)]

theorem releaseReceiver_head (hi : (s.receiver i).pair = some p) {w : Waiting} {rest : List Waiting}
    (hw : s.waitList = w :: rest) (hp : w.pair ≠ p) :
    s.releaseReceiver i =
      ((({ s.modPair p fun x => { x with receiver := none } with waitList := rest } : State).modPair w.pair fun x =>
        ({ x with receiver := some i } : PairRecord).append s.now .receiverLate
          (min 15 ((s.now - w.since) / 1000))).setReceiver i
        (Receiver.lentTo w.pair s.now (s.pair w.pair).spoilsAudio)).placeLineEvents w.pair := by
  have other : (s.modPair p fun x => { x with receiver := none }).pair w.pair = s.pair w.pair :=
    pair_modPair_ne _ _ _ _ hp
  rw [releaseReceiver_of_served hi, passOn_head (by exact hw), lend_appendEvent, ← other]
  rfl

/-! ### The two timers (R61) -/

theorem digitPause_of_met {d : Nat} (h : (s.receiver i).lastDigit = some d) (hd : s.now ≤ d) : digitPause i s = s := by
  simp [digitPause, h, hd]

theorem digitPause_of_due {d : Nat} (hr : s.running = true) (h : (s.receiver i).lastDigit = some d) (hd : d < s.now) :
    digitPause i s = (s.elapseTo (d + 5000)).releaseReceiver i := by
  simp [digitPause, hr, h, hd]

theorem noDigit_of_met {a : Nat} (hn : (s.receiver i).lastDigit = none) (h : (s.receiver i).assigned = some a)
    (ha : s.now ≤ a) : noDigit i s = s := by
  simp [noDigit, hn, h, ha]

theorem noDigit_of_due {a : Nat} (hr : s.running = true) (hn : (s.receiver i).lastDigit = none)
    (h : (s.receiver i).assigned = some a) (ha : a < s.now) :
    noDigit i s = (s.elapseTo (a + 20000)).releaseReceiver i := by
  simp [noDigit, hr, hn, h, ha]

end State

/-! ### The obligation (O16) -/

/-- Settles O16: either timer that is due is the same release at the moment it runs out. -/
theorem receiverTimersRelease : Obligations.ReceiverTimersRelease := by
  intro s i p hr hp
  refine ⟨fun d h hd => ?digitMet, fun a hn h ha => ?assignmentMet, ?due⟩
  case digitMet => rw [exec_digitPauseExpiry, State.digitPause_of_met h hd]
  case assignmentMet => rw [exec_noDigitExpiry, State.noDigit_of_met hn h ha]
  case due =>
    intro t c due now freed
    have released : exec c s = .next ((s.elapseTo t).releaseReceiver i) := by
      rcases due with ⟨rfl, d, h, hd, rfl⟩ | ⟨rfl, hn, a, h, ha, rfl⟩
      · rw [exec_digitPauseExpiry, State.digitPause_of_due hr h hd]
      · rw [exec_noDigitExpiry, State.noDigit_of_due hr hn h ha]
    have served : ((s.elapseTo t).receiver i).pair = some p := hp
    refine ⟨fun hw => ?_, fun q since rest hq hw => ?_⟩
    · rw [released, State.releaseReceiver_idle served hw]
      rfl
    · rw [released, State.releaseReceiver_head served hw hq]
      rfl

end Sys2Proof.Machine
end

section
/-! PROOFS. What the claim logic holds of one pair (R84, R85, R89, R114, R116): its service, its claim state, the claim
tags it holds and its FAULT CLAIM items, read together as the pair's standing. `ClaimsOk` says of each pair's standing that
it is sound; what each write of the claim logic makes of a standing is said here once. -/

namespace Sys2Proof.Machine

/-- What the claim logic holds of one pair. -/
structure Standing where
  service : Service
  claim : ClaimState
  tags : List (Tag × FaultClass)
  items : List Item

namespace Standing

/-- A FAULT CLAIM item that is not withdrawn stands. -/
def stands (x : Standing) : Bool := x.items.any fun i => !i.withdrawn

/-- What the claim state says of the tag and of the item (R84, R85, R89, R114, R116). -/
def Agrees (x : Standing) : Prop :=
  match x.claim with
  | .pending => x.tags ≠ [] ∧ x.stands = true
  | .deferred t => x.tags.head?.map Prod.fst = some t ∧ x.stands = false
  | .linked _ false => x.tags ≠ [] ↔ x.stands = true
  | .linked _ true => x.tags = [] ∧ x.stands = false
  | .unclaimed => x.tags = [] ∧ x.stands = false
  | .heldOff => x.tags = [] ∧ x.stands = false

/-- A frame that is out and not superseded carries the tag held (R84, R85). -/
def Carries (x : Standing) (i : Item) : Prop :=
  ∀ key pr tag renew, i.content = some (.faultClaim key pr tag renew) → i.superseded = false → i.withdrawn = false →
    x.tags.head? = some (tag.toFin, key.cls)

/-- A standing is sound: an unequipped pair has no claim, at most one tag and one item stand, and they agree. -/
structure Ok (x : Standing) : Prop where
  unequipped : x.service ≠ .equipped → x.claim = .unclaimed
  oneTag : x.tags.length ≤ 1
  oneItem : x.items.length ≤ 1
  carries : ∀ i ∈ x.items, x.Carries i
  agrees : x.Agrees

/-- Nothing of a claim is held: no tag, and no item but a withdrawn one whose frame is out. -/
structure Bare (x : Standing) : Prop where
  noTag : x.tags = []
  oneItem : x.items.length ≤ 1
  withdrawn : ∀ i ∈ x.items, i.withdrawn = true

theorem stands_eq_false {x : Standing} : x.stands = false ↔ ∀ i ∈ x.items, i.withdrawn = true := by
  simp [stands]

theorem Ok.equipped {x : Standing} (h : x.Ok) (hc : x.claim ≠ .unclaimed) : x.service = .equipped :=
  by_contra fun hs => hc (h.unequipped hs)

theorem carries_of_withdrawn {x : Standing} {i : Item} (h : i.withdrawn = true) : x.Carries i :=
  fun _ _ _ _ _ _ hw => absurd (h.symm.trans hw) (by simp)

theorem carries_of_unbuilt {x : Standing} {i : Item} (h : i.content = none) : x.Carries i :=
  fun _ _ _ _ hb => absurd (h.symm.trans hb) (by simp)

theorem carries_of_superseded {x : Standing} {i : Item} (h : i.content.isSome → i.superseded = true) : x.Carries i :=
  fun _ _ _ _ hb hs => absurd ((h (by simp [hb])).symm.trans hs) (by simp)

/-- A standing in which nothing is held is sound in every claim state but PENDING and DEFERRED (R84, R89). -/
theorem Bare.ok {x : Standing} (h : x.Bare) (hs : x.service ≠ .equipped → x.claim = .unclaimed)
    (hp : x.claim ≠ .pending) (hd : ∀ t, x.claim ≠ .deferred t) : x.Ok := by
  have none := stands_eq_false.2 h.withdrawn
  refine ⟨hs, by simp [h.noTag], h.oneItem, fun i hi => carries_of_withdrawn (h.withdrawn i hi), ?_⟩
  unfold Agrees
  split
  · next hc => exact absurd hc hp
  · next hc => exact absurd hc (hd _)
  · simp [h.noTag, none]
  all_goals exact ⟨h.noTag, none⟩

/-- A sound pair with no claim, held off, or LINKED to an incident owned here holds nothing. -/
theorem Ok.bare {x : Standing} (h : x.Ok)
    (hc : x.claim = .unclaimed ∨ x.claim = .heldOff ∨ ∃ cls, x.claim = .linked cls true) : x.Bare := by
  have agrees := h.agrees
  obtain hc | hc | ⟨cls, hc⟩ := hc <;> simp only [Agrees, hc] at agrees <;>
    exact ⟨agrees.1, h.oneItem, stands_eq_false.1 agrees.2⟩

/-- A sound DEFERRED pair has no item that stands (R114). -/
theorem Ok.withdrawn_of_deferred {x : Standing} {t : Tag} (h : x.Ok) (hc : x.claim = .deferred t) :
    ∀ i ∈ x.items, i.withdrawn = true := by
  have agrees := h.agrees
  simp only [Agrees, hc] at agrees
  exact stands_eq_false.1 agrees.2

end Standing

namespace State

/-! ### The standing of a pair -/

/-- The class that a place of the tag table is held for by a pair, if the pair holds it (R84). -/
def heldBy (p : Pair) (x : Option TagHolder) : Option FaultClass :=
  (x.filter fun h => h.pair == p).map TagHolder.cls

/-- The tags a pair holds, with the classes they are held for, in ascending order (R84). -/
def heldTags (s : State) (p : Pair) : List (Tag × FaultClass) :=
  (List.finRange 32).filterMap fun t => (heldBy p (s.tags.get t)).map (t, ·)

/-- The FAULT CLAIM items of a pair: in a queue in order at most one (R104). -/
def claimItems (s : State) (p : Pair) : List Item := s.queue.filter fun x => itemRef x.kind == .faultClaim p

def standing (s : State) (p : Pair) : Standing :=
  { service := s.service p, claim := (s.pair p).claim, tags := s.heldTags p, items := s.claimItems p }

@[simp] theorem standing_service (s : State) (p : Pair) : (s.standing p).service = s.service p := rfl
@[simp] theorem standing_claim (s : State) (p : Pair) : (s.standing p).claim = (s.pair p).claim := rfl
@[simp] theorem standing_tags (s : State) (p : Pair) : (s.standing p).tags = s.heldTags p := rfl
@[simp] theorem standing_items (s : State) (p : Pair) : (s.standing p).items = s.claimItems p := rfl

@[simp] theorem heldBy_none (p : Pair) : heldBy p none = none := rfl

@[simp] theorem heldBy_some (p : Pair) (h : TagHolder) : heldBy p (some h) = if h.pair = p then some h.cls else none := by
  by_cases hp : h.pair = p <;> simp [heldBy, hp]

theorem heldBy_isSome {p : Pair} {x : Option TagHolder} :
    (heldBy p x).isSome = true ↔ x.map TagHolder.pair = some p := by
  cases x with
  | none => simp [heldBy]
  | some h => simp [heldBy]

theorem tagOf_eq (s : State) (p : Pair) : s.tagOf p = (s.heldTags p).head? := by
  rw [heldTags, List.head?_filterMap, tagOf]
  congr 1
  funext t
  cases s.tags.get t with
  | none => rfl
  | some h => by_cases hp : h.pair = p <;> simp [heldBy, hp]

theorem item_faultClaim (s : State) (p : Pair) : s.item (.faultClaim p) = (s.claimItems p).head? := by
  rw [claimItems, List.head?_filter]; rfl

theorem hasItem_faultClaim (s : State) (p : Pair) : s.hasItem (.faultClaim p) = !(s.claimItems p).isEmpty := by
  rw [claimItems, Bool.eq_iff_iff]; simp [hasItem]

theorem claimStands_eq (s : State) (p : Pair) : s.claimStands p = (s.standing p).stands := by
  rw [claimStands, Standing.stands, standing_items, claimItems, List.any_filter]

theorem mem_heldTags {s : State} {p : Pair} {x : Tag × FaultClass} :
    x ∈ s.heldTags p ↔ heldBy p (s.tags.get x.1) = some x.2 := by
  obtain ⟨t, cls⟩ := x
  simp [heldTags]

theorem heldTags_nodup (s : State) (p : Pair) : (s.heldTags p).Nodup := by
  refine List.Nodup.filterMap (fun t u b ht hu => ?_) (List.nodup_finRange 32)
  obtain ⟨_, -, rfl⟩ := Option.map_eq_some_iff.1 ht
  obtain ⟨_, -, hu⟩ := Option.map_eq_some_iff.1 hu
  exact (congrArg Prod.fst hu).symm

/-- No pair holds two tags exactly when each pair's list of tags is no longer than one (R84). -/
theorem heldTags_length_le_one_iff {s : State} {p : Pair} : (s.heldTags p).length ≤ 1 ↔
    ∀ t u : Tag, (s.tags.get t).map TagHolder.pair = some p → (s.tags.get u).map TagHolder.pair = some p → t = u := by
  simp only [← heldBy_isSome, Option.isSome_iff_exists]
  constructor
  · rintro h t u ⟨c, ht⟩ ⟨d, hu⟩
    have ht : (t, c) ∈ s.heldTags p := mem_heldTags.2 ht
    have hu : (u, d) ∈ s.heldTags p := mem_heldTags.2 hu
    match hl : s.heldTags p with
    | [] => simp [hl] at ht
    | [x] => rw [hl, List.mem_singleton] at ht hu; exact congrArg Prod.fst (ht.trans hu.symm)
    | _ :: _ :: _ => simp [hl] at h
  · intro h
    have nodup := s.heldTags_nodup p
    match hl : s.heldTags p with
    | [] => simp
    | [_] => simp
    | (t, c) :: (u, d) :: rest =>
      have ht : heldBy p (s.tags.get t) = some c := (mem_heldTags (x := (t, c))).1 (by simp [hl])
      have hu : heldBy p (s.tags.get u) = some d := (mem_heldTags (x := (u, d))).1 (by simp [hl])
      obtain rfl := h t u ⟨c, ht⟩ ⟨d, hu⟩
      obtain rfl : c = d := Option.some.inj (ht.symm.trans hu)
      simp [hl] at nodup

end State
end Sys2Proof.Machine
end

section
/-! PROOFS. The agreement of O56 pair by pair: in a queue in order it is the soundness of every pair's standing. Then what each
write of the claim logic makes of the standings: of the one it writes, and that it leaves the others. -/

namespace Sys2Proof.Machine
namespace State

/-! ### The agreement, pair by pair -/

/-- Every pair's standing is sound. -/
def Settled (s : State) : Prop := ∀ p : Pair, (s.standing p).Ok

theorem carriesTag_iff {s : State} {x : Item} :
    s.carriesTag x = true ↔ ∀ p, x.kind = .faultClaim p → (s.standing p).Carries x := by
  unfold carriesTag
  split
  · next p key pr tag renew hk hb =>
    simp only [hk, ItemKind.faultClaim.injEq, forall_eq', Standing.Carries, hb, Option.some.injEq, Body.faultClaim.injEq,
      standing_tags, ← tagOf_eq]
    constructor
    · rintro h _ _ _ _ ⟨rfl, rfl, rfl, rfl⟩ hs hw
      simpa [hs, hw] using h
    · intro h
      cases hs : x.superseded <;> cases hw : x.withdrawn <;> simp
      exact h _ _ _ _ ⟨rfl, rfl, rfl, rfl⟩ hs hw
  · next h => exact ⟨fun _ p hk key pr tag renew hb => absurd hb (h p key pr tag renew hk), fun _ => rfl⟩

theorem mem_claimItems {s : State} {p : Pair} {x : Item} : x ∈ s.claimItems p ↔ x ∈ s.queue ∧ x.kind = .faultClaim p := by
  rw [claimItems, List.mem_filter, beq_iff_eq]
  cases x.kind <;> simp [itemRef]

theorem claimOk_iff {s : State} {p : Pair} : s.claimOk p = true ↔ (s.standing p).Agrees := by
  unfold claimOk Standing.Agrees
  rw [tagOf_eq, claimStands_eq, standing_claim, standing_tags]
  cases (s.pair p).claim with
  | linked cls owned =>
    cases owned <;> cases (s.standing p).stands <;> cases s.heldTags p <;> simp
  | _ => simp

/-- A queue in order holds at most one FAULT CLAIM item of a pair (R104). -/
theorem claimItems_length_le_one {s : State} (h : (s.queue.map fun x => itemRef x.kind).Nodup) (p : Pair) :
    (s.claimItems p).length ≤ 1 := by
  have nodup : ((s.claimItems p).map fun x => itemRef x.kind).Nodup := h.sublist (List.filter_sublist.map _)
  have same : ∀ x ∈ s.claimItems p, itemRef x.kind = .faultClaim p := fun x hx => by
    rw [(mem_claimItems.1 hx).2]; rfl
  match hl : s.claimItems p with
  | [] => simp
  | [_] => simp
  | x :: y :: rest => simp [hl, same x (by simp [hl]), same y (by simp [hl])] at nodup

theorem Settled.of_claimsOk {s : State} (hq : s.QueueOk) (h : s.ClaimsOk) (hr : s.running = true) : s.Settled := by
  obtain ⟨unequipped, carries, once, agrees⟩ := h hr
  refine fun p => ⟨unequipped p, ?_, claimItems_length_le_one hq.2.1 p, fun i hi => ?_, claimOk_iff.1 (agrees p)⟩
  · exact heldTags_length_le_one_iff.2 fun t u ht hu => once t u (by cases h : s.tags.get t <;> simp_all) (ht.trans hu.symm)
  · exact carriesTag_iff.1 (carries i (mem_claimItems.1 hi).1) p (mem_claimItems.1 hi).2

theorem ClaimsOk.of_settled {s : State} (h : s.running = true → s.Settled) : s.ClaimsOk := by
  intro hr
  have sound := h hr
  refine ⟨fun p => (sound p).unequipped, fun x hx => ?_, fun t u ht htu => ?_, fun p => claimOk_iff.2 (sound p).agrees⟩
  · exact carriesTag_iff.2 fun p hk => (sound p).carries x (mem_claimItems.2 ⟨hx, hk⟩)
  · obtain ⟨holder, hh⟩ := Option.isSome_iff_exists.1 ht
    have held : (s.tags.get t).map TagHolder.pair = some holder.pair := by simp [hh]
    exact heldTags_length_le_one_iff.1 (sound holder.pair).oneTag t u held (htu ▸ held)

/-! ### Writes that no standing sees, and single writes -/

/-- The fields that a standing is read from. -/
def claimFields (s : State) :
    StationState × Vector PairRecord 24 × Vector Service 24 × Vector (Option TagHolder) 32 × List Item :=
  (s.station, s.pairs, s.serviceA, s.tags, s.queue)

theorem standing_congr {s t : State} {p : Pair} (service : t.service p = s.service p)
    (claim : (t.pair p).claim = (s.pair p).claim) (tags : t.tags = s.tags) (items : t.claimItems p = s.claimItems p) :
    t.standing p = s.standing p := by
  simp only [standing, heldTags, service, claim, tags, items]

theorem standing_of_claimFields {s t : State} (h : t.claimFields = s.claimFields) (p : Pair) :
    t.standing p = s.standing p := by
  simp only [claimFields, Prod.mk.injEq] at h
  obtain ⟨-, pairs, services, tags, queue⟩ := h
  exact standing_congr (by rw [service, services]; rfl) (by rw [State.pair, pairs]; rfl) tags
    (by rw [claimItems, queue]; rfl)

theorem standing_setPair (s : State) (p q : Pair) (r : PairRecord) :
    (s.setPair p r).standing q = if q = p then { s.standing p with claim := r.claim } else s.standing q := by
  split
  · next e => subst e; simp [standing, heldTags, claimItems]
  · next e => exact standing_congr (by simp) (by simp [e]) (by simp) (by simp [claimItems])

theorem standing_setPair_of_claim {s : State} {p : Pair} {r : PairRecord} (h : r.claim = (s.pair p).claim) (q : Pair) :
    (s.setPair p r).standing q = s.standing q := by
  rw [standing_setPair]
  split
  · next e => rw [e, h]; rfl
  · rfl

theorem standing_setClaim (s : State) (p q : Pair) (c : ClaimState) (t : Option Nat) :
    (s.setClaim p c t).standing q = if q = p then { s.standing p with claim := c } else s.standing q :=
  standing_setPair ..

theorem standing_setService (s : State) (p q : Pair) (v : Service) :
    (s.setService p v).standing q = if q = p then { s.standing p with service := v } else s.standing q := by
  split
  · next e => subst e; simp [standing, heldTags, claimItems, State.pair]
  · next e => exact standing_congr (by simp [service_setService, e]) (by simp [State.pair]) (by simp) (by simp [claimItems])

theorem heldTags_congr {s t : State} {p : Pair} (h : ∀ i : Tag, heldBy p (t.tags.get i) = heldBy p (s.tags.get i)) :
    t.heldTags p = s.heldTags p := by
  simp only [heldTags, h]

theorem standing_retireTag (s : State) (p q : Pair) :
    (s.retireTag p).standing q = if q = p then { s.standing p with tags := [] } else s.standing q := by
  have held (i : Tag) : heldBy q ((s.retireTag p).tags.get i) = if q = p then none else heldBy q (s.tags.get i) := by
    rw [retireTag, Vector.get_map]
    cases s.tags.get i with
    | none => simp
    | some h =>
      by_cases hp : h.pair = p
      · simpa [hp] using Ne.symm
      · by_cases hq : q = p
        · simp [hp, hq]
        · simp [hp, hq]
  split
  · next e =>
    have none : (s.retireTag p).heldTags q = [] := by simp [heldTags, held, if_pos e]
    rw [standing, none, e]; rfl
  · next e =>
    have same : (s.retireTag p).heldTags q = s.heldTags q := heldTags_congr fun i => by rw [held, if_neg e]
    rw [standing, same]; rfl

/-- A tag is free while no pair holds two: there are more tags than pairs (R84). -/
theorem tags_freeTag {s : State} (h : ∀ p : Pair, (s.heldTags p).length ≤ 1) : s.tags.get s.freeTag = none := by
  have free : ∃ t : Tag, s.tags.get t = none := by
    by_contra none
    have held (t : Tag) : ∃ x : TagHolder, s.tags.get t = some x :=
      Option.isSome_iff_exists.1 (Option.isSome_iff_ne_none.2 fun ht => none ⟨t, ht⟩)
    choose x hx using held
    have injective : Function.Injective fun t => (x t).pair := fun t u (htu : (x t).pair = (x u).pair) =>
      heldTags_length_le_one_iff.1 (h (x u).pair) t u (by simp [hx, htu]) (by simp [hx])
    simpa using Fintype.card_le_of_injective _ injective
  obtain ⟨t, ht⟩ := free
  have found : (((List.finRange 32).map fun i => s.tagPointer + i).find? fun t => (s.tags.get t).isNone).isSome := by
    rw [List.find?_isSome]
    exact ⟨t, List.mem_map.2 ⟨t - s.tagPointer, List.mem_finRange _, by simp⟩, by simp [ht]⟩
  obtain ⟨u, hu⟩ := Option.isSome_iff_exists.1 found
  rw [freeTag, hu]
  simpa using List.find?_some hu

theorem filterMap_eq_singleton {α β : Type} {f : α → Option β} {a : α} {b : β} {l : List α} (hl : l.Nodup) (ha : a ∈ l)
    (hb : f a = some b) (h : ∀ x, x ≠ a → f x = none) : l.filterMap f = [b] := by
  induction l with
  | nil => cases ha
  | cons x rest ih =>
    obtain ⟨hx, hrest⟩ := List.nodup_cons.1 hl
    by_cases e : x = a
    · subst e
      have none : rest.filterMap f = [] :=
        List.filterMap_eq_nil_iff.2 fun y hy => h y fun e => hx (e ▸ hy)
      simp [hb, none]
    · rw [List.filterMap_cons_none (h x e)]
      exact ih hrest ((List.mem_cons.1 ha).resolve_left fun h => e h.symm)

/-- A tag allocated to a pair that holds none, and no pair more than one (R84). -/
theorem standing_allocateTag {s : State} {p : Pair} (h : ∀ q : Pair, (s.heldTags q).length ≤ 1) (hp : s.heldTags p = [])
    (cls : FaultClass) (q : Pair) : (s.allocateTag p cls).standing q =
      if q = p then { s.standing p with tags := [(s.freeTag, cls)] } else s.standing q := by
  have held (i : Tag) : heldBy q ((s.allocateTag p cls).tags.get i) =
      if i = s.freeTag then (if q = p then some cls else none) else heldBy q (s.tags.get i) := by
    have : (s.allocateTag p cls).tags.get i =
        if i = s.freeTag then some { pair := p, cls := cls } else s.tags.get i := get_set ..
    rw [this]
    split
    · simp [eq_comm]
    · rfl
  split
  · next e =>
    subst e
    have none (i : Tag) : heldBy q (s.tags.get i) = none := by
      cases hc : heldBy q (s.tags.get i) with
      | none => rfl
      | some c => exact absurd (mem_heldTags (x := (i, c)) |>.2 hc) (by simp [hp])
    have one : (s.allocateTag q cls).heldTags q = [(s.freeTag, cls)] :=
      filterMap_eq_singleton (List.nodup_finRange 32) (List.mem_finRange s.freeTag) (by simp [held])
        fun i hi => by simp [held, hi, none]
    rw [standing, one]; rfl
  · next e =>
    have same : (s.allocateTag p cls).heldTags q = s.heldTags q := heldTags_congr fun i => by
      rw [held, if_neg e]
      split
      · next hi => rw [hi, tags_freeTag h]; rfl
      · rfl
    rw [standing, same]; rfl

/-! ### The FAULT CLAIM items (R85, R103, R108) -/

/-- A write of the queue that touches the FAULT CLAIM items of one pair alone. -/
theorem standing_of_items {s t : State} {p : Pair} {items : List Item}
    (fields : (t.pairs, t.serviceA, t.tags) = (s.pairs, s.serviceA, s.tags)) (own : t.claimItems p = items)
    (others : ∀ q, q ≠ p → t.claimItems q = s.claimItems q) (q : Pair) :
    t.standing q = if q = p then { s.standing p with items := items } else s.standing q := by
  simp only [Prod.mk.injEq] at fields
  obtain ⟨pairs, services, tags⟩ := fields
  split
  · next e => simp only [e, standing, heldTags, State.service, State.pair, pairs, services, tags, own]
  · next e => simp only [standing, heldTags, State.service, State.pair, pairs, services, tags, others q e]

theorem claimItems_updateItem_of_other {ref : ItemRef} {q : Pair} (h : ref ≠ .faultClaim q) (s : State) {f : Item → Item}
    (hf : ∀ x, (f x).kind = x.kind) : (s.updateItem ref f).claimItems q = s.claimItems q := by
  have kind (x : Item) : (if itemRef x.kind == ref then f x else x).kind = x.kind := by split <;> simp [hf]
  simp only [claimItems, updateItem, List.filter_map, Function.comp_def, kind]
  refine (List.map_congr_left fun x hx => if_neg ?_).trans (List.map_id _)
  have : itemRef x.kind = .faultClaim q := by simpa using (List.mem_filter.1 hx).2
  simpa [this] using Ne.symm h

theorem claimItems_updateItem (s : State) (p : Pair) {f : Item → Item} (hf : ∀ x, (f x).kind = x.kind) :
    (s.updateItem (.faultClaim p) f).claimItems p = (s.claimItems p).map f := by
  have kind (x : Item) : (if itemRef x.kind == .faultClaim p then f x else x).kind = x.kind := by split <;> simp [hf]
  simp only [claimItems, updateItem, List.filter_map, Function.comp_def, kind]
  exact List.map_congr_left fun x hx => if_pos (List.mem_filter.1 hx).2

theorem claimItems_removeItem_of_other {ref : ItemRef} {q : Pair} (h : ref ≠ .faultClaim q) (s : State) :
    (s.removeItem ref).claimItems q = s.claimItems q := by
  simp only [claimItems, removeItem, List.filter_filter]
  refine List.filter_congr fun x _ => ?_
  by_cases hx : itemRef x.kind = .faultClaim q
  · simpa [hx] using Ne.symm h
  · simp [hx]

theorem claimItems_removeItem (s : State) (p : Pair) : (s.removeItem (.faultClaim p)).claimItems p = [] := by
  simp [claimItems, removeItem]

theorem filter_insertItem_of_neg {f : Item → Bool} {x : Item} (hx : f x = false) (l : List Item) :
    (insertItem x l).filter f = l.filter f := by
  induction l with
  | nil => simp [insertItem, hx]
  | cons y rest ih =>
    simp only [insertItem]
    split
    · simp only [List.filter_cons, ih]
    · simp [hx]

theorem claimItems_place_of_other {k : ItemKind} {q : Pair} (h : itemRef k ≠ .faultClaim q) (s : State) :
    (s.place k).claimItems q = s.claimItems q := by
  unfold State.place
  split
  · exact filter_insertItem_of_neg (by simpa [newItem] using h) _
  · rfl

theorem claimItems_place {s : State} {p : Pair} (hr : s.running = true) (h : s.claimItems p = []) :
    (s.place (.faultClaim p)).claimItems p = [newItem (.faultClaim p)] := by
  have absent : s.hasItem (.faultClaim p) = false := by simp [hasItem_faultClaim, h]
  have placed : s.place (.faultClaim p) = { s with queue := insertItem (newItem (.faultClaim p)) s.queue } := by
    simp [State.place, hr, show s.hasItem (itemRef (.faultClaim p)) = false from absent]
  have perm := (insertItem_perm (newItem (.faultClaim p)) s.queue).filter fun x => itemRef x.kind == .faultClaim p
  rw [List.filter_cons_of_pos (by simp [newItem, itemRef])] at perm
  rw [placed]
  refine List.perm_singleton.1 (perm.trans (.of_eq ?_))
  rw [show s.queue.filter (fun x => itemRef x.kind == .faultClaim p) = [] from h]

theorem claimItems_withdraw_of_other {ref : ItemRef} {q : Pair} (h : ref ≠ .faultClaim q) (s : State) {f : Item → Item}
    (hf : ∀ x, (f x).kind = x.kind) : (s.withdraw ref f).claimItems q = s.claimItems q := by
  unfold State.withdraw
  split
  · rfl
  · split
    · exact claimItems_updateItem_of_other h s hf
    · exact claimItems_removeItem_of_other h s

theorem claimItems_withdraw (s : State) (p : Pair) {f : Item → Item} (hf : ∀ x, (f x).kind = x.kind) :
    (s.withdraw (.faultClaim p) f).claimItems p =
      if (s.claimItems p).head?.any fun x => x.content.isSome then (s.claimItems p).map f else [] := by
  unfold State.withdraw
  rw [item_faultClaim]
  split
  · next h => simp [List.head?_eq_none_iff.1 h]
  · next x h =>
    rw [h, Option.any_some]
    split
    · exact claimItems_updateItem s p hf
    · exact claimItems_removeItem s p

theorem faultClaim_ne {p q : Pair} (h : q ≠ p) : ItemRef.faultClaim p ≠ .faultClaim q := by
  simpa using Ne.symm h

theorem standing_updateItem (s : State) (p : Pair) {f : Item → Item} (hf : ∀ x, (f x).kind = x.kind) (q : Pair) :
    (s.updateItem (.faultClaim p) f).standing q =
      if q = p then { s.standing p with items := (s.standing p).items.map f } else s.standing q :=
  standing_of_items (by simp) (claimItems_updateItem s p hf) (fun _ e => claimItems_updateItem_of_other (faultClaim_ne e) s hf) q

theorem standing_removeItem (s : State) (p q : Pair) : (s.removeItem (.faultClaim p)).standing q =
    if q = p then { s.standing p with items := [] } else s.standing q :=
  standing_of_items (by simp) (claimItems_removeItem s p) (fun _ e => claimItems_removeItem_of_other (faultClaim_ne e) s) q

theorem standing_place {s : State} {p : Pair} (hr : s.running = true) (h : (s.standing p).items = []) (q : Pair) :
    (s.place (.faultClaim p)).standing q =
      if q = p then { s.standing p with items := [newItem (.faultClaim p)] } else s.standing q :=
  standing_of_items (by simp) (claimItems_place hr h) (fun _ e => claimItems_place_of_other (k := .faultClaim p) (faultClaim_ne e) s) q

end State
end Sys2Proof.Machine
end

section
/-! PROOFS. What an operation does to the standings: it leaves them all (`SparesClaims`), it unlinks pairs LINKED to an entry of
this station and leaves the others (`Unlinks`), or it keeps them sound (`KeepsClaims`). In between, the standing of one pair
that holds nothing (`Vacated`) may be out of agreement with its claim state. -/

namespace Sys2Proof.Machine

namespace Standing

/-- The FAULT CLAIM items after a withdrawal: the one whose frame is out, marked (R108). -/
def itemsLeft (x : Standing) (mark : Item → Item) : List Item :=
  if x.items.head?.any fun i => i.content.isSome then x.items.map mark else []

/-- The FAULT CLAIM item after a claim made or turned: the one that stood, renewed, or a new one (R85, R88). -/
def itemsRenewed (x : Standing) (p : Pair) : List Item :=
  if x.items.isEmpty then [newItem (.faultClaim p)] else x.items.map renewedItem

/-- A withdrawal of the item and the tag leaves nothing held (R89, R108). -/
theorem bare_withdrawn {x : Standing} (h : x.items.length ≤ 1) {mark : Item → Item}
    (hm : ∀ i, (mark i).withdrawn = true) : Bare { x with tags := [], items := x.itemsLeft mark } := by
  refine ⟨rfl, ?_, fun i hi => ?_⟩ <;> simp only [itemsLeft] at *
  · split
    · simpa using h
    · simp
  · split at hi
    · obtain ⟨j, -, rfl⟩ := List.mem_map.1 hi
      exact hm j
    · cases hi

/-- A claim that is made PENDING with a tag of its own and its item renewed is sound (R85, R88). -/
theorem ok_pending {x : Standing} (p : Pair) (tag : Tag × FaultClass) (hs : x.service = .equipped)
    (h : x.items.length ≤ 1) : Ok { x with claim := .pending, tags := [tag], items := x.itemsRenewed p } := by
  refine ⟨fun hx => absurd hs hx, by simp, ?_, fun i hi => ?_, by simp, ?_⟩ <;> simp only [itemsRenewed, stands] at *
  · split
    · simp
    · simpa using h
  · split at hi
    · exact carries_of_unbuilt (by rw [List.mem_singleton.1 hi]; rfl)
    · obtain ⟨j, -, rfl⟩ := List.mem_map.1 hi
      exact carries_of_superseded fun hb => by simp [renewedItem, show j.content.isSome = true from hb]
  · split
    · rfl
    · next hx => obtain ⟨j, rest, e⟩ := List.exists_cons_of_ne_nil (by simpa using hx); simp [e, renewedItem]

/-- A bare pair DEFERRED with a tag of its own is sound (R118). -/
theorem Bare.ok_deferred {x : Standing} (h : x.Bare) (hs : x.service = .equipped) (tag : Tag) (cls : FaultClass) :
    Ok { x with claim := .deferred tag, tags := [(tag, cls)] } :=
  ⟨fun hx => absurd hs hx, by simp, h.oneItem, fun i hi => carries_of_withdrawn (h.withdrawn i hi), by simp,
    stands_eq_false.2 h.withdrawn⟩

end Standing

namespace State

/-! ### The relations -/

/-- Every pair's standing is sound but perhaps one pair's, which holds no two tags. -/
structure SettledBut (s : State) (p : Pair) : Prop where
  others : ∀ q : Pair, q ≠ p → (s.standing q).Ok
  oneTag : (s.heldTags p).length ≤ 1

/-- An operation that leaves every standing as it is, or the station not running. -/
structure SparesClaims (s t : State) : Prop where
  running : t.running = true → s.running = true
  standing : t.running = true → ∀ p : Pair, t.standing p = s.standing p

/-- An operation that keeps the standings sound, and leaves the standing of a pair as it is that is not LINKED to an
incident owned here, sound or not: so an entry's closing and its loss work (R113, R131). -/
structure Unlinks (s t : State) : Prop where
  running : t.running = true → s.running = true
  settled : t.running = true → s.Settled → t.Settled
  spared : t.running = true → ∀ p : Pair, s.SettledBut p → (∀ cls, (s.pair p).claim ≠ .linked cls true) →
    t.SettledBut p ∧ t.standing p = s.standing p

/-- What every command keeps: while the station runs, every pair's standing is sound. -/
structure KeepsClaims (s t : State) : Prop where
  kept : (s.running = true → s.Settled) → t.running = true → t.Settled

theorem Settled.but {s : State} (h : s.Settled) (p : Pair) : s.SettledBut p := ⟨fun q _ => h q, (h p).oneTag⟩

theorem SettledBut.heldTags {s : State} {p : Pair} (h : s.SettledBut p) (q : Pair) : (s.heldTags q).length ≤ 1 := by
  by_cases e : q = p
  · exact e ▸ h.oneTag
  · exact (h.others q e).oneTag

/-- Writes of one pair that leave its standing sound. -/
theorem SettledBut.settled {s t : State} {p : Pair} {x : Standing} (h : s.SettledBut p)
    (ht : ∀ q : Pair, t.standing q = if q = p then x else s.standing q) (hx : x.Ok) : t.Settled := by
  intro q
  rw [ht]
  split
  · exact hx
  · next e => exact h.others q e

/-- Writes of one pair that leave it with no two tags. -/
theorem SettledBut.write {s t : State} {p : Pair} {x : Standing} (h : s.SettledBut p)
    (ht : ∀ q : Pair, t.standing q = if q = p then x else s.standing q) (hx : x.tags.length ≤ 1) : t.SettledBut p := by
  refine ⟨fun q e => ?_, ?_⟩
  · rw [ht, if_neg e]; exact h.others q e
  · rw [← standing_tags, ht, if_pos rfl]; exact hx

theorem SparesClaims.refl (s : State) : s.SparesClaims s := ⟨id, fun _ _ => rfl⟩

theorem SparesClaims.trans {s t u : State} (h : s.SparesClaims t) (k : t.SparesClaims u) : s.SparesClaims u :=
  ⟨h.running ∘ k.running, fun hu p => (k.standing hu p).trans (h.standing (k.running hu) p)⟩

theorem SparesClaims.after {s t u : State} (k : t.SparesClaims u) (h : s.SparesClaims t) : s.SparesClaims u := h.trans k

theorem SparesClaims.ite {s t u : State} {c : Prop} [Decidable c] (ht : s.SparesClaims t) (hu : s.SparesClaims u) :
    s.SparesClaims (if c then t else u) := by
  split <;> assumption

theorem SparesClaims.settledBut {s t : State} (h : s.SparesClaims t) (ht : t.running = true) {p : Pair}
    (hs : s.SettledBut p) : t.SettledBut p :=
  ⟨fun q e => h.standing ht q ▸ hs.others q e, by rw [← standing_tags, h.standing ht]; exact hs.oneTag⟩

theorem Unlinks.of_spares {s t : State} (h : s.SparesClaims t) : s.Unlinks t :=
  ⟨h.running, fun ht hs p => h.standing ht p ▸ hs p, fun ht p hs _ => ⟨h.settledBut ht hs, h.standing ht p⟩⟩

theorem Unlinks.refl (s : State) : s.Unlinks s := .of_spares (.refl s)

theorem Unlinks.trans {s t u : State} (h : s.Unlinks t) (k : t.Unlinks u) : s.Unlinks u := by
  refine ⟨h.running ∘ k.running, fun hu => k.settled hu ∘ h.settled (k.running hu), fun hu p hs hc => ?_⟩
  obtain ⟨but, same⟩ := h.spared (k.running hu) p hs hc
  have claim : (t.pair p).claim = (s.pair p).claim := congrArg Standing.claim same
  obtain ⟨but', same'⟩ := k.spared hu p but (by rwa [claim])
  exact ⟨but', same'.trans same⟩

theorem Unlinks.after {s t u : State} (k : t.Unlinks u) (h : s.Unlinks t) : s.Unlinks u := h.trans k

theorem Unlinks.ite {s t u : State} {c : Prop} [Decidable c] (ht : s.Unlinks t) (hu : s.Unlinks u) :
    s.Unlinks (if c then t else u) := by
  split <;> assumption

theorem Unlinks.foldl {α : Type} {f : State → α → State} (h : ∀ (s : State) (a : α), s.Unlinks (f s a)) (l : List α)
    (s : State) : s.Unlinks (l.foldl f s) := by
  induction l generalizing s with
  | nil => exact .refl s
  | cons a rest ih => exact (h s a).trans (ih _)

theorem KeepsClaims.intro {s t : State} (running : t.running = true → s.running = true)
    (settled : t.running = true → s.Settled → t.Settled) : s.KeepsClaims t :=
  ⟨fun hs ht => settled ht (hs (running ht))⟩

theorem KeepsClaims.of_unlinks {s t : State} (h : s.Unlinks t) : s.KeepsClaims t := .intro h.running h.settled

theorem KeepsClaims.of_spares {s t : State} (h : s.SparesClaims t) : s.KeepsClaims t := .of_unlinks (.of_spares h)

theorem KeepsClaims.refl (s : State) : s.KeepsClaims s := .of_unlinks (.refl s)

theorem KeepsClaims.trans {s t u : State} (h : s.KeepsClaims t) (k : t.KeepsClaims u) : s.KeepsClaims u := ⟨k.kept ∘ h.kept⟩

theorem KeepsClaims.after {s t u : State} (k : t.KeepsClaims u) (h : s.KeepsClaims t) : s.KeepsClaims u := h.trans k

theorem KeepsClaims.ite {s t u : State} {c : Prop} [Decidable c] (ht : s.KeepsClaims t) (hu : s.KeepsClaims u) :
    s.KeepsClaims (if c then t else u) := by
  split <;> assumption

theorem KeepsClaims.foldl {α : Type} {f : State → α → State} (h : ∀ (s : State) (a : α), s.KeepsClaims (f s a))
    (l : List α) (s : State) : s.KeepsClaims (l.foldl f s) := by
  induction l generalizing s with
  | nil => exact .refl s
  | cons a rest ih => exact (h s a).trans (ih _)

/-! ### The claim logic's own operations (R84, R85, R89) -/

theorem standing_withdraw (s : State) (p : Pair) {mark : Item → Item} (hm : ∀ x, (mark x).kind = x.kind) (q : Pair) :
    (s.withdraw (.faultClaim p) mark).standing q =
      if q = p then { s.standing p with items := (s.standing p).itemsLeft mark } else s.standing q :=
  standing_of_items (by simp) (claimItems_withdraw s p hm)
    (fun _ e => claimItems_withdraw_of_other (faultClaim_ne e) s hm) q

theorem standing_withdrawClaim (s : State) (p q : Pair) : (s.withdrawClaim p).standing q =
    if q = p then { s.standing p with tags := [], items := (s.standing p).itemsLeft markSuperseded }
    else s.standing q := by
  have withdrawn := standing_withdraw s p (mark := markSuperseded) fun _ => rfl
  rw [withdrawClaim, standing_retireTag, withdrawn, withdrawn]
  split
  · rw [if_pos rfl]
  · rfl

/-- The item of a claim made or turned: renewed where it stands, and placed where none does (R85, R88). -/
theorem standing_renewItem {s : State} (hr : s.running = true) (p q : Pair) :
    (if s.hasItem (.faultClaim p) then s.updateItem (.faultClaim p) renewedItem else s.place (.faultClaim p)).standing q =
      if q = p then { s.standing p with items := (s.standing p).itemsRenewed p } else s.standing q := by
  rw [hasItem_faultClaim, Standing.itemsRenewed, standing_items]
  by_cases none : s.claimItems p = []
  · simpa [none] using standing_place hr none q
  · simpa [none] using standing_updateItem s p (f := renewedItem) (fun _ => rfl) q

theorem standing_claimPending {s : State} {p : Pair} (hr : s.running = true) (h : ∀ q : Pair, (s.heldTags q).length ≤ 1)
    (hp : s.heldTags p = []) (cls : FaultClass) (q : Pair) : (s.claimPending p cls).standing q =
      if q = p then { s.standing p with
        claim := .pending, tags := [(s.freeTag, cls)], items := (s.standing p).itemsRenewed p } else s.standing q := by
  have claimed (q : Pair) : ((s.allocateTag p cls).setClaim p .pending none).standing q =
      if q = p then { s.standing p with claim := .pending, tags := [(s.freeTag, cls)] } else s.standing q := by
    rw [standing_setClaim, standing_allocateTag h hp, standing_allocateTag h hp]
    split
    · rw [if_pos rfl]
    · rfl
  unfold claimPending
  rw [standing_renewItem (by simpa using hr), claimed, claimed]
  split
  · rw [if_pos rfl]; rfl
  · rfl

/-! ### A pair that holds nothing -/

/-- Every standing is sound but perhaps the claim state of one pair, which holds nothing. -/
structure Vacated (s : State) (p : Pair) : Prop extends s.SettledBut p where
  bare : (s.standing p).Bare

theorem Settled.vacated {s : State} (h : s.Settled) {p : Pair}
    (hc : (s.pair p).claim = .unclaimed ∨ (s.pair p).claim = .heldOff ∨ ∃ cls, (s.pair p).claim = .linked cls true) :
    s.Vacated p := ⟨h.but p, (h p).bare hc⟩

theorem Settled.equipped {s : State} (h : s.Settled) {p : Pair} (hc : (s.pair p).claim ≠ .unclaimed) :
    s.service p = .equipped := (h p).equipped hc

/-- A DEFERRED pair's tag is retired (R88, R126, R127). -/
theorem Settled.retireTag {s : State} (h : s.Settled) {p : Pair} {t : Tag} (hc : (s.pair p).claim = .deferred t) :
    (s.retireTag p).Vacated p := by
  have written := standing_retireTag s p
  refine ⟨(h.but p).write written (by simp), ?_⟩
  rw [written, if_pos rfl]
  exact ⟨rfl, (h p).oneItem, (h p).withdrawn_of_deferred hc⟩

/-- A pair's claim is withdrawn with its item and its tag (R89). -/
theorem SettledBut.withdrawClaim {s : State} {p : Pair} (h : s.SettledBut p) (hi : (s.claimItems p).length ≤ 1) :
    (s.withdrawClaim p).Vacated p := by
  have written := standing_withdrawClaim s p
  refine ⟨h.write written (by simp), ?_⟩
  rw [written, if_pos rfl]
  exact Standing.bare_withdrawn hi fun _ => rfl

theorem Settled.withdrawClaim {s : State} (h : s.Settled) (p : Pair) : (s.withdrawClaim p).Vacated p :=
  (h.but p).withdrawClaim (h p).oneItem

theorem SettledBut.setClaim {s : State} {p : Pair} (h : s.SettledBut p) (c : ClaimState) (t : Option Nat) :
    (s.setClaim p c t).SettledBut p := h.write (standing_setClaim s p · c t) h.oneTag

theorem Vacated.setClaim {s : State} {p : Pair} (h : s.Vacated p) (c : ClaimState) (t : Option Nat) :
    (s.setClaim p c t).Vacated p := by
  have written (q : Pair) := standing_setClaim s p q c t
  refine ⟨h.write written h.oneTag, ?_⟩
  rw [written, if_pos rfl]
  exact ⟨h.bare.noTag, h.bare.oneItem, h.bare.withdrawn⟩

/-- A pair that holds nothing is sound in every claim state but PENDING and DEFERRED. -/
theorem Vacated.settled {s : State} {p : Pair} (h : s.Vacated p)
    (hs : s.service p ≠ .equipped → (s.pair p).claim = .unclaimed) (hp : (s.pair p).claim ≠ .pending)
    (hd : ∀ t, (s.pair p).claim ≠ .deferred t) : s.Settled := by
  intro q
  by_cases e : q = p
  · exact e ▸ h.bare.ok hs hp hd
  · exact h.others q e

theorem Vacated.unclaim {s : State} {p : Pair} (h : s.Vacated p) (t : Option Nat) :
    (s.setClaim p .unclaimed t).Settled := by
  have claim : ((s.setClaim p .unclaimed t).pair p).claim = .unclaimed := by simp [State.setClaim]
  exact (h.setClaim .unclaimed t).settled (fun _ => claim) (by simp [claim]) (by simp [claim])

/-- A pair that holds nothing is LINKED, or held off (R114, R115, R126). -/
theorem Vacated.link {s : State} {p : Pair} (h : s.Vacated p) (hs : s.service p = .equipped) {c : ClaimState}
    (hc : c = .heldOff ∨ ∃ cls owned, c = .linked cls owned) (t : Option Nat) : (s.setClaim p c t).Settled := by
  have claim : ((s.setClaim p c t).pair p).claim = c := by simp [State.setClaim]
  refine (h.setClaim c t).settled (fun hn => absurd (by simpa using hs) hn) ?_ ?_ <;> rw [claim] <;>
    obtain rfl | ⟨cls, owned, rfl⟩ := hc <;> nofun

theorem Vacated.holdOff {s : State} {p : Pair} (h : s.Vacated p) (hs : s.service p = .equipped) : (s.holdOff p).Settled :=
  h.link hs (.inl rfl) _

theorem Vacated.claimPending {s : State} {p : Pair} (h : s.Vacated p) (hr : s.running = true)
    (hs : s.service p = .equipped) (cls : FaultClass) : (s.claimPending p cls).Settled :=
  h.toSettledBut.settled (standing_claimPending hr h.heldTags h.bare.noTag cls)
    (Standing.ok_pending p _ hs h.bare.oneItem)

theorem SparesClaims.vacated {s t : State} (h : s.SparesClaims t) (ht : t.running = true) {p : Pair}
    (hs : s.Vacated p) : t.Vacated p :=
  ⟨h.settledBut ht hs.toSettledBut, h.standing ht p ▸ hs.bare⟩

theorem Unlinks.vacated {s t : State} (h : s.Unlinks t) (ht : t.running = true) {p : Pair} (hs : s.Vacated p)
    (hc : ∀ cls, (s.pair p).claim ≠ .linked cls true) : t.Vacated p ∧ t.standing p = s.standing p := by
  obtain ⟨but, same⟩ := h.spared ht p hs.toSettledBut hc
  exact ⟨⟨but, same ▸ hs.bare⟩, same⟩

/-! ### Operations that no standing sees -/

theorem SparesClaims.of_claimFields {s t : State} (h : t.claimFields = s.claimFields := by simp [claimFields]) :
    s.SparesClaims t := by
  refine ⟨fun ht => ?_, fun _ => standing_of_claimFields h⟩
  have station : t.station = s.station := congrArg Prod.fst h
  rwa [State.running, ← station]

theorem SparesClaims.of_items {s t : State}
    (fields : (t.station, t.pairs, t.serviceA, t.tags) = (s.station, s.pairs, s.serviceA, s.tags))
    (items : ∀ p, t.claimItems p = s.claimItems p) : s.SparesClaims t := by
  simp only [Prod.mk.injEq] at fields
  obtain ⟨station, pairs, services, tags⟩ := fields
  refine ⟨fun ht => by rwa [State.running, ← station], fun _ p => ?_⟩
  exact standing_congr (by rw [State.service, services]; rfl) (by rw [State.pair, pairs]; rfl) tags (items p)

theorem SparesClaims.place (s : State) (k : ItemKind) (h : ∀ p, itemRef k ≠ .faultClaim p := by nofun) :
    s.SparesClaims (s.place k) := .of_items (by simp) fun p => claimItems_place_of_other (h p) s

theorem SparesClaims.removeItem (s : State) (ref : ItemRef) (h : ∀ p, ref ≠ .faultClaim p := by nofun) :
    s.SparesClaims (s.removeItem ref) := .of_items (by simp) fun p => claimItems_removeItem_of_other (h p) s

theorem SparesClaims.updateItem (s : State) (ref : ItemRef) {f : Item → Item} (h : ∀ p, ref ≠ .faultClaim p := by nofun)
    (hf : ∀ x, (f x).kind = x.kind := by exact fun _ => rfl) : s.SparesClaims (s.updateItem ref f) :=
  .of_items (by simp) fun p => claimItems_updateItem_of_other (h p) s hf

theorem SparesClaims.withdraw (s : State) (ref : ItemRef) {f : Item → Item} (h : ∀ p, ref ≠ .faultClaim p := by nofun)
    (hf : ∀ x, (f x).kind = x.kind := by exact fun _ => rfl) : s.SparesClaims (s.withdraw ref f) :=
  .of_items (by simp) fun p => claimItems_withdraw_of_other (h p) s hf

theorem SparesClaims.setPair {s : State} {p : Pair} {r : PairRecord} (h : r.claim = (s.pair p).claim) :
    s.SparesClaims (s.setPair p r) := ⟨by simp, fun _ q => standing_setPair_of_claim h q⟩

theorem SparesClaims.modPair {s : State} {p : Pair} {f : PairRecord → PairRecord} (h : ∀ r, (f r).claim = r.claim) :
    s.SparesClaims (s.modPair p f) := .setPair (h _)

theorem SparesClaims.setBus (s : State) (b : TestBus) : s.SparesClaims { s with bus := b } := .of_claimFields rfl
theorem SparesClaims.setUnit (s : State) (u : TestUnit) : s.SparesClaims { s with unit := u } := .of_claimFields rfl
theorem SparesClaims.elapseTo (s : State) (t : Nat) : s.SparesClaims (s.elapseTo t) := .of_claimFields
theorem SparesClaims.setSlot (s : State) (i : Fin 4) (x : Option ReplySlot) : s.SparesClaims (s.setSlot i x) := .of_claimFields
theorem SparesClaims.setReceiver (s : State) (r : ReceiverNo) (x : Receiver) : s.SparesClaims (s.setReceiver r x) := .of_claimFields
theorem SparesClaims.drive (s : State) (c : Cells) : s.SparesClaims (s.drive c) := .of_claimFields
theorem SparesClaims.setView (s : State) (v : BusHolder) : s.SparesClaims (s.setView v) := .of_claimFields
theorem SparesClaims.stopUnit (s : State) : s.SparesClaims s.stopUnit := .of_claimFields
theorem SparesClaims.callTest (s : State) : s.SparesClaims s.callTest := .of_claimFields
theorem SparesClaims.clearRun (s : State) : s.SparesClaims s.clearRun := .of_claimFields rfl

theorem SparesClaims.placeLineEvents (s : State) (p : Pair) : s.SparesClaims (s.placeLineEvents p) :=
  .ite (.refl s) (.place ..)

theorem SparesClaims.appendEvent (s : State) (p : Pair) (t : EventType) (v : Nat) : s.SparesClaims (s.appendEvent p t v) :=
  .after (.placeLineEvents _ p) (.modPair fun _ => PairRecord.append_claim ..)

theorem SparesClaims.writeEntry (s : State) (e : EntryNo) (x : Entry) : s.SparesClaims (s.writeEntry e x) :=
  .after (.ite (.place _ _) (.refl _)) (.of_claimFields rfl)

theorem SparesClaims.leaveEntry (s : State) (e : EntryNo) (st : StationNo) (pr : PairNo) :
    s.SparesClaims (s.leaveEntry e st pr) := .ite (.refl s) (.writeEntry ..)

theorem SparesClaims.endAccess (s : State) : s.SparesClaims s.endAccess := by
  unfold State.endAccess
  split
  · exact .refl s
  · exact .after (.setBus _ _) (.modPair fun _ => rfl)

theorem SparesClaims.beginAccess (s : State) (p : Pair) (holder : StationNo) : s.SparesClaims (s.beginAccess p holder) :=
  .after (.setBus _ _) (.modPair fun _ => rfl)

theorem SparesClaims.endLocalAccess (s : State) : s.SparesClaims s.endLocalAccess := by
  unfold State.endLocalAccess
  split
  · exact .ite (.endAccess s) (.refl s)
  · exact .refl s

theorem SparesClaims.withdrawQuiet (s : State) : s.SparesClaims s.withdrawQuiet := by
  unfold State.withdrawQuiet
  split
  · split
    · exact .withdraw _ _
    · exact .refl s
  · exact .refl s

theorem SparesClaims.abandonRun (s : State) (e : EntryNo) : s.SparesClaims (s.abandonRun e) := by
  unfold State.abandonRun
  split
  · exact .refl s
  · split
    · exact .after (.setBus _ _) (.clearRun s)
    · exact .after (.setBus _ _) (.after (.stopUnit _) (.after (.withdrawQuiet _) (.after (.endLocalAccess _) (.clearRun s))))

/-- The replies of an entry lost are no FAULT CLAIM items (R131). -/
theorem SparesClaims.withdrawReplies (s : State) (e : EntryNo) : s.SparesClaims (s.withdrawReplies e) := by
  refine .of_items rfl fun p => ?_
  have other {x : Item} (h : (itemRef x.kind == .faultClaim p) = true) : x.repliesFor e = false := by
    unfold Item.repliesFor
    split
    · next hk => simp [hk, itemRef] at h
    · rfl
  have kind (x : Item) : (if x.repliesFor e then markWithdrawn x else x).kind = x.kind := by split <;> rfl
  simp only [claimItems, State.withdrawReplies, List.filter_map, List.filter_filter, Function.comp_def, kind]
  have stays : (s.queue.filter fun x => (itemRef x.kind == .faultClaim p) && !(x.repliesFor e && x.content.isNone)) =
      s.queue.filter fun x => itemRef x.kind == .faultClaim p :=
    List.filter_congr fun x _ => by
      cases h : itemRef x.kind == .faultClaim p
      · rfl
      · simp [other h]
  rw [stays]
  refine (List.map_congr_left fun x hx => ?_).trans (List.map_id _)
  simp [other (List.mem_filter.1 hx).2]

/-- A station that enters FAILED runs no longer (R177). -/
theorem SparesClaims.of_not_running {s t : State} (h : t.running = false) : s.SparesClaims t :=
  ⟨fun ht => absurd (h.symm.trans ht) nofun, fun ht => absurd (h.symm.trans ht) nofun⟩

theorem SparesClaims.enterFailed (s : State) : s.SparesClaims s.enterFailed := .of_not_running rfl

theorem SparesClaims.reportIntegrity (s : State) : s.SparesClaims s.reportIntegrity := by
  unfold State.reportIntegrity
  split
  · exact .of_claimFields rfl
  · exact .ite (.enterFailed s) (.of_claimFields rfl)

end State
end Sys2Proof.Machine
end

section
/-! PROOFS. The standings through the incident table (R112, R113, R118, R125, R131): a closing unlinks pairs, a local join and a
deferral write one pair, and the answer of a defer list joins pairs or holds them off. -/

namespace Sys2Proof.Machine
namespace State

@[simp] theorem claimPending_running (s : State) (p : Pair) (cls : FaultClass) :
    (s.claimPending p cls).running = s.running := by
  unfold claimPending; dsimp only; split <;> simp

@[simp] theorem claimPending_entry (s : State) (p : Pair) (cls : FaultClass) (e : EntryNo) :
    (s.claimPending p cls).entry e = s.entry e := by
  unfold claimPending; dsimp only; split <;> simp

@[simp] theorem joinOwn_running (s : State) (e : EntryNo) (p : Pair) (cls : FaultClass) :
    (s.joinOwn e p cls).running = s.running := by simp [State.joinOwn, joinEntry]

@[simp] theorem holdOff_running (s : State) (p : Pair) : (s.holdOff p).running = s.running := by simp [State.holdOff]

/-! ### The incident table's part (chapter 7) -/

theorem Vacated.joinOwn {s : State} {p : Pair} (h : s.Vacated p) (hr : s.running = true) (hs : s.service p = .equipped)
    (e : EntryNo) (cls : FaultClass) : (s.joinOwn e p cls).Settled :=
  ((SparesClaims.writeEntry s e _).vacated (by simpa using hr) h).link (by simpa [joinEntry] using hs) (.inr ⟨cls, true, rfl⟩) none

/-- The closing of an entry writes the standing of a pair LINKED to it here, and no other's (R113). -/
theorem Unlinks.of_write {s t : State} {p : Pair} {x : Standing} (running : t.running = true → s.running = true)
    (hc : ∃ cls, (s.pair p).claim = .linked cls true)
    (written : t.running = true → (∀ q : Pair, (s.heldTags q).length ≤ 1) → (s.standing p).Ok →
      ∀ q : Pair, t.standing q = if q = p then x else s.standing q)
    (ok : (s.standing p).Ok → x.Ok) : s.Unlinks t := by
  refine ⟨running, fun ht hs => ?_, fun ht q hs hq => ?_⟩
  · exact (hs.but p).settled (written ht (fun q => (hs q).oneTag) (hs p)) (ok (hs p))
  · have other : p ≠ q := by rintro rfl; obtain ⟨cls, hc⟩ := hc; exact hq cls hc
    have hp := hs.others p other
    have write := written ht hs.heldTags hp
    have same : t.standing q = s.standing q := by rw [write, if_neg other.symm]
    refine ⟨⟨fun r hr => ?_, by rw [← standing_tags, same]; exact hs.oneTag⟩, same⟩
    rw [write]
    split
    · exact ok hp
    · exact hs.others r hr

theorem Unlinks.unlinkOwn (k : Key) (forced : Bool) (s : State) (p : Pair) : s.Unlinks (State.unlinkOwn k forced s p) := by
  unfold State.unlinkOwn
  split
  · next h =>
    simp only [Bool.and_eq_true, beq_iff_eq] at h
    have linked : (s.pair p).claim = .linked k.cls true := h.1
    have bare (hp : (s.standing p).Ok) : (s.standing p).Bare := hp.bare (.inr (.inr ⟨k.cls, linked⟩))
    have equipped (hp : (s.standing p).Ok) : s.service p = .equipped := hp.equipped (by simp [linked])
    split
    · refine .of_write (fun ht => by simpa [State.holdOff] using ht) ⟨_, linked⟩
        (fun _ _ _ q => standing_setClaim ..) fun hp => ?_
      obtain ⟨noTag, oneItem, withdrawn⟩ := bare hp
      exact Standing.Bare.ok ⟨noTag, oneItem, withdrawn⟩ (fun hn => absurd (equipped hp) hn) nofun nofun
    · exact .of_write (by simp) ⟨_, linked⟩
        (fun ht held hp => standing_claimPending (by simpa using ht) held (bare hp).noTag k.cls)
        fun hp => Standing.ok_pending p _ (equipped hp) hp.oneItem
  · exact .refl s

/-- A closing up to the answer of its defer list (R113). -/
def unlinkAll (s : State) (e : EntryNo) (v : Verdict) (forced : Bool) : State :=
  let t := (s.writeEntry e ((s.entry e).closed v forced)).abandonRun e
  match (s.entry e).key with
  | some k => allPairs.foldl (State.unlinkOwn k forced) t
  | none => t

theorem closeEntry_eq (s : State) (e : EntryNo) (v : Verdict) (forced : Bool) :
    s.closeEntry e v forced = (s.unlinkAll e v forced).answerDefers e := rfl

theorem Unlinks.unlinkAll (s : State) (e : EntryNo) (v : Verdict) (forced : Bool) :
    s.Unlinks (s.unlinkAll e v forced) := by
  have begun : s.Unlinks ((s.writeEntry e ((s.entry e).closed v forced)).abandonRun e) :=
    .of_spares (.after (.abandonRun ..) (.writeEntry ..))
  unfold State.unlinkAll
  dsimp only
  split
  · exact .after (.foldl (Unlinks.unlinkOwn _ _) _ _) begun
  · exact begun

theorem entry_unlinkOwn (k : Key) (forced : Bool) (s : State) (p : Pair) (e : EntryNo) :
    (State.unlinkOwn k forced s p).entry e = s.entry e := by
  unfold State.unlinkOwn State.holdOff
  (repeat' split) <;> simp

theorem entry_abandonRun (s : State) (i e : EntryNo) : (s.abandonRun i).entry e = s.entry e := by
  have ended (t : State) : t.endLocalAccess.entry e = t.entry e := by
    unfold State.endLocalAccess; (repeat' split) <;> simp
  have quiet (t : State) : t.withdrawQuiet.entry e = t.entry e := by
    unfold State.withdrawQuiet; (repeat' split) <;> simp
  unfold State.abandonRun
  split
  · rfl
  · split
    · rfl
    · exact (quiet _).trans (ended _)

/-- A closing leaves the defer list of its entry to be answered (R113, R125). -/
theorem defers_unlinkAll (s : State) (e : EntryNo) (v : Verdict) (forced : Bool) :
    ((s.unlinkAll e v forced).entry e).defers = (s.entry e).defers := by
  have begun : (((s.writeEntry e ((s.entry e).closed v forced)).abandonRun e).entry e).defers = (s.entry e).defers := by
    rw [entry_abandonRun]; simp [Entry.closed]
  have folded (k : Key) (ps : List Pair) (t : State) : (ps.foldl (State.unlinkOwn k forced) t).entry e = t.entry e := by
    induction ps generalizing t with
    | nil => rfl
    | cons p rest ih => exact (ih _).trans (entry_unlinkOwn ..)
  unfold State.unlinkAll
  dsimp only
  split
  · rw [folded]; exact begun
  · exact begun

/-- The closing of an entry with no defer entries (R113). -/
theorem Unlinks.closeEntry {s : State} {e : EntryNo} (h : (s.entry e).defers = []) (v : Verdict) (forced : Bool) :
    s.Unlinks (s.closeEntry e v forced) := by
  have none : (s.unlinkAll e v forced).answerDefers e = s.unlinkAll e v forced := by
    rw [State.answerDefers, defers_unlinkAll, h]; rfl
  rw [closeEntry_eq, none]
  exact .unlinkAll ..

theorem SparesClaims.loseFree (s : State) (e : EntryNo) (x : Entry) (key : Option Key) :
    s.SparesClaims (s.loseFree e x key) :=
  .after (.ite (.withdraw _ _) (.refl _)) (.after (.abandonRun ..) (.writeEntry ..))

/-- An entry that is lost drops its defer entries unanswered (R131). -/
theorem Unlinks.loseEntry (s : State) (e : EntryNo) : s.Unlinks (s.loseEntry e) :=
  .after (.of_spares (.reportIntegrity _))
    (.after (.ite (.of_spares (.loseFree ..)) (.after (.closeEntry (by simp) ..) (.of_spares (.writeEntry ..))))
      (.of_spares (.withdrawReplies s e)))

theorem Unlinks.readEntry (s : State) (e : EntryNo) : s.Unlinks (s.readEntry e) := .ite (.refl s) (.loseEntry s e)

/-- A DEFERRED pair is held off, its tag retired (R125, R126). -/
theorem KeepsClaims.holdOffDeferred {s : State} {p : Pair} {t : Tag} (h : (s.pair p).claim = .deferred t) :
    s.KeepsClaims ((s.retireTag p).holdOff p) :=
  .intro (by simp) fun _ hs => (hs.retireTag h).holdOff (by simpa using hs.equipped (p := p) (by simp [h]))

/-- A DEFERRED pair joins an entry of this station, its tag retired (R125). -/
theorem KeepsClaims.joinDeferred {s : State} {p : Pair} {t : Tag} (h : (s.pair p).claim = .deferred t) (e : EntryNo)
    (cls : FaultClass) : s.KeepsClaims ((s.retireTag p).joinOwn e p cls) :=
  .intro (by simp) fun hr hs =>
    (hs.retireTag h).joinOwn (by simpa using hr) (by simpa using hs.equipped (p := p) (by simp [h])) e cls

theorem KeepsClaims.answerDefer (e : EntryNo) (s : State) (d : Defer) : s.KeepsClaims (State.answerDefer e s d) := by
  have wrote (x : Entry) : s.KeepsClaims (s.writeEntry e x) := .of_spares (.writeEntry ..)
  unfold State.answerDefer
  refine .ite (.refl s) (.ite (.after (.of_spares (.place ..)) (wrote _)) ?_)
  dsimp only
  split
  · exact wrote _
  · split
    · next h =>
      have deferred := beq_iff_eq.1 h
      split
      · exact .after (.holdOffDeferred deferred) (wrote _)
      · exact .after (.joinDeferred deferred ..) (wrote _)
      · exact .after (.holdOffDeferred deferred) (wrote _)
    · exact wrote _

theorem KeepsClaims.answerDefers (s : State) (e : EntryNo) : s.KeepsClaims (s.answerDefers e) :=
  .foldl (KeepsClaims.answerDefer e) _ s

theorem KeepsClaims.closeEntry (s : State) (e : EntryNo) (v : Verdict) (forced : Bool) :
    s.KeepsClaims (s.closeEntry e v forced) :=
  .after (.answerDefers ..) (.of_unlinks (.unlinkAll s e v forced))

theorem KeepsClaims.loseEntry (s : State) (e : EntryNo) : s.KeepsClaims (s.loseEntry e) := .of_unlinks (.loseEntry s e)

theorem KeepsClaims.readEntry (s : State) (e : EntryNo) : s.KeepsClaims (s.readEntry e) := .of_unlinks (.readEntry s e)

/-! ### Claims of this station's own pairs (R85 to R90) -/

theorem localJoin_running (s : State) (e : EntryNo) (p : Pair) (cls : FaultClass) :
    (s.localJoin e p cls).running = s.running := by
  unfold State.localJoin
  dsimp only
  (repeat' split) <;> simp

/-- A pair that holds nothing joins an incident owned here, or is DEFERRED (R85, R118). -/
theorem Vacated.localJoin {s : State} {p : Pair} (h : s.Vacated p) (hr : s.running = true) (hs : s.service p = .equipped)
    (e : EntryNo) (cls : FaultClass) : (s.localJoin e p cls).Settled := by
  have deferred : ((s.allocateTag p cls).setClaim p (.deferred s.freeTag) (some (s.now + 10000))).Settled := by
    refine h.toSettledBut.settled (fun q => ?_) (h.bare.ok_deferred hs s.freeTag cls)
    have allocated := standing_allocateTag h.heldTags h.bare.noTag cls
    rw [standing_setClaim, allocated, allocated]
    split
    · rw [if_pos rfl]
    · rfl
  unfold State.localJoin
  dsimp only
  split
  · exact h.joinOwn hr hs e cls
  · split
    · exact ((SparesClaims.writeEntry s e _).vacated (by simpa using hr) h).link (by simpa using hs)
        (.inr ⟨cls, true, rfl⟩) none
    · split
      · exact (KeepsClaims.of_spares (.writeEntry ..)).kept (fun _ => deferred) (by simpa using hr)
      · exact deferred

/-- A claim made for a pair that holds nothing (R85). -/
theorem Vacated.claimMake {s : State} {p : Pair} (h : s.Vacated p) (hs : s.service p = .equipped)
    (hc : ∀ cls, (s.pair p).claim ≠ .linked cls true) (cls : FaultClass) (hr : (s.claimMake p cls).running = true) :
    (s.claimMake p cls).Settled := by
  unfold State.claimMake at hr ⊢
  split at hr
  · exact h.claimPending (by simpa using hr) hs cls
  · next e _ =>
    dsimp only at hr ⊢
    by_cases run : (s.readEntry e).running = true
    · obtain ⟨vacated, same⟩ := (Unlinks.readEntry s e).vacated run h hc
      have equipped : (s.readEntry e).service p = .equipped := (congrArg Standing.service same).trans hs
      simp only [run, Bool.not_true, Bool.false_eq_true, if_false] at hr ⊢
      split
      · exact vacated.claimPending run equipped cls
      · exact vacated.localJoin run equipped e cls
    · simp [run] at hr

theorem claimMake_running {s : State} {p : Pair} {cls : FaultClass} (h : (s.claimMake p cls).running = true) :
    s.running = true := by
  unfold State.claimMake at h
  split at h
  · simpa using h
  · next e _ =>
    refine (Unlinks.readEntry s e).running ?_
    dsimp only at h
    split at h
    · exact h
    · split at h
      · simpa using h
      · rwa [localJoin_running] at h

end State
end Sys2Proof.Machine
end

section
/-! PROOFS. The standings through the claim logic (R85 to R90): a pair's standing ends, a pair leaves its incident, and a claim is
made or turned. -/

namespace Sys2Proof.Machine
namespace State

@[simp] theorem withdrawClaim_running (s : State) (p : Pair) : (s.withdrawClaim p).running = s.running := by
  simp [State.withdrawClaim]

@[simp] theorem withdrawClaim_service (s : State) (p q : Pair) : (s.withdrawClaim p).service q = s.service q := by
  simp [State.withdrawClaim]

@[simp] theorem withdrawClaim_pair (s : State) (p q : Pair) : (s.withdrawClaim p).pair q = s.pair q := by
  simp [State.withdrawClaim]

@[simp] theorem claim_setClaim (s : State) (p : Pair) (c : ClaimState) (t : Option Nat) :
    ((s.setClaim p c t).pair p).claim = c := by simp [State.setClaim]

theorem Unlinks.localLeave (s : State) (k : Key) (p : Pair) : s.Unlinks (s.localLeave k p) := by
  unfold State.localLeave
  split
  · exact .refl s
  · exact .after (.ite (.of_spares (.leaveEntry ..)) (.refl _)) (.readEntry ..)

/-- The standing of a pair has ended: every pair is sound, and this one has no claim (R89). -/
structure Unclaimed (s : State) (p : Pair) : Prop where
  settled : s.Settled
  claim : (s.pair p).claim = .unclaimed

theorem Unclaimed.vacated {s : State} {p : Pair} (h : s.Unclaimed p) : s.Vacated p := h.settled.vacated (.inl h.claim)

theorem Vacated.unclaimed {s : State} {p : Pair} (h : s.Vacated p) (t : Option Nat) :
    (s.setClaim p .unclaimed t).Unclaimed p := ⟨h.unclaim t, claim_setClaim ..⟩

theorem SparesClaims.unclaimed {s t : State} (h : s.SparesClaims t) (ht : t.running = true) {p : Pair}
    (hs : s.Unclaimed p) : t.Unclaimed p :=
  ⟨fun q => h.standing ht q ▸ hs.settled q, (congrArg Standing.claim (h.standing ht p)).trans hs.claim⟩

theorem Unlinks.unclaimed {s t : State} (h : s.Unlinks t) (ht : t.running = true) {p : Pair} (hs : s.Unclaimed p) :
    t.Unclaimed p := by
  obtain ⟨-, same⟩ := h.spared ht p (hs.settled.but p) (by simp [hs.claim])
  exact ⟨h.settled ht hs.settled, (congrArg Standing.claim same).trans hs.claim⟩

theorem leaveIncident_running {s : State} {p : Pair} {cls : FaultClass} {owned : Bool}
    (h : (s.leaveIncident p cls owned).running = true) : s.running = true := by
  unfold State.leaveIncident at h
  dsimp only at h
  split at h
  · simpa using (Unlinks.localLeave _ _ p).running h
  · simpa using h

/-- A LINKED pair leaves its incident (R86). -/
theorem Settled.leaveIncident {s : State} (hs : s.Settled) {p : Pair} {cls : FaultClass} {owned : Bool}
    (h : (s.pair p).claim = .linked cls owned) (hr : (s.leaveIncident p cls owned).running = true) :
    (s.leaveIncident p cls owned).Unclaimed p := by
  unfold State.leaveIncident at hr ⊢
  dsimp only at hr ⊢
  cases owned with
  | true => exact (Unlinks.localLeave ..).unclaimed hr ((hs.vacated (.inr (.inr ⟨cls, h⟩))).unclaimed none)
  | false =>
    have vacated := ((hs.but p).setClaim .unclaimed none).withdrawClaim (hs p).oneItem
    have claim : (((s.setClaim p .unclaimed none).withdrawClaim p).pair p).claim = .unclaimed := by simp
    have settled := vacated.settled (fun _ => claim) (by simp) (by simp)
    exact (SparesClaims.place _ (.leave p _)).unclaimed hr ⟨settled, claim⟩

theorem endStanding_running {s : State} {p : Pair} (h : (s.endStanding p).running = true) : s.running = true := by
  unfold State.endStanding at h
  split at h
  · exact h
  · simpa using h
  · simpa using h
  · exact leaveIncident_running h
  · simpa using h

/-- A pair's standing ends (R89, R168). -/
theorem Settled.endStanding {s : State} (hs : s.Settled) {p : Pair} (hr : (s.endStanding p).running = true) :
    (s.endStanding p).Unclaimed p := by
  unfold State.endStanding at hr ⊢
  split
  · next h => exact ⟨hs, h⟩
  · exact (hs.withdrawClaim p).unclaimed none
  · next t h => exact (hs.retireTag h).unclaimed none
  · next h => exact hs.leaveIncident h (by simpa [h] using hr)
  · next h => exact (hs.vacated (.inr (.inl h))).unclaimed none

/-- A claim is made PENDING, or joins locally, by what the entry found for its key says (R85, R88). -/
theorem KeepsClaims.turnClaim {s : State} {p : Pair} (hc : (s.pair p).claim = .pending) (cls : FaultClass) :
    s.KeepsClaims (s.turnClaim p cls) := by
  have anew (t : State) (ht : t.Settled) (hr : t.running = true) (hs : t.service p = .equipped) :
      ((t.retireTag p).claimPending p cls).Settled := by
    have retired := (ht.but p).write (standing_retireTag t p) (by simp)
    have held : (t.retireTag p).heldTags p = [] := congrArg Standing.tags ((standing_retireTag t p p).trans (if_pos rfl))
    exact retired.settled (standing_claimPending (by simpa using hr) retired.heldTags held cls)
      (Standing.ok_pending p _ (by simpa using hs) (ht p).oneItem)
  unfold State.turnClaim
  split
  · exact .intro (by simp) fun hr hs => anew s hs (by simpa using hr) (hs.equipped (by simp [hc]))
  · next e _ =>
    have read := Unlinks.readEntry s e
    dsimp only
    refine .intro (fun hr => read.running ?_) fun hr hs => ?_
    · split at hr
      · exact hr
      · split at hr
        · simpa using hr
        · simpa [localJoin_running] using hr
    · by_cases run : (s.readEntry e).running = true
      · obtain ⟨-, same⟩ := read.spared run p (hs.but p) (by simp [hc])
        have settled := read.settled run hs
        have equipped : (s.readEntry e).service p = .equipped :=
          (congrArg Standing.service same).trans (hs.equipped (by simp [hc]))
        simp only [run, Bool.not_true, Bool.false_eq_true, if_false] at hr ⊢
        split
        · exact anew _ settled run equipped
        · exact (settled.withdrawClaim p).localJoin (by simpa using run) (by simpa using equipped) e cls
      · simp [run] at hr

/-- What a FAULTED pair with a new class does with its claim (R87, R88). -/
theorem KeepsClaims.claimFor {s : State} {p : Pair} (he : s.service p = .equipped) (cls : FaultClass) :
    s.KeepsClaims (s.claimFor p cls) := by
  have made {t : State} (ht : s.Settled → t.Vacated p) (hr : t.running = true → s.running = true)
      (hs : t.service p = .equipped) (hc : ∀ cls, (t.pair p).claim ≠ .linked cls true) :
      s.KeepsClaims (t.claimMake p cls) :=
    .intro (fun h => hr (claimMake_running h)) fun h hs' => (ht hs').claimMake hs hc cls h
  unfold State.claimFor
  split
  · next hc => exact made (fun hs => hs.vacated (.inl hc)) id he (by simp [hc])
  · next hc => exact .ite (.refl s) (.turnClaim hc cls)
  · next hc => exact .ite (.refl s) (made (fun hs => hs.retireTag hc) (by simp) (by simpa using he) (by simp [hc]))
  · next k owned hc =>
    refine .ite (.refl s) ?_
    dsimp only
    by_cases run : (s.leaveIncident p k owned).running = true
    · rw [if_pos run]
      have left (hs : s.Settled) := hs.leaveIncident hc run
      refine .intro (fun _ => leaveIncident_running run) fun h hs => ?_
      have equipped : (s.leaveIncident p k owned).service p = .equipped := by
        rw [State.service, (SparesPool.leaveIncident ..).services]; exact he
      exact (left hs).vacated.claimMake equipped (by simp [(left hs).claim]) cls h
    · rw [if_neg run]
      exact ⟨fun _ h => absurd h run⟩
  · exact .refl s

theorem KeepsClaims.endStanding (s : State) (p : Pair) : s.KeepsClaims (s.endStanding p) :=
  .intro endStanding_running fun hr hs => (hs.endStanding hr).settled

theorem KeepsClaims.faultConsequence {s : State} {p : Pair} (he : s.service p = .equipped) (x : FaultStep) :
    s.KeepsClaims (s.faultConsequence p x) := by
  cases x with
  | quiet => exact .refl s
  | entered cls => exact .claimFor he cls
  | turned cls => exact .claimFor he cls
  | cleared => exact .endStanding s p

end State
end Sys2Proof.Machine
end

section
/-! PROOFS. The standings through the taking of an entry (R115) and through all that the station does of its own accord. -/

namespace Sys2Proof.Machine
namespace State

/-! ### Becoming owner (R115) -/

/-- A pair of this station joins the entry taken (R115). -/
theorem KeepsClaims.gather {s : State} {c : Bool} {p : Pair} (hc : c = true → (s.pair p).claim ≠ .unclaimed) (e : EntryNo)
    (cls : FaultClass) : s.KeepsClaims (if c then (s.withdrawClaim p).joinOwn e p cls else s) := by
  split
  · next h =>
    exact .intro (by simp) fun hr hs =>
      (hs.withdrawClaim p).joinOwn (by simpa using hr) (by simpa using hs.equipped (hc h)) e cls
  · exact .refl s

theorem KeepsClaims.gatherPending (e : EntryNo) (k : Key) (first : Pair) (s : State) (p : Pair) :
    s.KeepsClaims (State.gatherPending e k first s p) :=
  .gather (fun h => by simp only [Bool.and_eq_true, beq_iff_eq] at h; simp [h.1.1.2]) e k.cls

theorem KeepsClaims.gatherLinked (e : EntryNo) (k : Key) (first : Pair) (s : State) (p : Pair) :
    s.KeepsClaims (State.gatherLinked e k first s p) :=
  .gather (fun h => by simp only [Bool.and_eq_true, beq_iff_eq] at h; simp [h.1.2]) e k.cls

theorem Unlinks.readToTake (s : State) (k : Key) : s.Unlinks (s.readToTake k) := by
  unfold State.readToTake
  split
  · exact .refl s
  · exact .readEntry ..

/-- A claim that no station answered, its item gone: PENDING or LINKED elsewhere, with its tag (R114 to R116). -/
structure Unanswered (s : State) (p : Pair) : Prop extends s.SettledBut p where
  noItem : s.claimItems p = []
  tag : s.heldTags p ≠ []
  service : s.service p = .equipped
  claim : (s.pair p).claim = .pending ∨ ∃ cls, (s.pair p).claim = .linked cls false

theorem Unanswered.of_standing {s t : State} {p : Pair} (h : s.Unanswered p) (but : t.SettledBut p)
    (same : t.standing p = s.standing p) : t.Unanswered p :=
  ⟨but, (congrArg Standing.items same).trans h.noItem, (congrArg Standing.tags same).trans_ne h.tag,
    (congrArg Standing.service same).trans h.service, by
      rw [show (t.pair p).claim = (s.pair p).claim from congrArg Standing.claim same]; exact h.claim⟩

theorem Unanswered.unlinks {s t : State} {p : Pair} (h : s.Unanswered p) (u : s.Unlinks t) (ht : t.running = true) :
    t.Unanswered p := by
  have away (cls : FaultClass) : (s.pair p).claim ≠ .linked cls true := by
    obtain hc | ⟨_, hc⟩ := h.claim <;> simp [hc]
  obtain ⟨but, same⟩ := u.spared ht p h.toSettledBut away
  exact h.of_standing but same

/-- The claim stands and contends again (log entry 31). -/
theorem Unanswered.place {s : State} {p : Pair} (h : s.Unanswered p) (hr : s.running = true) :
    (s.place (.faultClaim p)).Settled := by
  refine h.toSettledBut.settled (standing_place hr h.noItem) ?_
  refine ⟨fun hn => absurd h.service hn, h.oneTag, by simp, fun i hi => ?_, ?_⟩
  · exact Standing.carries_of_unbuilt (by rw [List.mem_singleton.1 hi]; rfl)
  · have stands : (!(newItem (.faultClaim p)).withdrawn) = true := rfl
    obtain hc | ⟨cls, hc⟩ := h.claim <;> simp [Standing.Agrees, Standing.stands, hc, h.tag, stands]

/-- The claim becomes a link, its tag retired (R114 to R116). -/
theorem Unanswered.link {s : State} {p : Pair} (h : s.Unanswered p) (cls : FaultClass) (owned : Bool) (t : Option Nat) :
    ((s.retireTag p).setClaim p (.linked cls owned) t).Settled := by
  have written := standing_retireTag s p
  have vacated : (s.retireTag p).Vacated p := by
    refine ⟨h.toSettledBut.write written (by simp), ?_⟩
    rw [written, if_pos rfl]
    exact ⟨rfl, by simp [h.noItem], by simp [h.noItem]⟩
  exact vacated.link (by simpa using h.service) (.inr ⟨cls, owned, rfl⟩) t

/-- The other pairs of this station with a claim for the key join the entry taken, PENDING ones first (R115). -/
def gatherAll (s : State) (e : EntryNo) (k : Key) (first : Pair) : State :=
  allPairs.foldl (State.gatherLinked e k first) (allPairs.foldl (State.gatherPending e k first) s)

theorem gatherAll_running (s : State) (e : EntryNo) (k : Key) (first : Pair) :
    (s.gatherAll e k first).running = s.running := by
  have folded (f : State → Pair → State) (h : ∀ s p, (f s p).running = s.running) (ps : List Pair) (t : State) :
      (ps.foldl f t).running = t.running := by
    induction ps generalizing t with
    | nil => rfl
    | cons p rest ih => exact (ih _).trans (h t p)
  refine (folded _ (fun t p => ?_) _ _).trans (folded _ (fun t p => ?_) _ s)
  · unfold State.gatherLinked; split <;> simp
  · unfold State.gatherPending; split <;> simp

theorem KeepsClaims.gatherAll (s : State) (e : EntryNo) (k : Key) (first : Pair) :
    s.KeepsClaims (s.gatherAll e k first) :=
  .after (.foldl (KeepsClaims.gatherLinked e k first) _ _) (.foldl (KeepsClaims.gatherPending e k first) _ s)

/-- The pair's own claim becomes a link to the entry taken, and the others join it (R115). -/
def takeEntry (s : State) (e : EntryNo) (k : Key) (p : Pair) : State :=
  (((s.writeEntry e ((s.entry e).taken k s.now s.straps.station (pairNo p))).retireTag p).setClaim p
    (.linked k.cls true) none).gatherAll e k p

/-- An entry is looked for twice, and read each time, before one is taken (R115, R131). -/
def lookForEntry (s : State) (k : Key) : State := (s.readToTake k).readToTake k

theorem becomeOwner_eq (s : State) (k : Key) (p : Pair) : s.becomeOwner k p =
    if !(s.lookForEntry k).running then s.lookForEntry k
    else match (s.lookForEntry k).entryToTake k with
      | none => (s.lookForEntry k).place (.faultClaim p)
      | some e => (s.lookForEntry k).takeEntry e k p := rfl

theorem Unlinks.lookForEntry (s : State) (k : Key) : s.Unlinks (s.lookForEntry k) :=
  .after (.readToTake ..) (.readToTake s k)

theorem takeEntry_running (s : State) (e : EntryNo) (k : Key) (p : Pair) : (s.takeEntry e k p).running = s.running := by
  rw [takeEntry, gatherAll_running]; simp

theorem becomeOwner_running {s : State} {k : Key} {p : Pair} (h : (s.becomeOwner k p).running = true) :
    (s.lookForEntry k).running = true := by
  rw [becomeOwner_eq] at h
  split at h
  · exact h
  · split at h
    · simpa using h
    · rwa [takeEntry_running] at h

theorem Unanswered.takeEntry {s : State} {p : Pair} (h : s.Unanswered p) (hr : s.running = true) (e : EntryNo) (k : Key) :
    (s.takeEntry e k p).Settled := by
  have wrote := SparesClaims.writeEntry s e ((s.entry e).taken k s.now s.straps.station (pairNo p))
  have there := h.unlinks (.of_spares wrote) (by simpa using hr)
  exact (KeepsClaims.gatherAll ..).kept (fun _ => there.link k.cls true none) (by rw [gatherAll_running]; simpa using hr)

theorem Unanswered.becomeOwner {s : State} {p : Pair} (h : s.Unanswered p) (k : Key)
    (hr : (s.becomeOwner k p).running = true) : (s.becomeOwner k p).Settled := by
  have run := becomeOwner_running hr
  have there := h.unlinks (.lookForEntry s k) run
  rw [becomeOwner_eq, if_neg (by simp [run])]
  split
  · exact there.place run
  · exact there.takeEntry run _ k

/-! ### Jobs, and what the station does of its own accord (chapters 7 and 8) -/

theorem SparesClaims.beginConfirmation (s : State) (e : EntryNo) : s.SparesClaims (s.beginConfirmation e) := by
  unfold State.beginConfirmation
  dsimp only
  split
  · exact .refl s
  · exact .ite (.writeEntry ..) (.ite (.writeEntry ..) (.after (.setBus _ _) (.writeEntry ..)))

theorem KeepsClaims.writeEntry (s : State) (e : EntryNo) (x : Entry) : s.KeepsClaims (s.writeEntry e x) :=
  .of_spares (.writeEntry ..)

theorem KeepsClaims.concludeRun (s : State) (result : RunResult) : s.KeepsClaims (s.concludeRun result) := by
  unfold State.concludeRun
  split
  · exact .refl s
  · exact .after (.ite (.refl _) (.ite (.closeEntry ..)
      (.after (.ite (.refl _) (.writeEntry ..)) (.after (.answerDefers ..) (.writeEntry ..)))))
      (.after (.readEntry ..) (.of_spares (.clearRun s)))

theorem SparesClaims.endTest (s : State) (outcome : TestOutcome) (legs : List LegRecord) :
    s.SparesClaims (s.endTest outcome legs) := by
  unfold State.endTest
  split
  · exact .refl s
  · exact .after (.place _ _) (.setBus s _)

theorem SparesClaims.beginMeasurement (s : State) (station : StationNo) (pair : PairNo) (forRun : Bool) :
    s.SparesClaims (s.beginMeasurement station pair forRun) := .ite (.setUnit _ _) (.refl s)

theorem SparesClaims.accessOwn (s : State) (p : Pair) (forRun : Bool) : s.SparesClaims (s.accessOwn p forRun) :=
  .after (.beginMeasurement ..) (.beginAccess ..)

theorem SparesClaims.abandonLocal (s : State) (p : Pair) : s.SparesClaims (s.abandonLocal p) := by
  unfold State.abandonLocal
  split
  · exact .refl s
  · exact .ite (.after (.ite (.setBus _ _) (.endTest ..)) (.stopUnit s)) (.refl s)

theorem SparesClaims.cutAccess (s : State) (p : Pair) : s.SparesClaims (s.cutAccess p) :=
  .ite (.after (.abandonLocal ..) (.endAccess s)) (.refl s)

theorem SparesClaims.leaveMine (s : State) (view : BusHolder) : s.SparesClaims (s.leaveMine view) := .of_claimFields rfl

theorem KeepsClaims.loseLock (s : State) (view : BusHolder) : s.KeepsClaims (s.loseLock view) :=
  .after (.concludeRun ..) (.of_spares (.after (.ite (.endTest ..) (.refl _))
    (.after (.leaveMine ..) (.after (.withdraw _ _) (.endLocalAccess s)))))

/-- A next action, where there is one, keeps the claims. -/
def ClaimsKeptBy (s : State) (o : Option State) : Prop := ∀ t, o = some t → s.KeepsClaims t

theorem ClaimsKeptBy.none {s : State} : s.ClaimsKeptBy .none := fun _ h => absurd h (Option.some_ne_none _).symm

theorem ClaimsKeptBy.some {s t : State} (h : s.KeepsClaims t) : s.ClaimsKeptBy (.some t) :=
  fun _ e => Option.some.inj e ▸ h

theorem ClaimsKeptBy.spare {s t : State} (h : s.SparesClaims t) : s.ClaimsKeptBy (.some t) := .some (.of_spares h)

theorem ClaimsKeptBy.ite {s : State} {o o' : Option State} {c : Prop} [Decidable c] (h : s.ClaimsKeptBy o)
    (h' : s.ClaimsKeptBy o') : s.ClaimsKeptBy (if c then o else o') := by
  split <;> assumption

theorem ClaimsKeptBy.dueStep (s : State) : s.ClaimsKeptBy s.dueStep := by
  unfold State.dueStep
  refine .ite .none ?_
  split
  · exact .some (.loseEntry ..)
  · split
    · exact .spare (.of_claimFields rfl)
    · exact .spare (.beginConfirmation ..)
    · exact .spare (.after (.beginConfirmation ..) (.of_claimFields rfl))

theorem ClaimsKeptBy.visitMember (s : State) (run : Run) (m : Member) : s.ClaimsKeptBy (s.visitMember run m) := by
  have skip : s.ClaimsKeptBy (.some { s with bus := { s.bus with position := s.bus.position + 1 } }) := .spare (.setBus _ _)
  unfold State.visitMember
  refine .ite skip (.ite ?_ (.ite .none (.spare (.place _ _))))
  split
  · exact skip
  · exact .ite skip (.spare (.accessOwn ..))

theorem SparesClaims.startTest (s : State) (t : UplinkTest) : s.SparesClaims (s.startTest t) :=
  .ite (.endTest ..) (.ite (.endTest ..) (.after (.accessOwn ..) (.setBus _ _)))

theorem ClaimsKeptBy.holderStep (s : State) : s.ClaimsKeptBy s.holderStep := by
  have placed (k : ItemKind) (h : ∀ p, itemRef k ≠ .faultClaim p := by nofun) : s.ClaimsKeptBy (.some (s.place k)) :=
    .spare (.place s k h)
  have concluded (r : RunResult) : s.ClaimsKeptBy (.some (s.concludeRun r)) := .some (.concludeRun s r)
  have unlocked : s.ClaimsKeptBy (.some { (s.place .unlock) with bus := { s.bus with unlockDue := false } }) :=
    .spare (.after (.setBus _ _) (.place s .unlock))
  unfold State.holderStep
  refine .ite .none (.ite ?remote (.ite (.ite .none unlocked) (.ite (.ite .none (placed _)) (.ite .none ?job))))
  case remote =>
    split
    · exact .ite .none (placed _)
    · exact .none
  case job =>
    split
    · refine .ite ?_ (.ite .none (.ite (concluded _) (.spare (.setBus _ _))))
      split
      · refine .ite (concluded _) (.ite .none ?_)
        split
        · split
          · exact .visitMember _ _ _
          · exact .none
        · exact .visitMember _ _ _
      · exact concluded _
    · refine .ite .none ?_
      split
      · exact .ite (.ite (.spare (.endTest ..)) (.spare (.startTest ..))) (.ite .none (placed _))
      · exact .ite .none (placed _)

theorem ClaimsKeptBy.busStep (s : State) : s.ClaimsKeptBy s.busStep := by
  unfold State.busStep
  refine .ite .none ?_
  split
  · exact .holderStep s
  · exact .ite (.spare (.withdraw _ _)) (.ite (.spare (.place _ _)) .none)
  · exact .ite (.spare (.withdraw _ _)) .none

theorem KeepsClaims.settle (s : State) : s.KeepsClaims s.settle := by
  have next {s t : State} (h : s.nextStep = some t) : s.KeepsClaims t := by
    unfold State.nextStep at h
    split at h
    · next due => exact Option.some.inj h ▸ ClaimsKeptBy.dueStep s _ due
    · exact ClaimsKeptBy.busStep s t h
  have upTo (n : Nat) (s : State) : s.KeepsClaims (s.settleUpTo n) := by
    induction n generalizing s with
    | zero => exact .refl s
    | succ n ih =>
      unfold State.settleUpTo
      split
      · exact .refl s
      · next t h => exact (next h).trans (ih t)
  exact upTo 400 s

theorem KeepsClaims.settleIf (s : State) (changed : Bool) : s.KeepsClaims (s.settleIf changed) := .ite (.settle s) (.refl s)

/-- A next state that leaves every standing, and what the station then does of its own accord. -/
theorem KeepsClaims.thenSettle {s t : State} (h : s.SparesClaims t) : s.KeepsClaims t.settle := .after (.settle t) (.of_spares h)

theorem KeepsClaims.onEntry {s : State} {act : State → State} (e : EntryNo) (h : s.KeepsClaims (act s)) :
    s.KeepsClaims (s.onEntry e act) :=
  .ite h (.after (.settle _) (.loseEntry s e))

end State
end Sys2Proof.Machine
end

section
/-! PROOFS. The standings through the frames received, the tone pool and the commands (chapters 4, 6 to 8 and 10). -/

namespace Sys2Proof.Machine
namespace State

/-! ### Frames received (chapters 6 to 8) -/

theorem KeepsClaims.receive {s : State} {act : State → State} (kind : FrameKind) (f : RxFrame)
    (h : ∀ t : State, t.KeepsClaims (act t)) : s.KeepsClaims (s.receive kind f act) := by
  unfold State.receive
  refine .ite (.refl s) ?_
  split
  · exact .of_spares (.enterFailed s)
  · exact .of_spares .of_claimFields
  · exact .of_spares .of_claimFields
  · exact .after (h _) (.of_spares (.of_claimFields rfl))

theorem KeepsClaims.takeLock (f : RxFrame) (ownSeen : Bool) (s : State) : s.KeepsClaims (s.takeLock f ownSeen) := by
  unfold State.takeLock
  split
  · exact .of_spares (.drive ..)
  · exact .after (.ite (.refl _) (.thenSettle (.setView ..))) (.of_spares (.drive s ackCell))

/-- The view leaves MINE by the loss of the lock alone (R134, R144). -/
theorem KeepsClaims.changeView (s : State) (v : BusHolder) :
    s.KeepsClaims (if s.bus.view == .mine then s.loseLock v else s.setView v) :=
  .ite (.loseLock s v) (.of_spares (.setView s v))

theorem KeepsClaims.takeUnlock (s : State) : s.KeepsClaims s.takeUnlock :=
  .after (.settle _) (.after (.changeView ..) (.of_spares (.drive s ackCell)))

theorem KeepsClaims.noteTestFrame (s : State) (kind : TestBusFrame) (sender : StationNo) :
    s.KeepsClaims (s.noteTestFrame kind sender) := by
  unfold State.noteTestFrame
  split
  · split
    · exact .ite (.of_spares (.setView ..)) (.refl s)
    · exact .refl s
    · exact .refl s
  · exact .changeView ..
  · exact .changeView ..

theorem SparesClaims.answerQuiet (s : State) (sender : StationNo) (pair : PairNo) (confirmation : Bool)
    (cls : FaultClass) : s.SparesClaims (s.answerQuiet sender pair confirmation cls) := by
  unfold State.answerQuiet
  split
  · exact .refl s
  · exact .ite (.refl s) (.ite (.drive ..) (.after (.drive ..) (.beginAccess ..)))

theorem SparesClaims.answerRelease (s : State) (pair : PairNo) : s.SparesClaims (s.answerRelease pair) := by
  unfold State.answerRelease
  dsimp only
  split
  · exact .drive ..
  · exact .after (.cutAccess ..) (.drive ..)

theorem KeepsClaims.takeTestFrame (kind : TestBusFrame) (f : RxFrame) (s : State) :
    s.KeepsClaims (s.takeTestFrame kind f) := by
  refine .after (.settle _) (.after (.of_spares (.ite ?_ (.refl _))) (.noteTestFrame s kind f.sender))
  unfold State.answerTestFrame
  split
  · exact .answerQuiet ..
  · exact .answerRelease ..
  · exact .refl _

theorem SparesClaims.answerClaim (s : State) (e : EntryNo) (st : StationNo) (pr : PairNo) (tag : BitVec 5)
    (renew : Bool) : s.SparesClaims (s.answerClaim e st pr tag renew) := by
  unfold State.answerClaim
  refine .ite ?_ (.after (.drive ..) (.writeEntry ..))
  split
  · exact .drive ..
  · exact .after (.drive ..) (.writeEntry ..)

theorem KeepsClaims.takeClaim (st : StationNo) (key : Key) (pr : PairNo) (tag : BitVec 5) (renew : Bool) (s : State) :
    s.KeepsClaims (s.takeClaim st key pr tag renew) := by
  unfold State.takeClaim
  dsimp only
  refine .trans (.of_spares (.drive s ackCell)) ?_
  split
  · exact .refl _
  · exact .after (.ite (.refl _) (.ite (.settle _) (.thenSettle (.answerClaim ..)))) (.readEntry ..)

theorem KeepsClaims.takeLeave (st : StationNo) (key : Key) (pr : PairNo) (s : State) :
    s.KeepsClaims (s.takeLeave st key pr) := by
  unfold State.takeLeave
  dsimp only
  refine .trans (.of_spares (.drive s ackCell)) ?_
  split
  · exact .refl _
  · exact .after (.ite (.refl _) (.ite (.settle _) (.of_spares (.leaveEntry ..)))) (.readEntry ..)

/-- A reply to an outstanding token retires the tag of a DEFERRED pair (R126). -/
theorem KeepsClaims.takeDeferredReply (tag : BitVec 5) (pr : PairNo) (key : Key) (joined : Bool) (s : State) :
    s.KeepsClaims (s.takeDeferredReply tag pr key joined) := by
  unfold State.takeDeferredReply
  split
  · exact .refl s
  split
  · next p _ outstanding =>
    have deferred : (s.pair p).claim = .deferred tag.toFin := by
      simp only [tokenOutstanding, Bool.and_eq_true, beq_iff_eq] at outstanding
      exact outstanding.1.1
    have driven := SparesClaims.drive (s.retireTag p) ackCell
    refine .intro (fun hr => ?_) fun hr hs => ?_
    · cases joined <;> simpa using hr
    · have running : ((s.retireTag p).drive ackCell).running = true := by cases joined <;> simpa using hr
      have vacated := driven.vacated running (hs.retireTag deferred)
      have equipped : ((s.retireTag p).drive ackCell).service p = .equipped := by
        simpa using hs.equipped (p := p) (by simp [deferred])
      cases joined with
      | true => exact vacated.link equipped (.inr ⟨_, _, rfl⟩) _
      | false => exact vacated.holdOff equipped
  · exact .refl s

/-- A pair that holds nothing after a CLOSED report is held off or claims anew (R129). -/
theorem KeepsClaims.afterClosed {s t : State} {p : Pair} (running : t.running = true → s.running = true)
    (vacated : s.Settled → t.Vacated p) (equipped : s.Settled → t.service p = .equipped) (forced : Bool)
    (cls : FaultClass) :
    s.KeepsClaims (if forced then t.holdOff p else (t.setClaim p .unclaimed none).claimMake p cls) := by
  cases forced with
  | true => exact .intro (fun hr => running (by simpa using hr)) fun _ hs => (vacated hs).holdOff (equipped hs)
  | false =>
    refine .intro (fun hr => running (by simpa using claimMake_running hr)) fun hr hs => ?_
    exact ((vacated hs).setClaim .unclaimed none).claimMake (by simpa using equipped hs) (by simp) cls hr

theorem KeepsClaims.hearClosed (key : Key) (forced : Bool) (s : State) (p : Pair) :
    s.KeepsClaims (State.hearClosed key forced s p) := by
  unfold State.hearClosed
  refine .ite (.refl s) ?_
  split
  · next linked =>
    exact .ite (.afterClosed (by simp) (fun hs => hs.withdrawClaim p)
      (fun hs => by simpa using hs.equipped (p := p) (by simp [linked])) forced _) (.refl s)
  · next deferred =>
    exact .ite (.afterClosed (by simp) (fun hs => hs.retireTag deferred)
      (fun hs => by simpa using hs.equipped (p := p) (by simp [deferred])) forced _) (.refl s)
  · exact .refl s

theorem KeepsClaims.faultClaimReceived (f : RxFrame) (s : State) : s.KeepsClaims (faultClaimReceived f s) := by
  refine .receive _ f fun t => ?_
  split
  · exact .takeClaim ..
  · exact .refl t

theorem KeepsClaims.leaveReceived (f : RxFrame) (s : State) : s.KeepsClaims (leaveReceived f s) := by
  refine .receive _ f fun t => ?_
  split
  · exact .takeLeave ..
  · exact .refl t

theorem KeepsClaims.testFrameReceived (kind : TestBusFrame) (f : RxFrame) (s : State) :
    s.KeepsClaims (testFrameReceived kind f s) := .receive _ f fun t => .takeTestFrame kind f t

theorem SparesClaims.unhandledKindFrame (s : State) : s.SparesClaims (unhandledKindFrame s) :=
  .ite (.of_claimFields rfl) (.refl s)

theorem KeepsClaims.deferredReplyReceived (f : RxFrame) (s : State) : s.KeepsClaims (deferredReplyReceived f s) := by
  refine .receive _ f fun t => .ite (.refl t) ?_
  split
  · exact .takeDeferredReply ..
  · exact .refl t

theorem KeepsClaims.incidentSnooped (f : RxFrame) (s : State) : s.KeepsClaims (incidentSnooped f s) := by
  refine .receive _ f fun t => ?_
  split
  · exact .ite (.after (.settle _) (.foldl (KeepsClaims.hearClosed _ _) _ t)) (.refl t)
  · exact .refl t

/-! ### The tone pool (chapter 4) -/

theorem SparesClaims.lend (s : State) (r : ReceiverNo) (p : Pair) : s.SparesClaims (s.lend r p) :=
  .after (.setReceiver ..) (.modPair fun _ => rfl)

theorem SparesClaims.requestReceiver (s : State) (p : Pair) : s.SparesClaims (s.requestReceiver p) := by
  unfold State.requestReceiver
  split
  · exact .refl s
  · split
    · exact .lend ..
    · exact .of_claimFields rfl

theorem SparesClaims.releaseReceiver (s : State) (r : ReceiverNo) : s.SparesClaims (s.releaseReceiver r) := by
  have passed (t : State) : t.SparesClaims (t.passOn r) := by
    unfold passOn
    split
    · exact .setReceiver ..
    · exact .after (.appendEvent ..) (.after (.lend ..) (.of_claimFields rfl))
  cases hr : (s.receiver r).pair with
  | none => rw [releaseReceiver_of_unserved hr]; exact passed s
  | some p => rw [releaseReceiver_of_served hr]; exact .after (passed _) (.modPair fun _ => rfl)

theorem SparesClaims.dropReceiver (s : State) (p : Pair) : s.SparesClaims (s.dropReceiver p) := by
  unfold State.dropReceiver
  split
  · exact .releaseReceiver ..
  · exact .of_claimFields rfl

theorem SparesClaims.reclaimReceiver (s : State) (p : Pair) : s.SparesClaims (s.reclaimReceiver p) := by
  unfold State.reclaimReceiver
  dsimp only
  split
  · exact .after (.releaseReceiver ..) (.of_claimFields rfl)
  · exact .of_claimFields rfl

theorem SparesClaims.poolMessage (s : State) (p : Pair) (m : PoolMessage) : s.SparesClaims (s.poolMessage p m) := by
  cases m with
  | silent => exact .refl s
  | request => exact .requestReceiver s p
  | release => exact .dropReceiver s p

theorem SparesClaims.noteAudio (s : State) (p : Pair) : s.SparesClaims (s.noteAudio p) := by
  unfold State.noteAudio
  split
  · exact .refl s
  · exact .setReceiver ..

theorem SparesClaims.completeBlock (s : State) (r : ReceiverNo) (p : Pair) (samples : List Int) :
    s.SparesClaims (s.completeBlock r p samples) := by
  unfold State.completeBlock
  dsimp only
  split
  · exact .setReceiver ..
  · exact .after (.appendEvent ..) (.after (.modPair fun _ => rfl) (.after (.setReceiver ..) (.setReceiver ..)))

theorem SparesClaims.toneBlock (r : ReceiverNo) (samples : Vector Int 80) (s : State) :
    s.SparesClaims (toneBlock r samples s) := by
  unfold Machine.toneBlock
  refine .ite (.refl s) ?_
  split
  · exact .refl s
  · exact .completeBlock ..

theorem SparesClaims.digitPause (r : ReceiverNo) (s : State) : s.SparesClaims (digitPause r s) := by
  unfold Machine.digitPause
  refine .ite (.refl s) ?_
  split
  · exact .refl s
  · exact .ite (.refl s) (.after (.releaseReceiver ..) (.elapseTo ..))

theorem SparesClaims.noDigit (r : ReceiverNo) (s : State) : s.SparesClaims (noDigit r s) := by
  unfold Machine.noDigit
  refine .ite (.refl s) ?_
  split
  · exact .ite (.refl s) (.after (.releaseReceiver ..) (.elapseTo ..))
  · exact .refl s

/-! ### Commands and replies (chapter 10) -/

/-- The record of a pair that holds nothing is made anew (R6 to R8). -/
theorem Vacated.renewPair {s : State} {p : Pair} (h : s.Vacated p) {f : PairRecord → PairRecord}
    (fresh : ∀ r : PairRecord, (f r).claim = .unclaimed) : (s.modPair p f).Unclaimed p := by
  have written := standing_setPair s p (r := f (s.pair p))
  have bare : Standing.Bare { s.standing p with claim := (f (s.pair p)).claim } :=
    ⟨h.bare.noTag, h.bare.oneItem, h.bare.withdrawn⟩
  refine ⟨h.toSettledBut.settled written (bare.ok (fun _ => fresh _) ?_ ?_), ?_⟩
  · simp [fresh]
  · simp [fresh]
  · rw [pair_modPair_same]; exact fresh _

/-- A pair with no claim may change its service (R168, R169). -/
theorem Unclaimed.setService {s : State} {p : Pair} (h : s.Unclaimed p) (v : Service) : (s.setService p v).Settled := by
  obtain ⟨noTag, oneItem, withdrawn⟩ := h.vacated.bare
  refine (h.settled.but p).settled (standing_setService s p · v) ?_
  exact Standing.Bare.ok ⟨noTag, oneItem, withdrawn⟩ (fun _ => h.claim) (by simp [h.claim]) (by simp [h.claim])

theorem KeepsClaims.parkPair (s : State) (p : Pair) : s.KeepsClaims (s.parkPair p) := by
  refine .ite (.endStanding s p) (.after (.settle _) (.intro (fun hr => ?_) fun hr hs => ?_))
  all_goals
    have dropped := SparesClaims.dropReceiver (s.endStanding p) p
    have running : ((s.endStanding p).dropReceiver p).running = true := by simpa using hr
  · exact endStanding_running (dropped.running running)
  · have ended := dropped.unclaimed running (hs.endStanding (dropped.running running))
    exact (ended.vacated.renewPair fun _ => rfl).setService .parked

theorem KeepsClaims.unparkPair {s : State} {p : Pair} (h : s.service p = .parked) : s.KeepsClaims (s.unparkPair p) := by
  have cut := SparesClaims.cutAccess s p
  refine .after (.settleIf ..) (.intro (fun hr => cut.running (by simpa using hr)) fun hr hs => ?_)
  have none : s.Unclaimed p := ⟨hs, (hs p).unequipped (by simp [h])⟩
  exact ((cut.unclaimed (by simpa using hr) none).vacated.renewPair fun _ => rfl).setService .equipped

theorem SparesClaims.doTestPair (s : State) (pr : PairNo) : s.SparesClaims (s.doTestPair pr).state := by
  unfold State.doTestPair
  split
  · exact .refl s
  split
  · exact .refl s
  split
  · exact .refl s
  split
  · exact .refl s
  · exact .setBus s _

theorem KeepsClaims.doPark (s : State) (pr : PairNo) : s.KeepsClaims (s.doPark pr).state := by
  unfold State.doPark
  split
  · exact .refl s
  split
  · exact .refl s
  · exact .refl s
  split
  · exact .refl s
  · exact .parkPair ..

theorem KeepsClaims.doUnpark (s : State) (pr : PairNo) : s.KeepsClaims (s.doUnpark pr).state := by
  unfold State.doUnpark
  split
  · exact .refl s
  split
  · exact .refl s
  · exact .refl s
  · next h => exact .unparkPair h

theorem KeepsClaims.doClearIncident (s : State) (key : Key) : s.KeepsClaims (s.doClearIncident key).state := by
  unfold State.doClearIncident
  split
  · exact .refl s
  split
  · exact .after (.settle _) (.loseEntry ..)
  split
  · exact .refl s
  · exact .after (.settle _) (.closeEntry ..)

theorem KeepsClaims.carryOut (s : State) (c : Command) : s.KeepsClaims (s.carryOut c).state := by
  cases c with
  | queryPair index part => exact .refl s
  | queryIncident key page => exact .refl s
  | testPair pr => exact .of_spares (.doTestPair ..)
  | park pr => exact .doPark ..
  | unpark pr => exact .doUnpark ..
  | clearIncident key => exact .doClearIncident ..
  | restart => exact .refl s

theorem SparesClaims.occupy (s : State) (i : Fin 4) (r : ReplySlot) : s.SparesClaims (s.occupy i r) :=
  .after (.place ..) (.after (.drive ..) (.setSlot ..))

theorem KeepsClaims.takeCommand (sender : StationNo) (field : BitVec 2) (c : Command) (s : State) :
    s.KeepsClaims (s.takeCommand sender field c) := by
  unfold State.takeCommand
  split
  · exact .refl s
  · exact .ite (.after (.ite (.refl _) (.after (.settleIf ..) (.of_spares (.occupy ..)))) (KeepsClaims.carryOut s c))
      (.of_spares (.occupy ..))

theorem KeepsClaims.commandReceived (kind : LongKind) (f : RxFrame) (s : State) :
    s.KeepsClaims (commandReceived kind f s) := by
  refine .receive _ f fun t => .ite (.refl t) ?_
  split
  · exact .takeCommand ..
  · exact .refl t

end State
end Sys2Proof.Machine
end

section
/-! PROOFS. The standings through contention and a FAULT CLAIM's answer (R91, R105 to R109, R114 to R116): the frame built carries
the tag that its pair holds, so a deferral records the tag that was sent. -/

namespace Sys2Proof.Machine

namespace Standing

/-- The item that was sent, or is offered, is rewritten and stays as withdrawn as it was (R91, R105, R107, R109). -/
theorem Ok.rewritten {x : Standing} {i : Item} (h : x.Ok) (hi : x.items = [i]) {f : Item → Item}
    (hw : (f i).withdrawn = i.withdrawn) (hc : x.Carries (f i)) : Ok { x with items := x.items.map f } := by
  have stands : Standing.stands { x with items := x.items.map f } = x.stands := by simp [Standing.stands, hi, hw]
  refine ⟨h.unequipped, h.oneTag, by simpa using h.oneItem, fun j hj => ?_, ?_⟩
  · simp only [hi, List.map_cons, List.map_nil, List.mem_singleton] at hj
    exact hj ▸ hc
  · have agrees := h.agrees
    simpa only [Agrees, stands] using agrees

/-- A withdrawn item leaves (R108). -/
theorem Ok.removed {x : Standing} {i : Item} (h : x.Ok) (hi : x.items = [i]) (hw : i.withdrawn = true) :
    Ok { x with items := [] } := by
  have stands : Standing.stands { x with items := [] } = x.stands := by simp [Standing.stands, hi, hw]
  refine ⟨h.unequipped, h.oneTag, by simp, by simp, ?_⟩
  have agrees := h.agrees
  simpa only [Agrees, stands] using agrees

/-- A pair whose item stands is PENDING, or LINKED elsewhere with a renewal, and holds a tag (R84, R116). -/
theorem Ok.of_stands {x : Standing} (h : x.Ok) (hs : x.stands = true) :
    x.tags ≠ [] ∧ (x.claim = .pending ∨ ∃ cls, x.claim = .linked cls false) := by
  have agrees := h.agrees
  unfold Agrees at agrees
  split at agrees
  · next hc => exact ⟨agrees.1, .inl hc⟩
  · simp [hs] at agrees
  · next cls hc => exact ⟨agrees.2 hs, .inr ⟨cls, hc⟩⟩
  all_goals simp [hs] at agrees

end Standing

namespace State

/-! ### Contention and outcomes (chapter 6) -/

theorem itemRef_eq_faultClaim {k : ItemKind} {p : Pair} : itemRef k = .faultClaim p ↔ k = .faultClaim p := by
  cases k <;> simp [itemRef]

/-- The one FAULT CLAIM item of a pair. -/
theorem Settled.items_eq {s : State} (h : s.Settled) {p : Pair} {x : Item} (hx : x ∈ s.queue)
    (hk : x.kind = .faultClaim p) : (s.standing p).items = [x] := by
  have mem : x ∈ s.claimItems p := mem_claimItems.2 ⟨hx, hk⟩
  have one : (s.claimItems p).length ≤ 1 := (h p).oneItem
  rw [standing_items]
  match hl : s.claimItems p with
  | [] => simp [hl] at mem
  | [y] => rw [hl, List.mem_singleton] at mem; rw [mem]
  | _ :: _ :: _ => simp [hl] at one

/-- An item in the queue is rewritten: a FAULT CLAIM frame that is not superseded carries the tag held. -/
theorem KeepsClaims.rewriteItem {s : State} {x : Item} (hx : x ∈ s.queue) {f : Item → Item}
    (kind : ∀ i, (f i).kind = i.kind := by exact fun _ => rfl) (hw : (f x).withdrawn = x.withdrawn)
    (carries : ∀ p, x.kind = .faultClaim p → (s.standing p).Carries (f x)) :
    s.KeepsClaims (s.updateItem (itemRef x.kind) f) := by
  by_cases h : ∃ p, x.kind = .faultClaim p
  · obtain ⟨p, hk⟩ := h
    rw [show itemRef x.kind = .faultClaim p from itemRef_eq_faultClaim.2 hk]
    exact .intro (by simp) fun _ hs => (hs.but p).settled (standing_updateItem s p kind)
      ((hs p).rewritten (hs.items_eq hx hk) hw (carries p hk))
  · exact .of_spares (.updateItem _ _ (fun p e => h ⟨p, itemRef_eq_faultClaim.1 e⟩) kind)

/-- The content of an item's frame is discarded (R97, R105 to R107, R109). -/
theorem KeepsClaims.unbuildItem {s : State} {x : Item} (hx : x ∈ s.queue) {f : Item → Item}
    (kind : ∀ i, (f i).kind = i.kind := by exact fun _ => rfl) (content : (f x).content = none)
    (hw : (f x).withdrawn = x.withdrawn) : s.KeepsClaims (s.updateItem (itemRef x.kind) f) :=
  .rewriteItem hx kind hw fun _ _ => Standing.carries_of_unbuilt content

theorem KeepsClaims.removeWithdrawn {s : State} {x : Item} (hx : x ∈ s.queue) (hw : x.withdrawn = true) :
    s.KeepsClaims (s.removeItem (itemRef x.kind)) := by
  by_cases h : ∃ p, x.kind = .faultClaim p
  · obtain ⟨p, hk⟩ := h
    rw [show itemRef x.kind = .faultClaim p from itemRef_eq_faultClaim.2 hk]
    exact .intro (by simp) fun _ hs => (hs.but p).settled (standing_removeItem s p)
      ((hs p).removed (hs.items_eq hx hk) hw)
  · exact .of_spares (.removeItem _ _ fun p e => h ⟨p, itemRef_eq_faultClaim.1 e⟩)

theorem KeepsClaims.noAttempt {s : State} {x : Item} (hx : x ∈ s.queue) : s.KeepsClaims (s.noAttempt x) := by
  unfold State.noAttempt
  split
  · next hw => exact .removeWithdrawn hx hw
  · next hw => exact .unbuildItem hx (content := rfl) (hw := by simpa [clearBuild] using hw)

theorem KeepsClaims.buildReply (s : State) (r : ReplySlot) : s.KeepsClaims (s.buildReply r).1 := by
  have asked (key : Key) (page : BitVec 3) : s.KeepsClaims (s.incidentQuery key page).1 := by
    unfold State.incidentQuery
    split
    · exact .refl s
    split
    · exact .after (.settle _) (.loseEntry ..)
    split <;> exact .refl s
  unfold State.buildReply
  split
  · exact .refl s
  split
  · exact .refl s
  · exact asked _ _
  · exact .refl s

theorem KeepsClaims.buildContent (s : State) (k : ItemKind) : s.KeepsClaims (s.buildContent k).1 := by
  cases k with
  | reply i =>
    unfold State.buildContent
    dsimp only
    split
    · exact .buildReply ..
    · exact .refl s
  | lineEvents p =>
    show s.KeepsClaims (s.modPair p fun r => { r with discard := false })
    exact .of_spares (.modPair fun _ => rfl)
  | incident e =>
    have read : s.KeepsClaims (if (s.entry e).check then s else (s.loseEntry e).settle) :=
      .ite (.refl s) (.after (.settle _) (.loseEntry ..))
    unfold State.buildContent
    dsimp only
    generalize (if (s.entry e).check then s else (s.loseEntry e).settle) = t at read
    split
    · exact read
    · show s.KeepsClaims (t.writeEntry e { t.entry e with changed := false })
      exact .after (.writeEntry ..) read
  | _ => exact .refl s

/-- A FAULT CLAIM that is built carries the tag its pair holds (R84, R105). -/
theorem carries_buildContent {s : State} {p : Pair} {b : Body} (h : (s.buildContent (.faultClaim p)).2 = some b)
    (x : Item) : (s.standing p).Carries { x with content := some b } := by
  obtain ⟨⟨t, cls⟩, ht, rfl⟩ := Option.map_eq_some_iff.1 h
  intro key pr tag renew hb _ _
  simp only [Option.some.injEq, Body.faultClaim.injEq] at hb
  obtain ⟨rfl, -, rfl, -⟩ := hb
  rw [standing_tags, ← tagOf_eq, ht]
  rfl

theorem KeepsClaims.offer {s : State} {x : Item} (hx : x ∈ s.queue) : s.KeepsClaims (s.offer x) := by
  have built := KeepsClaims.buildContent s x.kind
  unfold State.offer
  refine .ite built ?_
  split
  · exact built
  · next b hb =>
    by_cases h : ∃ p, x.kind = .faultClaim p
    · obtain ⟨p, hk⟩ := h
      have same : (s.buildContent x.kind).1 = s := by rw [hk]; rfl
      rw [same]
      refine .rewriteItem hx (kind := fun _ => rfl) (hw := rfl) fun q hq => ?_
      rw [hq] at hb
      exact carries_buildContent hb x
    · exact built.trans (.of_spares (.updateItem _ _ fun p e => h ⟨p, itemRef_eq_faultClaim.1 e⟩))

theorem KeepsClaims.contentionStart (s : State) : s.KeepsClaims (contentionStart s) := by
  unfold Machine.contentionStart
  refine .ite (.refl s) ?_
  dsimp only
  split
  · exact .of_spares .of_claimFields
  · next x hx => exact .after (.offer (List.mem_of_find?_eq_some hx)) (.of_spares (.of_claimFields rfl))

theorem inFlight_mem {s : State} {x : Item} (h : s.inFlight = some x) : x ∈ s.queue := List.mem_of_find?_eq_some h

theorem KeepsClaims.arbitrationLost (s : State) : s.KeepsClaims (arbitrationLost s) := by
  unfold Machine.arbitrationLost
  refine .ite (.refl s) ?_
  split
  · exact .refl s
  · next x hx =>
    split
    · next hw => exact .after (.settle _) (.removeWithdrawn (inFlight_mem hx) hw)
    · next hw => exact .unbuildItem (inFlight_mem hx) (content := rfl) (hw := by simpa [clearBuild] using hw)

/-- The state an item's own part of an outcome leaves, for an item that is no FAULT CLAIM. -/
theorem SparesClaims.of_dispose {s t : State} {x : Item} {o : Outcome} {fate : Fate} (h : s.dispose x o = (t, fate))
    (ne : ∀ p, itemRef x.kind ≠ .faultClaim p) : s.SparesClaims t := by
  have disposed : s.SparesClaims (s.dispose x o).1 := by
    cases o <;> unfold State.dispose <;> dsimp only
    case delivered => exact .removeItem _ _ ne
    all_goals split; exacts [.removeItem _ _ ne, .updateItem _ _ ne]
  simpa [h] using disposed

theorem SparesClaims.lineEventsDone {s : State} {x : Item} (ne : ∀ p, itemRef x.kind ≠ .faultClaim p) (p : Pair)
    (o : Outcome) : s.SparesClaims (s.lineEventsDone x p o) := by
  unfold State.lineEventsDone
  split
  · next h => exact .of_dispose h ne
  all_goals
    next h => exact .after (.placeLineEvents ..) (.after (.ite (.refl _) (.modPair fun _ => rfl)) (.of_dispose h ne))

/-- A FAULT CLAIM item that has been answered leaves; where no owner took it, its claim still stands (R114 to R116). -/
theorem Settled.unanswered {s : State} (hs : s.Settled) {p : Pair} {x : Item} (hx : x ∈ s.queue)
    (hk : x.kind = .faultClaim p) (hw : x.withdrawn = false) : (s.removeItem (.faultClaim p)).Unanswered p := by
  have written := standing_removeItem s p p
  rw [if_pos rfl] at written
  have stands : (s.standing p).stands = true := by rw [Standing.stands, hs.items_eq hx hk]; simp [hw]
  obtain ⟨tag, claim⟩ := (hs p).of_stands stands
  refine ⟨(hs.but p).write (standing_removeItem s p) (hs p).oneTag, congrArg Standing.items written, ?_, ?_, ?_⟩
  · exact (congrArg Standing.tags written).trans_ne tag
  · simpa using hs.equipped (p := p) (by obtain hc | ⟨_, hc⟩ := claim <;> simp only [standing_claim] at hc <;> simp [hc])
  · simpa using claim

/-- A delivered FAULT CLAIM: DEFERRED with the tag the frame carried, LINKED elsewhere with none, or its own station's
(R114 to R116). -/
theorem KeepsClaims.claimAnswered {s : State} {x : Item} {p : Pair} (hx : x ∈ s.queue) (hk : x.kind = .faultClaim p)
    {key : Key} {pr : PairNo} {tag : BitVec 5} {renew : Bool} (hb : x.content = some (.faultClaim key pr tag renew))
    (hsup : x.superseded = false) (hw : x.withdrawn = false) (own defer : Bool) :
    s.KeepsClaims (s.claimAnswered x p key tag own defer) := by
  unfold State.claimAnswered
  rw [show itemRef x.kind = .faultClaim p from itemRef_eq_faultClaim.2 hk]
  have removed (hs : s.Settled) := hs.unanswered hx hk hw
  cases own with
  | false =>
    refine .after (.settle _) (.intro (fun hr => ?_) fun hr hs => (removed hs).becomeOwner key hr)
    simpa using (Unlinks.lookForEntry _ key).running (becomeOwner_running hr)
  | true =>
    cases defer with
    | true =>
      refine .intro (by simp) fun _ hs => ?_
      have carried : (s.standing p).tags.head? = some (tag.toFin, key.cls) :=
        (hs p).carries x (mem_claimItems.2 ⟨hx, hk⟩) key pr tag renew hb hsup hw
      have written (q : Pair) : ((s.removeItem (.faultClaim p)).setClaim p (.deferred tag.toFin)
          (some ((s.removeItem (.faultClaim p)).now + 10000))).standing q = if q = p then
            { s.standing p with claim := .deferred tag.toFin, items := [] } else s.standing q := by
        rw [standing_setClaim, standing_removeItem, standing_removeItem]
        split
        · rw [if_pos rfl]
        · rfl
      refine (hs.but p).settled written ⟨fun hn => absurd ?_ hn, (hs p).oneTag, by simp, by simp, ?_⟩
      · simpa using (removed hs).service
      · simpa [Standing.Agrees, Standing.stands] using ⟨_, carried⟩
    | false =>
      refine .intro (by simp) fun _ hs => ?_
      exact (removed hs).link key.cls false _

end State
end Sys2Proof.Machine
end

section
/-! PROOFS. The standings through the outcomes of the frames sent and through the test unit (chapters 6 and 9). -/

namespace Sys2Proof.Machine
namespace State

/-- The outcome of a FAULT CLAIM frame: no attempt, an attempt more, or an answer (R91, R107, R109, R114 to R116). -/
theorem KeepsClaims.faultClaimDone {s : State} {x : Item} {p : Pair} (hx : x ∈ s.queue) (hk : x.kind = .faultClaim p)
    (r : TxResult) : s.KeepsClaims (s.faultClaimDone x p r) := by
  have timed (t : State) (d : Option Nat) : t.KeepsClaims (t.modPair p fun r => { r with claimTimer := d }) :=
    .of_spares (.modPair fun _ => rfl)
  unfold State.faultClaimDone
  refine .ite (.noAttempt hx) ?_
  split
  · unfold State.supersededDone
    dsimp only
    split
    · exact .after (.ite (.of_spares (.place ..)) (.refl _)) (.noAttempt hx)
    · exact .noAttempt hx
  · next h =>
    simp only [Bool.or_eq_true, not_or, Bool.not_eq_true] at h
    obtain ⟨superseded, withdrawn⟩ := h
    have unbuilt {f : Item → Item} (kind : ∀ i, (f i).kind = i.kind) (content : (f x).content = none)
        (hw : (f x).withdrawn = false) : s.KeepsClaims (s.updateItem (itemRef x.kind) f) :=
      .unbuildItem hx kind content (hw.trans withdrawn.symm)
    split
    · exact .ite (.after (timed _ _) (unbuilt (fun _ => rfl) rfl rfl)) (unbuilt (fun _ => rfl) rfl rfl)
    · exact .after (timed _ _) (unbuilt (fun _ => rfl) rfl rfl)
    · next hb _ => exact .claimAnswered hx hk hb superseded withdrawn ..
    · exact .refl s

theorem SparesClaims.accepted (s : State) : s.SparesClaims s.accepted := .ite (.of_claimFields rfl) (.refl s)

theorem SparesClaims.becomeHolder (s : State) : s.SparesClaims s.becomeHolder := .of_claimFields rfl

section NoFaultClaim

/-! The outcomes of every other kind of item: its reference is no FAULT CLAIM's. -/

variable {s : State} {x : Item} (ne : ∀ p, itemRef x.kind ≠ .faultClaim p)
include ne

theorem KeepsClaims.lockDone (keepAlive : Bool) (o : Outcome) : s.KeepsClaims (s.lockDone x keepAlive o) := by
  have removed : s.SparesClaims (s.removeItem (itemRef x.kind)) := .removeItem s _ ne
  have lost {t : State} (h : s.SparesClaims t) : s.KeepsClaims (t.loseLock .free).settle :=
    .after (.settle _) (.after (.loseLock ..) (.of_spares h))
  unfold State.lockDone
  refine .ite (.thenSettle removed) (.ite ?_ ?_)
  · split
    · exact .thenSettle (.after (.accepted _) removed)
    · exact lost removed
    · split
      · next h => exact .of_spares (.of_dispose h ne)
      · next h => exact lost (.of_dispose h ne)
  · split
    · next h => exact .of_spares (.of_dispose h ne)
    · next h => exact .thenSettle (.after (.becomeHolder _) (.of_dispose h ne))
    · next h => exact .thenSettle (.of_dispose h ne)

theorem KeepsClaims.unlockDone (o : Outcome) : s.KeepsClaims (s.unlockDone x o) := by
  unfold State.unlockDone
  refine .ite (.thenSettle (.removeItem s _ ne)) ?_
  split
  · next h => exact .of_spares (.of_dispose h ne)
  · next h => exact .thenSettle (.after (.leaveMine ..) (.of_dispose h ne))

theorem KeepsClaims.quietDone (st : StationNo) (pr : PairNo) (o : Outcome) : s.KeepsClaims (s.quietDone x st pr o) := by
  have removed : s.SparesClaims (s.removeItem (itemRef x.kind)) := .removeItem s _ ne
  have passed (t : State) : t.SparesClaims (t.passMember x) := .ite (.refl t) (.setBus ..)
  unfold State.quietDone
  refine .ite (.thenSettle removed) ?_
  split
  · exact .thenSettle (.after (.ite (.refl _) (.beginMeasurement ..)) (.after (.setBus ..) (.after (.accepted _) removed)))
  · exact .thenSettle (.after (passed _) (.after (.accepted _) removed))
  · split
    · next h => exact .of_spares (.of_dispose h ne)
    · next h => exact .thenSettle (.after (passed _) (.of_dispose h ne))

theorem KeepsClaims.releaseDone (o : Outcome) : s.KeepsClaims (s.releaseDone x o) := by
  unfold State.releaseDone
  refine .ite (.thenSettle (.removeItem s _ ne)) ?_
  split
  · next h => exact .of_spares (.of_dispose h ne)
  · next h => exact .thenSettle (.after (.accepted _) (.after (.setBus ..) (.of_dispose h ne)))
  · next h => exact .thenSettle (.after (.setBus ..) (.of_dispose h ne))

theorem KeepsClaims.deferredReplyDone (e : EntryNo) (st : StationNo) (pr : PairNo) (o : Outcome) :
    s.KeepsClaims (s.deferredReplyDone x e st pr o) := by
  have replied (t : State) : t.SparesClaims (t.addReplied e st pr x.content) := by
    unfold State.addReplied
    dsimp only
    split
    · exact .ite (.writeEntry ..) (.refl t)
    · exact .refl t
  have removed (t : State) : t.SparesClaims (t.removeItem (itemRef x.kind)) := .removeItem t _ ne
  unfold State.deferredReplyDone
  refine .ite (.after (.thenSettle (removed _)) (.loseEntry ..)) (.ite (.thenSettle (removed s)) ?_)
  split
  · next h => exact .of_spares (.of_dispose h ne)
  · next h => exact .thenSettle (.after (.writeEntry ..) (.after (replied _) (.of_dispose h ne)))
  · next h => exact .thenSettle (.after (.writeEntry ..) (.of_dispose h ne))

theorem KeepsClaims.incidentDone (e : EntryNo) (o : Outcome) : s.KeepsClaims (s.incidentDone x e o) := by
  have left (t : State) : t.KeepsClaims (t.incidentLeft e) :=
    .onEntry e (.of_spares (.ite (.place ..) (.ite (.writeEntry ..) (.refl t))))
  unfold State.incidentDone
  split
  · next h => exact .of_spares (.of_dispose h ne)
  · next h => exact .after (left _) (.of_spares (.of_dispose h ne))

theorem KeepsClaims.testResultDone (o : Outcome) : s.KeepsClaims (s.testResultDone x o) := by
  unfold State.testResultDone
  split
  · next h => exact .of_spares (.of_dispose h ne)
  · next h => exact .of_spares (.after (.ite (.accepted _) (.refl _)) (.after (.setBus ..) (.of_dispose h ne)))

end NoFaultClaim

/-- Every block at its values of R174: no pair has a claim, no tag is held and no item stands, whatever stood before. -/
theorem settled_initialise (s : State) (straps : Straps) (station : StationState) :
    (s.initialise straps station).Settled := by
  intro p
  have tags : (s.initialise straps station).heldTags p = [] := by
    simp [heldTags, State.initialise, Vector.get]
  have claim : ((s.initialise straps station).pair p).claim = .unclaimed := by
    simp [State.pair, State.initialise, Vector.get, PairRecord.initial]
  refine Standing.Bare.ok ⟨tags, by simp [claimItems, State.initialise], by simp [claimItems, State.initialise]⟩
    (fun _ => claim) ?_ ?_ <;> simp [claim]

theorem KeepsClaims.initialise (s : State) (straps : Straps) (station : StationState) :
    s.KeepsClaims (s.initialise straps station) := ⟨fun _ _ => settled_initialise s straps station⟩

theorem KeepsClaims.replyDone {s : State} {x : Item} (ne : ∀ p, itemRef x.kind ≠ .faultClaim p) (i : Fin 4) (o : Outcome) :
    s.KeepsClaims (s.replyDone x i o) := by
  have left (t : State) : t.KeepsClaims (t.replyLeft i) := by
    unfold State.replyLeft
    split
    · exact .ite (.initialise ..) (.of_spares (.setSlot ..))
    · exact .refl t
  unfold State.replyDone
  split
  · next h => exact .of_spares (.of_dispose h ne)
  · next h => exact .after (left _) (.of_spares (.of_dispose h ne))

theorem KeepsClaims.produce {s : State} {x : Item} (hx : x ∈ s.queue) (r : TxResult) : s.KeepsClaims (s.produce x r) := by
  have other {k : ItemKind} (hk : x.kind = k) (h : ∀ p, itemRef k ≠ .faultClaim p := by nofun) (p : Pair) :
      itemRef x.kind ≠ .faultClaim p := hk ▸ h p
  unfold State.produce
  dsimp only
  split
  · next hk => exact .of_spares (.lineEventsDone (other hk) ..)
  · next hk => exact .faultClaimDone hx hk r
  · next hk => exact .of_spares (.of_dispose rfl (other hk))
  · next hk => exact .lockDone (other hk) ..
  · next hk => exact .unlockDone (other hk) _
  · next hk => exact .quietDone (other hk) ..
  · next hk => exact .releaseDone (other hk) _
  · next hk => exact .deferredReplyDone (other hk) ..
  · next hk => exact .incidentDone (other hk) ..
  · next hk => exact .replyDone (other hk) ..
  · next hk => exact .testResultDone (other hk) _

theorem noteEnd_queue (s : State) (r : TxResult) : (s.noteEnd r).queue = s.queue := by
  cases r with
  | collision => exact (apply_ite ..).trans (ite_self _)
  | sent seen => rfl

theorem SparesClaims.noteEnd (s : State) (r : TxResult) : s.SparesClaims (s.noteEnd r) := by
  cases r with
  | collision => exact .ite (.of_claimFields rfl) (.refl s)
  | sent seen => exact .of_claimFields rfl

theorem KeepsClaims.frameOutcome (kind : SentKind) (r : TxResult) (s : State) :
    s.KeepsClaims (frameOutcome kind r s) := by
  unfold Machine.frameOutcome
  refine .ite (.refl s) ?_
  split
  · exact .refl s
  · next x hx =>
    exact .ite (.after (.produce (noteEnd_queue s r ▸ inFlight_mem hx) r) (.of_spares (.noteEnd s r))) (.refl s)

theorem KeepsClaims.frameTruncated (s : State) : s.KeepsClaims (frameTruncated s) := by
  unfold Machine.frameTruncated
  refine .ite (.refl s) ?_
  dsimp only
  split
  · exact .of_spares .of_claimFields
  · next x hx => exact .after (.produce (inFlight_mem hx) _) (.of_spares .of_claimFields)

/-! ### The test unit (chapter 9) -/

theorem KeepsClaims.completeMeasurement (s : State) (m : Measurement) (legs : List LegRecord) :
    s.KeepsClaims (s.completeMeasurement m legs) := by
  have handed (t : State) : t.SparesClaims (t.handOver m legs) := by
    unfold State.handOver
    refine .ite ?_ (.endTest ..)
    split
    · exact .refl t
    · exact .setBus ..
  exact .thenSettle (.after (.ite (.endAccess _) (.refl _)) (.after (handed _) (.after (.setUnit ..) (.stopUnit s))))

theorem KeepsClaims.legDone (s : State) (m : Measurement) (l : LegRecord) : s.KeepsClaims (s.legDone m l) := by
  unfold State.legDone
  split
  · exact .of_spares (.setUnit ..)
  · exact .completeMeasurement ..

theorem KeepsClaims.calibrationDone (volts : Int) (s : State) : s.KeepsClaims (calibrationDone volts s) := by
  unfold Machine.calibrationDone
  refine .ite (.refl s) ?_
  split
  · exact .refl s
  · exact .after (.ite (.thenSettle (.setUnit ..)) (.after (.thenSettle (.ite (.endTest ..) (.refl _)))
      (.after (.ite (.concludeRun ..) (.refl _)) (.of_spares (.setUnit ..))))) (.of_spares (.elapseTo ..))

theorem KeepsClaims.legOffReadingDone (volts : Int) (s : State) : s.KeepsClaims (legOffReadingDone volts s) := by
  unfold Machine.legOffReadingDone
  refine .ite (.refl s) ?_
  split
  · exact .ite (.refl s) (.after (.ite (.legDone ..) (.of_spares (.setUnit ..))) (.of_spares (.elapseTo ..)))
  · exact .refl s

theorem KeepsClaims.legOnReadingDone (volts : Int) (s : State) : s.KeepsClaims (legOnReadingDone volts s) := by
  unfold Machine.legOnReadingDone
  refine .ite (.refl s) ?_
  split
  · split
    · exact .refl s
    · exact .after (.legDone ..) (.of_spares (.elapseTo ..))
  · exact .refl s

end State
end Sys2Proof.Machine
end

section
/-! PROOFS. The standings through the scan and the timers; every command keeps them sound, so every step keeps the agreement. -/

namespace Sys2Proof.Machine

/-! ### The record that the scan leaves (R36, R75): the claim is the claim logic's alone -/

theorem loopMachine_claim (now : Nat) (r : PairRecord) (closed : Bool) : (loopMachine now r closed).1.claim = r.claim := by
  have digitRow (x : PairRecord) : (offHookClosed now x).1.claim = x.claim := by
    unfold offHookClosed enterLockout
    dsimp only
    (repeat' split) <;> simp
  unfold loopMachine
  split
  case h_5 => exact digitRow r
  case h_7 =>
    split
    · rfl
    · unfold endBreak
      split
      · exact digitRow _
      · split <;> simp
  all_goals (repeat' split) <;> simp [seize, beginBreak, hangUp]

theorem loopSample_claim (now : Nat) (r : PairRecord) (cls : SampleClass) : (loopSample now r cls).1.claim = r.claim := by
  have dead (x : PairRecord) : (countDead now x cls).claim = x.claim := by
    unfold countDead feedFreeze
    dsimp only
    (repeat' split) <;> simp
  unfold loopSample
  split
  · exact (dead _).trans (loopMachine_claim ..)
  · unfold countBack
    (repeat' split) <;> simp
  · rfl

theorem appendClose_claim (now : Nat) (first : Bool) (r : PairRecord) (ring : Option EventType)
    (fault : Option (EventType × Nat)) : (appendClose now first r ring fault).claim = r.claim := by
  unfold appendClose
  (repeat' split) <;> simp

namespace State

/-! ### The scan (chapters 1 to 3 and 5) -/

theorem KeepsClaims.closeInterval {s : State} {p : Pair} (he : s.service p = .equipped) :
    s.KeepsClaims (s.closeInterval p) := by
  have chosen (c : Bool) : s.SparesClaims (if c then { s with choices := s.choices + 1 } else s) :=
    .ite (.of_claimFields rfl) (.refl s)
  have pairs (c : Bool) : (if c then { s with choices := s.choices + 1 } else s).pair p = s.pair p := by
    split <;> rfl
  have services (c : Bool) : (if c then { s with choices := s.choices + 1 } else s).service p = s.service p := by
    split <;> rfl
  unfold State.closeInterval
  refine .after (.settleIf _ _) (.after (.faultConsequence ?_ _) (.of_spares (.after (.placeLineEvents ..)
    ((chosen _).trans (.setPair ?_)))))
  · rw [placeLineEvents_service, setPair_service, services]; exact he
  · rw [pairs, appendClose_claim, integrateClose_eq, ringingClose_eq]

theorem KeepsClaims.closeIfFull {s : State} {p : Pair} (he : s.service p = .equipped) :
    s.KeepsClaims (s.closeIfFull p) := .ite (.closeInterval he) (.refl s)

theorem KeepsClaims.evaluateLoop {s : State} {p : Pair} (he : s.service p = .equipped) (before : LatchedSet) :
    s.KeepsClaims (s.evaluateLoop p before) := by
  have claim : (evaluateFault (s.pair p) (pairClass before) (pairClass (s.pair p).latched) false).1.claim =
      (s.pair p).claim := by rw [evaluateFault_eq]
  unfold State.evaluateLoop
  refine .ite (.refl s) (.after (.settleIf _ _) (.after (.faultConsequence (by simpa using he) _)
    (.of_spares (.after (.placeLineEvents ..) (.setPair ?_)))))
  split
  · rw [PairRecord.append_claim, claim]
  · exact claim

theorem poolMessage_service (s : State) (p : Pair) (m : PoolMessage) (q : Pair) :
    (s.poolMessage p m).service q = s.service q := by
  cases m with
  | silent => rfl
  | request =>
    show (s.requestReceiver p).service q = _
    unfold State.requestReceiver
    split
    · rfl
    · split <;> rfl
  | release =>
    show (s.dropReceiver p).service q = _
    rw [dropReceiver_eq]
    rfl

theorem KeepsClaims.sampleTurn {s : State} {p : Pair} (he : s.service p = .equipped) (tip ring : Int) :
    s.KeepsClaims (s.sampleTurn p tip ring) := by
  unfold State.sampleTurn
  dsimp only
  have claim : ((s.pair p).sample (senseReading tip) (senseReading ring)).claim = (s.pair p).claim := rfl
  have looped := (loopSample_claim s.now ((s.pair p).sample (senseReading tip) (senseReading ring))
    ((s.pair p).sample (senseReading tip) (senseReading ring)).classMemory).trans claim
  generalize loopSample s.now _ _ = x at looped
  have told : s.SparesClaims (((s.setPair p x.1).placeLineEvents p).poolMessage p x.2) :=
    .after (.poolMessage ..) (.after (.placeLineEvents ..) (.setPair looped))
  have equipped : (((s.setPair p x.1).placeLineEvents p).poolMessage p x.2).service p = .equipped := by
    rw [poolMessage_service]; simpa using he
  refine .after (.of_spares (.noteAudio ..)) (.after (.closeIfFull ?_) (.after (.evaluateLoop equipped _)
    (.of_spares told)))
  rw [State.service, (SparesPool.evaluateLoop ..).services]
  exact equipped

/-- The items of a pair whose record is made anew are withdrawn (R7). -/
theorem standing_orphanClaim {s : State} (hs : s.Settled) (p : Pair) :
    ∃ items : List Item, (items.length ≤ 1 ∧ ∀ i ∈ items, i.withdrawn = true) ∧ ∀ q : Pair,
      (s.orphanClaim p).standing q = if q = p then { s.standing p with items := items } else s.standing q := by
  have same (q : Pair) : s.standing q =
      if q = p then { s.standing p with items := (s.standing p).items } else s.standing q := by
    split
    · next e => rw [e]
    · rfl
  have one := (hs p).oneItem
  unfold State.orphanClaim
  rw [item_faultClaim]
  split
  · next x hx =>
    obtain ⟨rest, hl⟩ := List.head?_eq_some_iff.1 hx
    split
    · next hw =>
      refine ⟨_, ⟨one, fun i hi => ?_⟩, same⟩
      have alone : rest = [] := by simpa [hl] using one
      rw [standing_items, hl, alone, List.mem_singleton] at hi
      exact hi ▸ hw
    · have bare := Standing.bare_withdrawn one (mark := markOrphaned) fun _ => rfl
      exact ⟨_, ⟨bare.oneItem, bare.withdrawn⟩, standing_withdraw s p fun _ => rfl⟩
  · next hx =>
    refine ⟨_, ⟨one, fun i hi => ?_⟩, same⟩
    rw [standing_items, List.head?_eq_none_iff.1 hx] at hi
    cases hi

/-- The claim of a record made anew goes with its item and its tag (R7). -/
theorem Settled.dropClaim {s : State} (hs : s.Settled) {p : Pair} (hr : (s.dropClaim p).running = true) :
    (s.dropClaim p).Vacated p := by
  obtain ⟨items, ⟨oneItem, withdrawn⟩, orphaned⟩ := standing_orphanClaim hs p
  have dropped (q : Pair) : ((s.orphanClaim p).retireTag p).standing q =
      if q = p then { s.standing p with items := items, tags := [] } else s.standing q := by
    rw [standing_retireTag, orphaned, orphaned]
    split
    · rw [if_pos rfl]
    · rfl
  have vacated : ((s.orphanClaim p).retireTag p).Vacated p := by
    refine ⟨(hs.but p).write dropped (by simp), ?_⟩
    rw [dropped, if_pos rfl]
    exact ⟨rfl, oneItem, withdrawn⟩
  unfold State.dropClaim at hr ⊢
  dsimp only at hr ⊢
  split
  · next hc =>
    simp only [hc] at hr
    exact ((Unlinks.localLeave ..).vacated hr (vacated.setClaim .unclaimed none) (by simp)).1
  · exact vacated

theorem dropClaim_running {s : State} {p : Pair} (h : (s.dropClaim p).running = true) : s.running = true := by
  have dropped : ((s.orphanClaim p).retireTag p).running = s.running := by
    unfold State.orphanClaim
    (repeat' split) <;> simp
  unfold State.dropClaim at h
  dsimp only at h
  split at h
  · exact dropped ▸ by simpa using (Unlinks.localLeave ..).running h
  · exact dropped ▸ h

theorem KeepsClaims.reinitialise (s : State) (p : Pair) : s.KeepsClaims (s.reinitialise p) := by
  have left : (s.dropClaim p).SparesClaims (((s.dropClaim p).reclaimReceiver p).cutAccess p) :=
    .after (.cutAccess ..) (.reclaimReceiver ..)
  refine .after (.thenSettle (.after (.reportIntegrity _) (.after (.placeLineEvents ..) (.updateItem _ _ (hf := ?_))))) ?_
  · intro x; unfold orphanBuilt; split <;> rfl
  · refine .intro (fun hr => dropClaim_running (left.running (by simpa using hr))) fun hr hs => ?_
    have run := left.running (by simpa using hr)
    exact ((left.vacated (by simpa using hr) (hs.dropClaim run)).renewPair fun r => by simp [PairRecord.reset,
      PairRecord.initial]).settled

theorem KeepsClaims.scanTurn (p : Pair) (tip ring : Int) (s : State) : s.KeepsClaims (scanTurn p tip ring s) := by
  unfold Machine.scanTurn
  refine .ite (.refl s) ?_
  split
  · exact .refl s
  · exact .ite (.refl s) (.reinitialise ..)
  · next he =>
    refine .ite (.reinitialise ..) (.ite ?_ (.sampleTurn he tip ring))
    exact .after (.closeIfFull (by simpa using he)) (.of_spares (.modPair fun _ => rfl))

/-! ### Timers -/

theorem KeepsClaims.listenInExpiry (s : State) : s.KeepsClaims (listenInExpiry s) := by
  unfold Machine.listenInExpiry
  split
  · next hl _ => exact .thenSettle ⟨fun _ => by simp [State.running, hl], fun _ _ => standing_congr rfl rfl rfl rfl⟩
  · exact .refl s

theorem KeepsClaims.itemBackoffExpiry (ref : ItemRef) (s : State) : s.KeepsClaims (itemBackoffExpiry ref s) := by
  unfold Machine.itemBackoffExpiry
  refine .ite (.refl s) ?_
  split
  · split
    · exact .ite (.of_spares (.after (.modPair fun _ => rfl) (.elapseTo ..))) (.refl s)
    · exact .refl s
  · next hn =>
    split
    · exact .of_spares (.after (.updateItem _ _ fun p e => hn p e) (.elapseTo ..))
    · exact .refl s

/-- A renewal: the pair, LINKED elsewhere with no item and so no tag, gets both (R116). -/
theorem Settled.renew {s : State} (hs : s.Settled) (hr : s.running = true) {p : Pair} {cls : FaultClass}
    (hc : (s.pair p).claim = .linked cls false) (hi : s.claimItems p = []) :
    ((s.allocateTag p cls).place (.faultClaim p)).Settled := by
  have agrees := (hs p).agrees
  have noTag : s.heldTags p = [] := by
    simpa [Standing.Agrees, hc, Standing.stands, hi] using agrees
  have allocated := standing_allocateTag (fun q => (hs q).oneTag) noTag cls
  have placed (q : Pair) : ((s.allocateTag p cls).place (.faultClaim p)).standing q = if q = p then
      { s.standing p with tags := [(s.freeTag, cls)], items := [newItem (.faultClaim p)] } else s.standing q := by
    rw [standing_place (by simpa using hr) (by rw [allocated, if_pos rfl]; exact hi), allocated, allocated]
    split
    · rw [if_pos rfl]
    · rfl
  refine (hs.but p).settled placed ⟨fun hn => absurd (hs.equipped (p := p) (by simp [hc])) hn, by simp, by simp, ?_, ?_⟩
  · intro i hi
    exact Standing.carries_of_unbuilt (by rw [List.mem_singleton.1 hi]; rfl)
  · simp [Standing.Agrees, Standing.stands, hc, newItem]

theorem KeepsClaims.claimWaitEnd (s : State) (p : Pair) : s.KeepsClaims (s.claimWaitEnd p) := by
  unfold State.claimWaitEnd
  split
  · next hc =>
    split
    · refine .after (.settle _) (.intro (fun hr => by simpa using claimMake_running hr) fun hr hs => ?_)
      exact ((hs.retireTag hc).setClaim .unclaimed none).claimMake (by simpa using hs.equipped (p := p) (by simp [hc]))
        (by simp) _ hr
    · exact .refl s
  · next cls hc =>
    split
    · exact .refl s
    · next hi =>
      have same : s.SparesClaims (s.setClaim p (.linked cls false) none) := .setPair hc.symm
      have none : s.claimItems p = [] := by simpa [hasItem_faultClaim] using hi
      refine .after (.intro (by simp) fun hr hs => ?_) (.of_spares same)
      exact hs.renew (by simpa using hr) (claim_setClaim ..) none
  · next hc =>
    have unclaimed (hs : s.Settled) : (s.setClaim p .unclaimed none).Unclaimed p := (hs.vacated (.inr (.inl hc))).unclaimed none
    dsimp only
    split
    · refine .after (.settle _) (.intro (fun hr => by simpa using claimMake_running hr) fun hr hs => ?_)
      exact (unclaimed hs).vacated.claimMake (by simpa using hs.equipped (p := p) (by simp [hc])) (by simp) _ hr
    · exact .intro (by simp) fun _ hs => (unclaimed hs).settled
  · exact .refl s

theorem KeepsClaims.claimWaitsEnd (s : State) (t : Nat) (p : Pair) : s.KeepsClaims (s.claimWaitsEnd t p) :=
  .after (.foldl (fun u q => .ite (.claimWaitEnd u q) (.refl u)) _ _) (.of_spares (.elapseTo s t))

theorem KeepsClaims.deferWaitExpiry (p : Pair) (s : State) : s.KeepsClaims (deferWaitExpiry p s) := by
  unfold Machine.deferWaitExpiry
  refine .ite (.refl s) ?_
  split
  · exact .claimWaitsEnd ..
  · exact .refl s

theorem KeepsClaims.renewTimerExpiry (p : Pair) (s : State) : s.KeepsClaims (renewTimerExpiry p s) := by
  unfold Machine.renewTimerExpiry
  refine .ite (.refl s) ?_
  split
  · exact .ite (.refl s) (.claimWaitsEnd ..)
  · exact .refl s

theorem KeepsClaims.holdOffExpiry (p : Pair) (s : State) : s.KeepsClaims (holdOffExpiry p s) := by
  unfold Machine.holdOffExpiry
  refine .ite (.refl s) ?_
  split
  · exact .claimWaitsEnd ..
  · exact .refl s

/-- An expiry that carries the clock and then keeps the claims. -/
theorem KeepsClaims.onExpiry {s u : State} {t : Nat} (h : (s.elapseTo t).KeepsClaims u) : s.KeepsClaims u :=
  h.after (.of_spares (.elapseTo s t))

theorem KeepsClaims.memberExpiry (e : EntryNo) (st : StationNo) (pr : PairNo) (s : State) :
    s.KeepsClaims (memberExpiry e st pr s) := by
  unfold Machine.memberExpiry
  refine .ite (.refl s) ?_
  split
  · exact .refl s
  · exact .onExpiry (.onEntry e (.writeEntry ..))

theorem KeepsClaims.emptyListExpiry (e : EntryNo) (s : State) : s.KeepsClaims (emptyListExpiry e s) := by
  unfold Machine.emptyListExpiry
  refine .ite (.refl s) ?_
  split
  · exact .refl s
  · exact .onExpiry (.onEntry e (.writeEntry ..))

theorem KeepsClaims.clearHoldExpiry (e : EntryNo) (s : State) : s.KeepsClaims (clearHoldExpiry e s) := by
  unfold Machine.clearHoldExpiry
  refine .ite (.refl s) ?_
  split
  · exact .refl s
  · exact .onExpiry (.onEntry e (.closeEntry ..))

theorem KeepsClaims.confirmationRetryExpiry (e : EntryNo) (s : State) :
    s.KeepsClaims (confirmationRetryExpiry e s) := by
  unfold Machine.confirmationRetryExpiry
  refine .ite (.refl s) ?_
  split
  · exact .refl s
  · exact .onExpiry (.onEntry e (.thenSettle (.after (.callTest _) (.writeEntry ..))))

theorem KeepsClaims.viewLapse (s : State) : s.KeepsClaims (viewLapse s) := by
  unfold Machine.viewLapse
  refine .ite (.refl s) ?_
  split
  · exact .onExpiry (.thenSettle (.setView ..))
  · exact .refl s
  · exact .refl s

theorem KeepsClaims.keepAliveDue (s : State) : s.KeepsClaims (keepAliveDue s) := by
  unfold Machine.keepAliveDue
  refine .ite (.refl s) ?_
  split
  · exact .refl s
  · exact .ite (.onExpiry (.of_spares (.place ..))) (.refl s)

theorem KeepsClaims.selfLimitExpiry (s : State) : s.KeepsClaims (selfLimitExpiry s) := by
  unfold Machine.selfLimitExpiry
  refine .ite (.refl s) ?_
  split
  · exact .refl s
  · exact .onExpiry (.after (.settle _) (.loseLock ..))

theorem KeepsClaims.restraintExpiry (s : State) : s.KeepsClaims (restraintExpiry s) := by
  unfold Machine.restraintExpiry
  refine .ite (.refl s) ?_
  split
  · exact .refl s
  · exact .onExpiry (.thenSettle (.setBus ..))

theorem KeepsClaims.jobDeadlineExpiry (job : Job) (s : State) : s.KeepsClaims (jobDeadlineExpiry job s) := by
  unfold Machine.jobDeadlineExpiry
  refine .ite (.refl s) ?_
  split
  · exact .refl s
  · cases job with
    | confirmation => exact .onExpiry (.after (.settle _) (.concludeRun ..))
    | uplinkTest => exact .onExpiry (.thenSettle (.endTest ..))

theorem KeepsClaims.releaseWaitExpiry (s : State) : s.KeepsClaims (releaseWaitExpiry s) := by
  unfold Machine.releaseWaitExpiry
  refine .ite (.refl s) ?_
  split
  · exact .refl s
  · exact .onExpiry (.thenSettle (.setBus ..))

theorem KeepsClaims.selfReleaseExpiry (s : State) : s.KeepsClaims (selfReleaseExpiry s) := by
  unfold Machine.selfReleaseExpiry
  refine .ite (.refl s) ?_
  split
  · exact .refl s
  · exact .onExpiry (.after (.settleIf ..) (.of_spares (.cutAccess ..)))

/-! ### Commands and steps -/

theorem SparesClaims.idle (s : State) : s.SparesClaims s.idle := .ite (.of_claimFields rfl) (.refl s)

theorem KeepsClaims.of_next {s t u : State} (h : s.KeepsClaims t)
    (e : (Host.Outcome.next t : Host.Outcome State Fault Refusal) = .next u) : s.KeepsClaims u := by
  cases e; exact h

/-- Every command keeps the agreement of claim states, tags and items. -/
theorem KeepsClaims.exec {c : Instr} {s t : State} (h : exec c s = .next t) : s.KeepsClaims t := by
  cases c with
  | resetPinAssert => exact .of_next (.of_spares (.of_not_running rfl)) h
  | resetPinRelease straps => exact .of_next (.initialise s straps _) h
  | listenInExpiry => exact .of_next (.listenInExpiry s) h
  | scanTurn p tip ring => exact .of_next (.scanTurn p tip ring s) h
  | toneBlockComplete r samples => exact .of_next (.of_spares (.toneBlock r samples s)) h
  | digitPauseExpiry r => exact .of_next (.of_spares (.digitPause r s)) h
  | noDigitExpiry r => exact .of_next (.of_spares (.noDigit r s)) h
  | contentionStart => exact .of_next (.contentionStart s) h
  | arbitrationLost => exact .of_next (.arbitrationLost s) h
  | frameTruncated => exact .of_next (.frameTruncated s) h
  | frameCheckedOnly kind f => exact .of_next (.receive _ f .refl) h
  | unhandledKindFrame long kind => exact .of_next (.of_spares (.unhandledKindFrame s)) h
  | lockReceived f ownSeen => exact .of_next (.receive _ f (.takeLock f ownSeen)) h
  | unlockReceived f => exact .of_next (.receive _ f .takeUnlock) h
  | faultClaimReceived f => exact .of_next (.faultClaimReceived f s) h
  | leaveReceived f => exact .of_next (.leaveReceived f s) h
  | quietReceived f => exact .of_next (.testFrameReceived .quiet f s) h
  | releaseReceived f => exact .of_next (.testFrameReceived .release f s) h
  | testFrameSnooped kind f => exact .of_next (.testFrameReceived kind f s) h
  | deferredReplyReceived f => exact .of_next (.deferredReplyReceived f s) h
  | incidentSnooped f => exact .of_next (.incidentSnooped f s) h
  | queryPair f => exact .of_next (.commandReceived .queryPair f s) h
  | queryIncident f => exact .of_next (.commandReceived .queryIncident f s) h
  | testPair f => exact .of_next (.commandReceived .testPair f s) h
  | park f => exact .of_next (.commandReceived .park f s) h
  | unpark f => exact .of_next (.commandReceived .unpark f s) h
  | clearIncident f => exact .of_next (.commandReceived .clearIncident f s) h
  | restart f => exact .of_next (.commandReceived .restart f s) h
  | lineEventsOutcome r => exact .of_next (.frameOutcome .lineEvents r s) h
  | faultClaimOutcome r => exact .of_next (.frameOutcome .faultClaim r s) h
  | leaveOutcome r => exact .of_next (.frameOutcome .leave r s) h
  | lockOutcome r => exact .of_next (.frameOutcome .lock r s) h
  | unlockOutcome r => exact .of_next (.frameOutcome .unlock r s) h
  | quietOutcome r => exact .of_next (.frameOutcome .quiet r s) h
  | releaseOutcome r => exact .of_next (.frameOutcome .release r s) h
  | deferredReplyOutcome r => exact .of_next (.frameOutcome .deferredReply r s) h
  | incidentOutcome r => exact .of_next (.frameOutcome .incident r s) h
  | replyOutcome r => exact .of_next (.frameOutcome .reply r s) h
  | testResultOutcome r => exact .of_next (.frameOutcome .testResult r s) h
  | itemBackoffExpiry ref => exact .of_next (.itemBackoffExpiry ref s) h
  | deferWaitExpiry p => exact .of_next (.deferWaitExpiry p s) h
  | renewTimerExpiry p => exact .of_next (.renewTimerExpiry p s) h
  | holdOffExpiry p => exact .of_next (.holdOffExpiry p s) h
  | memberExpiry e st pr => exact .of_next (.memberExpiry e st pr s) h
  | emptyListExpiry e => exact .of_next (.emptyListExpiry e s) h
  | clearHoldExpiry e => exact .of_next (.clearHoldExpiry e s) h
  | confirmationRetryExpiry e => exact .of_next (.confirmationRetryExpiry e s) h
  | viewLapse => exact .of_next (.viewLapse s) h
  | keepAliveDue => exact .of_next (.keepAliveDue s) h
  | selfLimitExpiry => exact .of_next (.selfLimitExpiry s) h
  | restraintExpiry => exact .of_next (.restraintExpiry s) h
  | jobDeadlineExpiry job => exact .of_next (.jobDeadlineExpiry job s) h
  | releaseWaitExpiry => exact .of_next (.releaseWaitExpiry s) h
  | selfReleaseExpiry => exact .of_next (.selfReleaseExpiry s) h
  | calibrationDone volts => exact .of_next (.calibrationDone volts s) h
  | legOffReadingDone volts => exact .of_next (.legOffReadingDone volts s) h
  | legOnReadingDone volts => exact .of_next (.legOnReadingDone volts s) h

end State

/-- Settles O56: in a queue in order the agreement is the soundness of every pair's standing, which every command keeps. -/
theorem stepKeepsClaims : Obligations.StepKeepsClaims := by
  intro s t hq hs h
  have kept : s.KeepsClaims t := by
    unfold step at h
    split at h
    · exact .of_next (.of_spares (.idle s)) h
    · next rest _ =>
      have taken : s.KeepsClaims { s with pending := rest } := .of_spares (.of_claimFields rfl)
      exact taken.trans (.exec h)
  exact .of_settled (kept.kept (.of_claimsOk hq hs))

end Sys2Proof.Machine
end

section
/-! PROOFS. The fault integrator at a weighed close (R75 to R83): what each integrator becomes, what is latched, and the
steps of the fault state. -/

namespace Sys2Proof.Machine

/-! ### The integrators and the latched set at a weighed close -/

section WeighedClose

variable {i : IntervalRecord} (h : i.freeze ≠ .access) (r : PairRecord)
include h

theorem integrateClose_feedLoss : (integrateClose r i).1.feedLoss = feedLossStep r.feedLoss i := by
  rw [integrateClose_of_weighed h]; dsimp only; rw [evaluateFault_eq]

theorem integrateClose_foreign : (integrateClose r i).1.foreign = foreignStep r.foreign i := by
  rw [integrateClose_of_weighed h]; dsimp only; rw [evaluateFault_eq]

theorem integrateClose_groundLeak : (integrateClose r i).1.groundLeak = groundLeakStep r.groundLeak i := by
  rw [integrateClose_of_weighed h]; dsimp only; rw [evaluateFault_eq]

/-- The classes are latched by the integrators as the close leaves them (R79). -/
theorem integrateClose_latched : (integrateClose r i).1.latched = latchSet r.latched (integrateClose r i).1.feedLoss
    (integrateClose r i).1.foreign (integrateClose r i).1.groundLeak := by
  rw [integrateClose_feedLoss h, integrateClose_foreign h, integrateClose_groundLeak h, integrateClose_of_weighed h]
  dsimp only
  rw [evaluateFault_eq]

end WeighedClose

/-- An interval that is not closed in TEST_ACCESS is weighed (R75). -/
theorem weighed_of_freeze {i : IntervalRecord} (h : i.freeze = .unfrozen ∨ i.freeze = .feed) : i.freeze ≠ .access := by
  obtain h | h := h <;> simp [h]

theorem foreignEvidence_iff {i : IntervalRecord} :
    foreignEvidence i = true ↔ 11 ≤ i.positive ∨ 1 ≤ i.clipped ∨ (40 < i.swingC ∧ i.ringing = false) := by
  simp [foreignEvidence, or_assoc]

/-- An integrator steps up to 15 at most and down to 0 at least, by what its interval shows (R76 to R78). -/
theorem stepped_integrator {n m : Nat} {up : Prop} [Decidable up] (hn : n ≤ 15)
    (hm : m = if up then riseOne n else n - 1) :
    (up → n < 15 → m = n + 1) ∧ (up → n = 15 → m = 15) ∧ (¬up → 0 < n → m = n - 1) ∧ (¬up → n = 0 → m = 0) := by
  subst hm
  unfold riseOne
  by_cases h : up
  · rw [if_pos h]
    exact ⟨fun _ _ => by omega, fun _ _ => by omega, (absurd h ·), (absurd h ·)⟩
  · rw [if_neg h]
    exact ⟨(absurd · h), (absurd · h), fun _ _ => rfl, fun _ _ => by omega⟩

theorem groundLeakStep_ringing {i : IntervalRecord} (h : i.ringing = true) (n : Nat) : groundLeakStep n i = n := by
  simp [groundLeakStep, h]

theorem groundLeakStep_closed {i : IntervalRecord} (hr : i.ringing = false) (hs : i.sag < 11) (ho : i.opened < 11)
    (n : Nat) : groundLeakStep n i = n := by
  simp [groundLeakStep, hr, ho, hs]

theorem groundLeakStep_told {i : IntervalRecord} (hr : i.ringing = false) (h : 11 ≤ i.sag ∨ 11 ≤ i.opened) (n : Nat) :
    groundLeakStep n i = if 11 ≤ i.sag then riseOne n else n - 1 := by
  by_cases hs : 11 ≤ i.sag
  · simp [groundLeakStep, hr, hs]
  · have ho : ¬i.opened < 11 := by omega
    simp [groundLeakStep, hr, hs, ho]

/-- Settles O11: each integrator is its own step of the count before the close. -/
theorem integratorsAtClose : Obligations.IntegratorsAtClose := by
  refine ⟨fun r i hr hf => ?feedLoss, fun r i hr hf => ?foreign, fun r i hr hf => ?groundLeak⟩
  all_goals have weighed := weighed_of_freeze hf
  case feedLoss =>
    have stepped := stepped_integrator (up := 11 ≤ i.dead) hr (integrateClose_feedLoss weighed r)
    simpa only [not_le] using stepped
  case foreign =>
    have moved : (integrateClose r i).1.foreign =
        if 11 ≤ i.positive ∨ 1 ≤ i.clipped ∨ (40 < i.swingC ∧ i.ringing = false) then riseOne r.foreign
        else r.foreign - 1 := by
      simp only [integrateClose_foreign weighed, foreignStep, foreignEvidence_iff]
    exact stepped_integrator hr moved
  case groundLeak =>
    have moved := integrateClose_groundLeak weighed r
    have told (hi : i.ringing = false) (h : 11 ≤ i.sag ∨ 11 ≤ i.opened) :=
      stepped_integrator hr (moved.trans (groundLeakStep_told hi h _))
    refine ⟨fun hi => ?_, fun hi hs => ?_, fun hi hs => ?_, fun hi hs ho => ?_, fun hi hs ho => ?_, fun hi hs ho => ?_⟩
    · rw [moved, groundLeakStep_ringing hi]
    · exact (told hi (.inl hs)).1 hs
    · exact (told hi (.inl hs)).2.1 hs
    · rw [moved, groundLeakStep_closed hi hs ho]
    · exact (told hi (.inr ho)).2.2.1 (by omega)
    · exact (told hi (.inr ho)).2.2.2 (by omega)

/-! ### The latched set, the pair class and the fault state -/

theorem latchStep_of_unlatched {was : Bool} (h : was = false) (n : Nat) : latchStep was n = decide (12 ≤ n) := by
  simp [latchStep, h]

theorem latchStep_of_latched {was : Bool} (h : was = true) (n : Nat) : latchStep was n = decide (n ≠ 0) := by
  rw [latchStep, if_pos h, Bool.eq_iff_iff]; simp

section FaultState

variable {r : PairRecord} {before after : Option FaultClass} {weighed : Bool} {k : FaultClass}

theorem evaluateFault_clear (hf : r.fault = .clear) : evaluateFault r before after weighed =
    match after with
    | some k => ({ r with fault := .faulted }, .entered k)
    | none => (r, .quiet) := by
  cases after <;> simp [evaluateFault, hf]

theorem evaluateFault_faulted (hf : r.fault = .faulted) : evaluateFault r before (some k) weighed =
    if before = some k then (r, .quiet) else (r, .turned k) := by
  simp [evaluateFault, hf]

theorem evaluateFault_faulted_none (hf : r.fault = .faulted) : evaluateFault r before none weighed =
    ({ r with fault := .recovering, recovery := 0 }, .quiet) := by
  simp [evaluateFault, hf]

theorem evaluateFault_recovering (hf : r.fault = .recovering) : evaluateFault r before (some k) weighed =
    ({ r with fault := .faulted, recovery := 0 }, .entered k) := by
  simp [evaluateFault, hf]

/-- Recovery is counted at weighed closes alone, and complete at the twentieth (R83). -/
theorem evaluateFault_recovering_none (hf : r.fault = .recovering) : evaluateFault r before none weighed =
    if weighed = false then (r, .quiet)
    else if 19 ≤ r.recovery then ({ r with fault := .clear, recovery := 0 }, .cleared)
    else ({ r with recovery := r.recovery + 1 }, .quiet) := by
  simp [evaluateFault, hf]

end FaultState

/-- Settles O12: the latch of each class by its integrator, the rank by the order of the cases, and the fault state's
table row by row. -/
theorem latchesPairClassAndFaultState : Obligations.LatchesPairClassAndFaultState := by
  refine ⟨fun r i hf => ?latches, fun l => ?rank, fun r before after weighed k => ?fault⟩
  case latches =>
    dsimp only
    rw [integrateClose_latched (weighed_of_freeze hf)]
    exact ⟨(latchStep_of_unlatched · _), (latchStep_of_latched · _), (latchStep_of_unlatched · _),
      (latchStep_of_latched · _), (latchStep_of_unlatched · _), (latchStep_of_latched · _), rfl⟩
  case rank =>
    refine ⟨fun hf => ?_, fun hf hl => ?_, fun hf hl hg => ?_, fun hf hl hg hp => ?_, fun hf hl hg hp => ?_⟩ <;>
      simp [pairClass, *]
  case fault =>
    refine ⟨?_, ?_, ?_, ?_, ?_, ?_, ?_, ?_, ?_⟩ <;> intro hf ha <;> subst ha
    · exact evaluateFault_clear hf
    · exact evaluateFault_clear hf
    · exact fun hb => by rw [evaluateFault_faulted hf, if_pos hb]
    · exact fun hb => by rw [evaluateFault_faulted hf, if_neg hb]
    · exact evaluateFault_faulted_none hf
    · exact evaluateFault_recovering hf
    · exact fun hw => by rw [evaluateFault_recovering_none hf, if_pos hw]
    · exact fun hw hr => by rw [evaluateFault_recovering_none hf, if_neg (by simp [hw]), if_neg (by omega)]
    · exact fun hw hr => by rw [evaluateFault_recovering_none hf, if_neg (by simp [hw]), if_pos (by omega)]

end Sys2Proof.Machine
end

section
/-! PROOFS. One entry of the incident table as a claim or a LEAVE is taken (R117 to R121), and the two frames at a station
that hears them. -/

namespace Sys2Proof.Machine

/-! ### One entry -/

theorem Member.isOf_iff {st : StationNo} {pr : PairNo} {m : Member} :
    Member.isOf st pr m = true ↔ m.station = st ∧ m.pair = pr := by
  simp [Member.isOf]

theorem Defer.isOf_iff {st : StationNo} {pr : PairNo} {d : Defer} :
    Defer.isOf st pr d = true ↔ d.station = st ∧ d.pair = pr := by
  simp [Defer.isOf]

namespace Entry

variable {x : Entry} {now : Nat} {st : StationNo} {pr : PairNo} {tag : BitVec 5} {renew : Bool}

theorem lists_iff : x.lists st pr = true ↔ ∃ m ∈ x.members, m.station = st ∧ m.pair = pr := by
  simp [lists, Member.isOf_iff]

theorem lists_eq_false : x.lists st pr = false ↔ ¬∃ m ∈ x.members, m.station = st ∧ m.pair = pr := by
  rw [← lists_iff, Bool.not_eq_true]

/-- What a claim taken does to an entry's state: a CLEARING one is OPEN or CONFIRMED again (R117, R121). -/
def revived (x : Entry) : Entry :=
  if x.state = .clearing then
    { x with state := if x.revivesConfirmed then .confirmed else .opened, clearHold := none, changed := true }
  else { x with changed := true }

theorem join_of_listed (h : x.lists st pr = true) : x.join now st pr renew = revived { x with
    members := x.members.map fun m => if m.station = st ∧ m.pair = pr then { m with renewed := now } else m } := by
  simp only [join, h, if_true, Member.isOf_iff, revived]
  cases x.state <;> rfl

theorem join_of_room (h : x.lists st pr = false) (hl : x.members.length < 32) : x.join now st pr renew = revived { x with
    members := x.members ++ [{ station := st, pair := pr, renewed := now, leaving := false }]
    overflow := if renew then x.overflow - 1 else x.overflow
    emptyTimer := none } := by
  simp only [join, h, hl, if_true, Bool.false_eq_true, if_false, revived]
  cases x.state <;> rfl

theorem join_of_full (h : x.lists st pr = false) (hl : 32 ≤ x.members.length) : x.join now st pr renew = revived { x with
    overflow := if renew then x.overflow else min 255 (x.overflow + 1) } := by
  simp only [join, h, Nat.not_lt.2 hl, Bool.false_eq_true, if_false, revived]
  cases x.state <;> rfl

theorem deferClaim_of_listed (h : x.lists st pr = true) : x.deferClaim now st pr tag renew = ({ x with
    members := x.members.map fun m =>
      if m.station = st ∧ m.pair = pr then { m with renewed := now, leaving := false } else m
    changed := true }, .listed) := by
  simp only [deferClaim, h, if_true, Member.isOf_iff]

section Unlisted

variable (h : x.lists st pr = false)
include h

theorem deferClaim_of_waiting (hd : ∃ d ∈ x.defers, d.station = st ∧ d.pair = pr) :
    x.deferClaim now st pr tag renew = ({ x with
      defers := x.defers.map fun d => if d.station = st ∧ d.pair = pr then { d with tag := tag, renew := renew } else d },
      .deferred) := by
  have waits : x.defers.any (Defer.isOf st pr) = true := by simpa [Defer.isOf_iff] using hd
  simp only [deferClaim, h, waits, Bool.false_eq_true, if_false, if_true, Defer.isOf_iff]

variable (hd : ¬∃ d ∈ x.defers, d.station = st ∧ d.pair = pr)
include hd

theorem deferClaim_of_room (hl : x.defers.length < 8) : x.deferClaim now st pr tag renew = ({ x with
    defers := x.defers ++ [{ station := st, tag := tag, pair := pr, renew := renew, underAnswer := false }] },
    .deferred) := by
  have waits : x.defers.any (Defer.isOf st pr) = false := by simpa [← Bool.not_eq_true, Defer.isOf_iff] using hd
  simp only [deferClaim, h, waits, hl, Bool.false_eq_true, if_false, if_true]

theorem deferClaim_of_full (hl : 8 ≤ x.defers.length) : x.deferClaim now st pr tag renew = (x, .stalled) := by
  have waits : x.defers.any (Defer.isOf st pr) = false := by simpa [← Bool.not_eq_true, Defer.isOf_iff] using hd
  simp only [deferClaim, h, waits, Nat.not_lt.2 hl, Bool.false_eq_true, if_false]

end Unlisted

/-! A LEAVE (R119). -/

theorem leave_of_listed (h : x.lists st pr = true) (hs : x.state ≠ .confirming) : x.leave now st pr = { x with
    members := x.members.filter fun m => !(m.station == st && m.pair == pr), changed := true
    emptyTimer := if x.members.filter (fun m => !(m.station == st && m.pair == pr)) = [] then some (now + 150000)
      else x.emptyTimer } := by
  simp [leave, h, hs, Member.isOf]

theorem leave_of_overflow (h : x.lists st pr = false) (ho : 0 < x.overflow) :
    x.leave now st pr = { x with overflow := x.overflow - 1, changed := true } := by
  simp [leave, h, ho]

theorem leave_of_stranger (h : x.lists st pr = false) (ho : x.overflow = 0) : x.leave now st pr = x := by
  simp [leave, h, ho]

/-- A member that is not yet leaving is marked in CONFIRMING (R119). -/
theorem leave_of_confirming (hs : x.state = .confirming)
    (h : ∃ m ∈ x.members, m.station = st ∧ m.pair = pr ∧ m.leaving = false) : x.leave now st pr = { x with
      members := x.members.map fun m => if m.station = st ∧ m.pair = pr then { m with leaving := true } else m
      changed := true } := by
  obtain ⟨m, hm, hst, hpr, staying⟩ := h
  have listed : x.lists st pr = true := lists_iff.2 ⟨m, hm, hst, hpr⟩
  have marks : (x.members.map fun m => if m.station = st ∧ m.pair = pr then { m with leaving := true } else m) ≠
      x.members := by
    intro same
    have := (List.map_inj_left (g := id)).1 (same.trans (List.map_id _).symm) m hm
    simpa [hst, hpr, staying] using congrArg Member.leaving this
  simp [leave, listed, hs, Member.isOf_iff, marks]

theorem clearIfEmpty_eq (y : Entry) (now : Nat) : y.clearIfEmpty now =
    if (y.state = .opened ∨ y.state = .confirmed) ∧ y.members = [] ∧ y.overflow = 0 then
      { y with state := .clearing, revivesConfirmed := y.state == .confirmed, changed := true
               clearHold := some (now + 10000) }
    else y := by
  simp only [clearIfEmpty, Bool.and_eq_true, Bool.or_eq_true, beq_iff_eq, List.isEmpty_iff, and_assoc]

end Entry

/-! ### The frames (R101, R117 to R119) -/

section ClaimFrames

variable {s : State} {f : RxFrame} {key : Key} {pr : PairNo} {e : EntryNo}

/-- The state that a frame which is heard is taken in, its ACK driven (R101). -/
def State.acked (s : State) : State := { s with abandoned := false, cells := ackCell }

theorem drive_ackCell (hr : s.running = true) :
    State.drive { s with abandoned := false, cells := noCells } ackCell = s.acked := drive_running _ hr

section FaultClaim

variable {tag : BitVec 5} {renew : Bool} (h : s.hears (.short .faultClaim) f)
  (hb : bodyOf (.short .faultClaim) f.body = some (.faultClaim key pr tag renew))
include h hb

theorem faultClaimReceived_of_hears : faultClaimReceived f s =
    State.takeClaim f.sender key pr tag renew { s with abandoned := false, cells := noCells } := by
  rw [faultClaimReceived, receive_of_hears h]
  simp only [hb]

theorem faultClaimReceived_unowned (ho : s.ownedEntry key = none) : faultClaimReceived f s = s.acked := by
  have unowned : s.acked.ownedEntry key = none := ho
  rw [faultClaimReceived_of_hears h hb, State.takeClaim, drive_ackCell h.1]
  simp only [unowned]

theorem faultClaimReceived_owned (ho : s.ownedEntry key = some e) (hc : (s.entry e).check = true) :
    faultClaimReceived f s = (s.acked.answerClaim e f.sender pr tag renew).settle := by
  have owned : s.acked.ownedEntry key = some e := ho
  have read : s.acked.readEntry e = s.acked := State.readEntry_of_check hc
  have running : s.acked.running = true := h.1
  have live : (s.acked.entry e).state ≠ .free := (State.ownedEntry_state ho).1
  rw [faultClaimReceived_of_hears h hb, State.takeClaim, drive_ackCell h.1]
  simp [owned, read, running, live]

end FaultClaim

section Leave

variable (h : s.hears (.short .leave) f) (hb : bodyOf (.short .leave) f.body = some (.leave key pr))
include h hb

theorem leaveReceived_of_hears : leaveReceived f s =
    State.takeLeave f.sender key pr { s with abandoned := false, cells := noCells } := by
  rw [leaveReceived, receive_of_hears h]
  simp only [hb]

theorem leaveReceived_unowned (ho : s.ownedEntry key = none) : leaveReceived f s = s.acked := by
  have unowned : s.acked.ownedEntry key = none := ho
  rw [leaveReceived_of_hears h hb, State.takeLeave, drive_ackCell h.1]
  simp only [unowned]

theorem leaveReceived_owned (ho : s.ownedEntry key = some e) (hc : (s.entry e).check = true) :
    leaveReceived f s = s.acked.leaveEntry e f.sender pr := by
  have owned : s.acked.ownedEntry key = some e := ho
  have read : s.acked.readEntry e = s.acked := State.readEntry_of_check hc
  have running : s.acked.running = true := h.1
  have live : (s.acked.entry e).state ≠ .free := (State.ownedEntry_state ho).1
  rw [leaveReceived_of_hears h hb, State.takeLeave, drive_ackCell h.1]
  simp [owned, read, running, live]

end Leave

end ClaimFrames

/-! ### The owner's answer -/

section Answer

variable {s : State} {e : EntryNo} {st : StationNo} {pr : PairNo} {tag : BitVec 5} {renew : Bool} (hr : s.running = true)
include hr

/-- The cells are driven beside an entry's write. -/
theorem writeEntry_drive (x : Entry) (c : Cells) :
    (s.writeEntry e x).drive c = ({ s with cells := c } : State).writeEntry e x := by
  rw [drive_running c (by simpa using hr), State.writeEntry_eq, State.writeEntry_eq]
  rfl

theorem answerClaim_of_open (hs : (s.entry e).state ≠ .confirming) : s.answerClaim e st pr tag renew =
    ({ s with cells := { ackCell with own := true } } : State).joinEntry e st pr renew := by
  rw [State.answerClaim, if_neg (by simpa using hs), State.joinEntry, writeEntry_drive hr]
  rfl

variable (hs : (s.entry e).state = .confirming)
include hs

theorem answerClaim_of_deferClaim {y : Entry} {a : DeferAnswer} (ha : a ≠ .stalled)
    (hd : (s.entry e).deferClaim s.now st pr tag renew = (y, a)) : s.answerClaim e st pr tag renew =
      ({ s with cells := deferCells a } : State).writeEntry e y := by
  rw [State.answerClaim, if_pos (by simpa using hs), hd]
  cases a with
  | stalled => exact absurd rfl ha
  | listed => exact writeEntry_drive hr ..
  | deferred => exact writeEntry_drive hr ..

theorem answerClaim_of_stalled {y : Entry} (hd : (s.entry e).deferClaim s.now st pr tag renew = (y, .stalled)) :
    s.answerClaim e st pr tag renew = { s with cells := deferCells .stalled } := by
  rw [State.answerClaim, if_pos (by simpa using hs), hd]
  exact drive_running _ hr

end Answer

/-- Settles O23: the owner's entry is read, and takes the claim by `Entry.join`, or by `Entry.deferClaim` in CONFIRMING. -/
theorem faultClaimReceived_holds : Obligations.FaultClaimReceived := by
  intro s f key pr tag renew h hb acked owned
  have hr : s.acked.running = true := h.1
  have next {t : State} (ht : faultClaimReceived f s = t) : exec (.faultClaimReceived f) s = .next t := congrArg _ ht
  refine ⟨fun ho => next (faultClaimReceived_unowned h hb ho), fun e ho hc => ?_⟩
  intro x listed waiting joined
  have taken := faultClaimReceived_owned h hb ho hc
  have opened (hs : x.state ≠ .confirming) :
      exec (.faultClaimReceived f) s = .next (owned.joinEntry e f.sender pr renew).settle :=
    next (taken.trans (congrArg _ (answerClaim_of_open hr hs)))
  have joins {y : Entry} (hs : x.state ≠ .confirming) (hy : x.join s.now f.sender pr renew = y.revived) :
      exec (.faultClaimReceived f) s = joined y :=
    (opened hs).trans (congrArg (fun z => Host.Outcome.next (owned.writeEntry e z).settle) hy)
  have defers {y : Entry} {a : DeferAnswer} (hs : x.state = .confirming) (ha : a ≠ .stalled)
      (hd : x.deferClaim s.now f.sender pr tag renew = (y, a)) : exec (.faultClaimReceived f) s =
        .next (({ s.acked with cells := deferCells a } : State).writeEntry e y).settle :=
    next (taken.trans (congrArg _ (answerClaim_of_deferClaim hr hs ha hd)))
  refine ⟨opened, fun hs hl => ?_, fun hs hl hn => ?_, fun hs hl hn => ?_, fun hs hl => ?_, fun hs hl hw => ?_,
    fun hs hl hw hn => ?_, fun hs hl hw hn => ?_⟩
  · exact joins hs (Entry.join_of_listed (Entry.lists_iff.2 hl))
  · exact joins hs (Entry.join_of_room (Entry.lists_eq_false.2 hl) hn)
  · exact joins hs (Entry.join_of_full (Entry.lists_eq_false.2 hl) hn)
  · exact defers (a := .listed) hs nofun (Entry.deferClaim_of_listed (Entry.lists_iff.2 hl))
  · exact defers (a := .deferred) hs nofun (Entry.deferClaim_of_waiting (Entry.lists_eq_false.2 hl) hw)
  · exact defers (a := .deferred) hs nofun (Entry.deferClaim_of_room (Entry.lists_eq_false.2 hl) hw hn)
  · exact next (taken.trans (congrArg _ (answerClaim_of_stalled hr hs
      (Entry.deferClaim_of_full (Entry.lists_eq_false.2 hl) hw hn))))

/-- Settles O24: the owner's entry is read, and takes the LEAVE by `Entry.leave`. -/
theorem leaveReceived_holds : Obligations.LeaveReceived := by
  intro s f key pr h hb acked
  have next {t : State} (ht : leaveReceived f s = t) : exec (.leaveReceived f) s = .next t := congrArg _ ht
  refine ⟨fun ho => next (leaveReceived_unowned h hb ho), fun e ho hc => ?_⟩
  intro x listed rest left
  have taken : exec (.leaveReceived f) s = .next (s.acked.leaveEntry e f.sender pr) := next (leaveReceived_owned h hb ho hc)
  have same (hx : x.leave s.now f.sender pr = x) : s.acked.leaveEntry e f.sender pr = s.acked := by
    have hx : (s.acked.entry e).leave s.acked.now f.sender pr = s.acked.entry e := hx
    simp [State.leaveEntry, hx]
  have leaves {y : Entry} (hy : x.leave s.now f.sender pr = y) (hne : y ≠ x) : exec (.leaveReceived f) s = left y := by
    have hy : (s.acked.entry e).leave s.acked.now f.sender pr = y := hy
    have hne : y ≠ s.acked.entry e := hne
    rw [taken, State.leaveEntry]
    simp only [hy, beq_iff_eq, hne, if_false, Entry.clearIfEmpty_eq]
    rfl
  refine ⟨taken, fun hl hs => ?_, fun hs hl => ?_, fun hl ho => ?_, fun hl ho => ?_⟩
  · refine leaves (Entry.leave_of_listed (Entry.lists_iff.2 hl) hs) fun e => ?_
    obtain ⟨m, hm, own⟩ := hl
    have gone : m ∈ rest := by rw [show rest = x.members from congrArg Entry.members e]; exact hm
    simp [rest, own] at gone
  · refine leaves (Entry.leave_of_confirming hs hl) fun e => ?_
    obtain ⟨m, hm, own⟩ := hl
    have := (List.map_inj_left (g := id)).1 ((congrArg Entry.members e).trans (List.map_id _).symm) m hm
    simpa [own] using congrArg Member.leaving this
  · refine leaves (Entry.leave_of_overflow (Entry.lists_eq_false.2 hl) ho) fun e => ?_
    have : x.overflow - 1 = x.overflow := congrArg Entry.overflow e
    omega
  · rw [taken, same (Entry.leave_of_stranger (Entry.lists_eq_false.2 hl) ho)]
    rfl

end Sys2Proof.Machine
end

section
/-! PROOFS. The claim's waits as they end (R90, R116, R127), alone and two together (R84), and the claim made PENDING
(R84, R85). -/

namespace Sys2Proof.Machine

namespace State

/-! ### A claim made (R84, R85) -/

/-- The tag allocated is the first free one from the pointer, upward and round (R84). -/
theorem freeTag_of_first {s : State} {n : Fin 32} (hn : s.tags.get (s.tagPointer + n) = none)
    (hlow : ∀ m : Fin 32, m < n → s.tags.get (s.tagPointer + m) ≠ none) : s.freeTag = s.tagPointer + n := by
  have first := find?_finRange (c := fun m : Fin 32 => (s.tags.get (s.tagPointer + m)).isNone) (i := n) (by simp [hn])
    fun m hm => by simpa using Option.isSome_iff_ne_none.2 (hlow m hm)
  rw [freeTag, List.find?_map, Function.comp_def, first]
  rfl

theorem claimPending_of_no_item {s : State} {p : Pair} (h : s.hasItem (.faultClaim p) = false) (cls : FaultClass) :
    s.claimPending p cls = ((s.allocateTag p cls).setClaim p .pending none).place (.faultClaim p) := by
  have absent : ((s.allocateTag p cls).setClaim p .pending none).hasItem (.faultClaim p) = false := h
  simp [claimPending, absent]

theorem claimPending_of_item {s : State} {p : Pair} (h : s.hasItem (.faultClaim p) = true) (cls : FaultClass) :
    s.claimPending p cls =
      ((s.allocateTag p cls).setClaim p .pending none).updateItem (.faultClaim p) renewedItem := by
  have there : ((s.allocateTag p cls).setClaim p .pending none).hasItem (.faultClaim p) = true := h
  simp [claimPending, there]

theorem claimMake_of_unowned {s : State} {p : Pair} {cls : FaultClass} (h : s.ownedEntry (s.pairKey p cls) = none) :
    s.claimMake p cls = s.claimPending p cls := by
  simp only [claimMake, h]

theorem claimMake_of_owned {s : State} {p : Pair} {cls : FaultClass} {e : EntryNo} (hr : s.running = true)
    (h : s.ownedEntry (s.pairKey p cls) = some e) (hc : (s.entry e).check = true) :
    s.claimMake p cls = s.localJoin e p cls := by
  have live := (ownedEntry_state h).1
  simp [claimMake, h, readEntry_of_check hc, hr, live]

/-! ### The end of a wait -/

section WaitEnds

variable {s : State} {p : Pair} {cls : FaultClass}

theorem claimWaitEnd_of_deferred {u tag : Tag} (hc : (s.pair p).claim = .deferred u) (ht : s.tagOf p = some (tag, cls)) :
    s.claimWaitEnd p = (((s.retireTag p).setClaim p .unclaimed none).claimMake p cls).settle := by
  simp only [claimWaitEnd, hc, ht]

theorem claimWaitEnd_of_linked (hc : (s.pair p).claim = .linked cls false) (hi : s.hasItem (.faultClaim p) = false) :
    s.claimWaitEnd p = ((s.setClaim p (.linked cls false) none).allocateTag p cls).place (.faultClaim p) := by
  simp [claimWaitEnd, hc, hi]

/-- A hold-off of a pair that is not FAULTED ends in no claim (R90). -/
theorem claimWaitEnd_of_clear (hc : (s.pair p).claim = .heldOff) (hf : (s.pair p).fault ≠ .faulted) :
    s.claimWaitEnd p = s.setClaim p .unclaimed none := by
  have healthy : ((s.setClaim p .unclaimed none).pair p).fault ≠ .faulted := by simpa [State.setClaim] using hf
  unfold claimWaitEnd
  simp only [hc]
  split
  · next h _ => exact absurd h healthy
  · rfl

theorem claimWaitEnd_of_heldOff (hc : (s.pair p).claim = .heldOff) (hf : (s.pair p).fault = .faulted)
    (hk : pairClass (s.pair p).latched = some cls) :
    s.claimWaitEnd p = ((s.setClaim p .unclaimed none).claimMake p cls).settle := by
  have faulted : ((s.setClaim p .unclaimed none).pair p).fault = .faulted := by simpa [State.setClaim] using hf
  have latched : pairClass ((s.setClaim p .unclaimed none).pair p).latched = some cls := by
    simpa [State.setClaim] using hk
  simp only [claimWaitEnd, hc, faulted, latched]

/-- A hold-off or a defer wait whose end claims for a class (R90, R127). -/
def EndsInClaim (s : State) (p : Pair) (cls : FaultClass) : Prop :=
  ((s.pair p).claim = .heldOff ∧ (s.pair p).fault = .faulted ∧ pairClass (s.pair p).latched = some cls) ∨
    ∃ u tag, (s.pair p).claim = .deferred u ∧ s.tagOf p = some (tag, cls)

/-- The claim such an end makes for a key not owned here: a deferral's tag is retired first (R127). -/
def claimAnew (s : State) (p : Pair) (cls : FaultClass) : State :=
  (((if (s.pair p).claim = .heldOff then s else s.retireTag p).setClaim p .unclaimed none).claimPending p cls).settle

theorem claimWaitEnd_of_claim (h : s.EndsInClaim p cls) (ho : s.ownedEntry (s.pairKey p cls) = none) :
    s.claimWaitEnd p = s.claimAnew p cls := by
  have unowned {t : State} (entries : t.entries = s.entries) (straps : t.straps = s.straps) :
      t.claimMake p cls = t.claimPending p cls :=
    claimMake_of_unowned ((ownedEntry_pairKey entries straps).trans ho)
  obtain ⟨hc, hf, hk⟩ | ⟨u, tag, hc, ht⟩ := h
  · rw [claimWaitEnd_of_heldOff hc hf hk, unowned (by simp) (by simp), claimAnew, if_pos hc]
  · rw [claimWaitEnd_of_deferred hc ht, unowned (by simp) (by simp), claimAnew, if_neg (by simp [hc])]

/-! ### The expiries -/

variable {t : Nat} (hr : s.running = true) (ht : (s.pair p).claimTimer = some t)
include hr ht

theorem deferWaitExpiry_of_running {u : Tag} {tag : Tag × FaultClass} (hc : (s.pair p).claim = .deferred u)
    (htag : s.tagOf p = some tag) : deferWaitExpiry p s = s.claimWaitsEnd t p := by
  simp [deferWaitExpiry, hr, ht, hc, htag]

theorem renewTimerExpiry_of_running (hc : (s.pair p).claim = .linked cls false)
    (hi : s.hasItem (.faultClaim p) = false) : renewTimerExpiry p s = s.claimWaitsEnd t p := by
  simp [renewTimerExpiry, hr, ht, hc, hi]

theorem holdOffExpiry_of_running (hc : (s.pair p).claim = .heldOff) : holdOffExpiry p s = s.claimWaitsEnd t p := by
  simp [holdOffExpiry, hr, ht, hc]

/-- A wait that ends with none of a lower pair is that pair's own end, the clock at it (R84; log entry 2). -/
theorem claimWaitsEnd_own (h : ∀ q : Pair, q < p → (s.pair q).claimTimer = some t → (s.pair q).claim = .pending) :
    s.claimWaitsEnd t p = (s.elapseTo t).claimWaitEnd p := by
  rw [claimWaitsEnd_alone h]
  exact claimWaitTurn_of_own hr ht

end WaitEnds

/-! ### Two waits that end together (R84; log entry 53) -/

/-- The pairs up to one, with a lower one picked out. -/
theorem allPairs_upTo_two : ∀ q p : Pair, q < p → (allPairs.filter fun r => r ≤ p) =
    (allPairs.filter fun r => r < q) ++ q :: ((allPairs.filter fun r => q < r ∧ r < p) ++ [p]) := by
  decide +kernel

/-- Of two waits that end together the lower pair's is taken first, whichever expiry comes first. -/
theorem claimWaitsEnd_two {s : State} {q p : Pair} {t : Nat} (hr : s.running = true) (hqp : q < p)
    (hq : (s.pair q).claimTimer = some t) (hp : (s.pair p).claimTimer = some t)
    (others : ∀ r : Pair, r < p → r ≠ q → (s.pair r).claimTimer = some t → (s.pair r).claim = .pending)
    {first : State} (hfirst : (s.elapseTo t).claimWaitEnd q = first) (running : first.running = true)
    (same : ∀ r : Pair, r ≤ p → r ≠ q → first.pair r = s.pair r) :
    s.claimWaitsEnd t p = first.claimWaitEnd p := by
  have below : ∀ r ∈ allPairs.filter (fun r => r < q),
      ((s.elapseTo t).pair r).claimTimer = some t → ((s.elapseTo t).pair r).claim = .pending := by
    intro r hmem
    have lower : r < q := by simpa using (List.mem_filter.1 hmem).2
    exact others r (lower.trans hqp) lower.ne
  have between : ∀ r ∈ allPairs.filter (fun r => q < r ∧ r < p),
      (first.pair r).claimTimer = some t → (first.pair r).claim = .pending := by
    intro r hmem
    obtain ⟨above, lower⟩ : q < r ∧ r < p := by simpa using (List.mem_filter.1 hmem).2
    rw [same r lower.le above.ne']
    exact others r lower above.ne'
  have own : claimWaitTurn t (s.elapseTo t) q = first :=
    (claimWaitTurn_of_own (s := s.elapseTo t) hr hq).trans hfirst
  rw [claimWaitsEnd, allPairs_upTo_two q p hqp, List.foldl_append, foldl_claimWaitTurn_of_other below, List.foldl_cons,
    own, List.foldl_append, foldl_claimWaitTurn_of_other between]
  exact claimWaitTurn_of_own running (by rw [same p le_rfl hqp.ne']; exact hp)

end State

/-- Settles O38: each wait's own end; the claim as one tag, one claim state and one item; and of two ends the lower
pair's first. -/
theorem claimTimersAndPending : Obligations.ClaimTimersAndPending := by
  refine ⟨fun s p t hr ht alone => ?waits, fun s p cls n hr hi hn hlow => ?pending,
    fun s q p t k c hr hqp hq hp others => ?two⟩
  case waits =>
    intro then_
    have own := State.claimWaitsEnd_own hr ht alone
    have claims {cls : FaultClass} (h : s.EndsInClaim p cls) (ho : s.ownedEntry (s.pairKey p cls) = none) :
        s.claimWaitsEnd t p = then_.claimAnew p cls := own.trans (State.claimWaitEnd_of_claim h ho)
    refine ⟨fun u tag cls hc htag ho => ?_, fun cls hc hi => ?_, fun hc => ⟨fun hf => ?_, fun cls hf hk ho => ?_⟩⟩
    · have ends := (State.deferWaitExpiry_of_running hr ht hc htag).trans (claims (.inr ⟨u, tag, hc, htag⟩) ho)
      have deferred : (then_.pair p).claim ≠ .heldOff := by rw [show (then_.pair p).claim = .deferred u from hc]; nofun
      rw [State.claimAnew, if_neg deferred] at ends
      exact congrArg _ ends
    · exact congrArg _ ((State.renewTimerExpiry_of_running hr ht hc hi).trans (own.trans
        (State.claimWaitEnd_of_linked (s := then_) hc hi)))
    · exact congrArg _ ((State.holdOffExpiry_of_running hr ht hc).trans (own.trans
        (State.claimWaitEnd_of_clear (s := then_) hc hf)))
    · have ends := (State.holdOffExpiry_of_running hr ht hc).trans (claims (.inl ⟨hc, hf, hk⟩) ho)
      have held : (then_.pair p).claim = .heldOff := hc
      rw [State.claimAnew, if_pos held] at ends
      exact congrArg _ ends
  case pending =>
    intro t
    have tag := State.freeTag_of_first hn hlow
    have claimed : t = ((s.allocateTag p cls).setClaim p .pending none).place (.faultClaim p) :=
      State.claimPending_of_no_item hi cls
    refine ⟨fun i => ?_, ?_, ?_, fun q hq => ?_, ?_, ?_⟩ <;> rw [claimed]
    · rw [State.place_tags, ← tag]
      exact get_set ..
    · rw [State.place_tagPointer, ← tag]
      rfl
    · rw [State.place_pair, State.setClaim, State.pair_modPair_same]
      rfl
    · rw [State.place_pair, State.setClaim, State.pair_modPair_ne _ _ _ _ hq]
      rfl
    · exact State.item_place_new (k := .faultClaim p) (by simpa using hr) hi
    · rw [State.place_eq]
      rfl
  case two =>
    intro ends claims first hfirst hlast ho running same tag ho'
    have lower : (s.elapseTo t).claimWaitEnd q = first := State.claimWaitEnd_of_claim (s := s.elapseTo t) hfirst ho
    have together := State.claimWaitsEnd_two hr hqp hq hp others lower running same
    have last : first.EndsInClaim p c := by
      simpa only [State.EndsInClaim, same p le_rfl hqp.ne', tag] using hlast
    have both : s.claimWaitsEnd t p = claims first p c := together.trans (State.claimWaitEnd_of_claim last ho')
    refine ⟨fun hc => ?_, fun u hc => ?_⟩
    · exact congrArg _ ((State.holdOffExpiry_of_running hr hp hc).trans both)
    · obtain ⟨hc', -⟩ | ⟨_, tag', -, htag⟩ := hlast
      · rw [hc] at hc'; cases hc'
      · exact congrArg _ ((State.deferWaitExpiry_of_running hr hp hc htag).trans both)

end Sys2Proof.Machine
end

section
/-! PROOFS. What the claim logic does with the claim of a pair of this station (R83, R86 to R89, R113), case by case of the
claim state. -/

namespace Sys2Proof.Machine

/-! ### The key of an entry that is left -/

@[simp] theorem Entry.leave_key (x : Entry) (now : Nat) (st : StationNo) (pr : PairNo) : (x.leave now st pr).key = x.key := by
  unfold Entry.leave
  dsimp only
  (repeat' split) <;> rfl

@[simp] theorem Entry.clearIfEmpty_key (x : Entry) (now : Nat) : (x.clearIfEmpty now).key = x.key := by
  unfold Entry.clearIfEmpty
  split <;> rfl

namespace State

/-- The write of an entry for another key makes this station no owner. -/
theorem ownedEntry_writeEntry_of_other {s : State} {e : EntryNo} {x : Entry} {key : Key} (hx : x.key ≠ some key)
    (ho : s.ownedEntry key = none) : (s.writeEntry e x).ownedEntry key = none := by
  refine ownedEntry_eq_none fun i hi => ?_
  rw [entry_writeEntry] at hi ⊢
  by_cases h : i = e
  · rw [if_pos h] at hi
    exact absurd hi hx
  · rw [if_neg h] at hi ⊢
    have absent := List.find?_eq_none.1 ho i (List.mem_finRange i)
    simpa [hi] using absent

/-- A leave from an entry for another key makes this station no owner. -/
theorem ownedEntry_leaveEntry_of_other {s : State} {e : EntryNo} {key : Key} (hx : (s.entry e).key ≠ some key)
    (ho : s.ownedEntry key = none) (st : StationNo) (pr : PairNo) : (s.leaveEntry e st pr).ownedEntry key = none := by
  unfold State.leaveEntry
  dsimp only
  split
  · exact ho
  · exact ownedEntry_writeEntry_of_other (by simpa using hx) ho

section OwnPair

variable {s : State} {p : Pair} {cls k : FaultClass}

/-! ### Leaving an incident (R86) -/

theorem setClaim_withdrawClaim (c : ClaimState) (t : Option Nat) :
    (s.setClaim p c t).withdrawClaim p = (s.withdrawClaim p).setClaim p c t := by
  simp only [withdrawClaim, withdraw_eq]
  rfl

theorem setClaim_leaveEntry (c : ClaimState) (t : Option Nat) (e : EntryNo) (st : StationNo) (pr : PairNo) :
    (s.setClaim p c t).leaveEntry e st pr = (s.leaveEntry e st pr).setClaim p c t := by
  simp only [setClaim, modPair, setPair_leaveEntry, leaveEntry_pair]

@[simp] theorem leaveEntry_straps (e : EntryNo) (st : StationNo) (pr : PairNo) :
    (s.leaveEntry e st pr).straps = s.straps := by
  simp only [leaveEntry]; split <;> simp

theorem leaveIncident_elsewhere : s.leaveIncident p k false =
    ((s.withdrawClaim p).setClaim p .unclaimed none).place (.leave p (s.pairKey p k)) := by
  simp [leaveIncident, setClaim_withdrawClaim]

theorem leaveIncident_here {e : EntryNo} (hr : s.running = true) (he : s.ownedEntry (s.pairKey p k) = some e)
    (hc : (s.entry e).check = true) : s.leaveIncident p k true =
      (s.leaveEntry e s.straps.station (pairNo p)).setClaim p .unclaimed none := by
  rw [← setClaim_leaveEntry]
  exact localLeave_of_check (s := s.setClaim p .unclaimed none) hr he hc p

/-! ### The end of a pair's standing (R83, R89) -/

theorem endStanding_unclaimed (h : (s.pair p).claim = .unclaimed) : s.endStanding p = s := by
  simp only [endStanding, h]

theorem endStanding_pending (h : (s.pair p).claim = .pending) :
    s.endStanding p = (s.withdrawClaim p).setClaim p .unclaimed none := by
  simp only [endStanding, h]

theorem endStanding_deferred {t : Tag} (h : (s.pair p).claim = .deferred t) :
    s.endStanding p = (s.retireTag p).setClaim p .unclaimed none := by
  simp only [endStanding, h]

theorem endStanding_linked {owned : Bool} (h : (s.pair p).claim = .linked k owned) :
    s.endStanding p = s.leaveIncident p k owned := by
  simp only [endStanding, h]

theorem endStanding_heldOff (h : (s.pair p).claim = .heldOff) : s.endStanding p = s.setClaim p .unclaimed none := by
  simp only [endStanding, h]

/-! ### A FAULTED pair's class (R87, R88) -/

theorem claimFor_heldOff (h : (s.pair p).claim = .heldOff) : s.claimFor p cls = s := by
  simp only [claimFor, h]

theorem claimFor_linked_same {owned : Bool} (h : (s.pair p).claim = .linked cls owned) : s.claimFor p cls = s := by
  simp [claimFor, h]

theorem claimFor_linked {owned : Bool} (h : (s.pair p).claim = .linked k owned) (hk : k ≠ cls)
    (hr : (s.leaveIncident p k owned).running = true) :
    s.claimFor p cls = (s.leaveIncident p k owned).claimMake p cls := by
  simp [claimFor, h, hk, hr]

section Tagged

variable {t : Tag} (ht : s.tagOf p = some (t, k))
include ht

theorem claimFor_same (h : (s.pair p).claim = .pending ∨ ∃ u, (s.pair p).claim = .deferred u) (hk : k = cls) :
    s.claimFor p cls = s := by
  obtain h | ⟨u, h⟩ := h <;> simp [claimFor, h, ht, hk]

theorem claimFor_turned (h : (s.pair p).claim = .pending) (hk : k ≠ cls) : s.claimFor p cls = s.turnClaim p cls := by
  simp [claimFor, h, ht, hk]

theorem claimFor_deferred {u : Tag} (h : (s.pair p).claim = .deferred u) (hk : k ≠ cls) :
    s.claimFor p cls = (s.retireTag p).claimMake p cls := by
  simp [claimFor, h, ht, hk]

end Tagged

theorem turnClaim_of_unowned (ho : s.ownedEntry (s.pairKey p cls) = none) :
    s.turnClaim p cls = (s.retireTag p).claimPending p cls := by
  simp only [turnClaim, ho]

theorem turnClaim_of_owned {e : EntryNo} (hr : s.running = true) (ho : s.ownedEntry (s.pairKey p cls) = some e)
    (hc : (s.entry e).check = true) : s.turnClaim p cls = (s.withdrawClaim p).localJoin e p cls := by
  have live := (ownedEntry_state ho).1
  simp [turnClaim, ho, readEntry_of_check hc, hr, live]

theorem localJoin_of_open {e : EntryNo} (h : (s.entry e).state ≠ .confirming) :
    s.localJoin e p cls = (s.joinEntry e s.straps.station (pairNo p) false).setClaim p (.linked cls true) none := by
  simp [localJoin, h, joinOwn]

/-- A pair LINKED under another class leaves first, and then claims for a key not owned here (R86, R88). -/
theorem claimFor_of_left {owned : Bool} {t : State} (h : (s.pair p).claim = .linked k owned) (hk : k ≠ cls)
    (left : s.leaveIncident p k owned = t) (hr : t.running = true) (straps : t.straps = s.straps)
    (ho : t.ownedEntry (s.pairKey p cls) = none) : s.claimFor p cls = t.claimPending p cls := by
  rw [claimFor_linked h hk (left ▸ hr), left]
  exact claimMake_of_unowned (by rw [pairKey_of_straps straps]; exact ho)

theorem claimFor_left_elsewhere (hr : s.running = true) (h : (s.pair p).claim = .linked k false) (hk : k ≠ cls)
    (ho : s.ownedEntry (s.pairKey p cls) = none) : s.claimFor p cls =
      (((s.withdrawClaim p).setClaim p .unclaimed none).place (.leave p (s.pairKey p k))).claimPending p cls := by
  refine claimFor_of_left h hk leaveIncident_elsewhere (by simpa using hr) (by simp [withdrawClaim]) ?_
  rw [ownedEntry, place_eq, withdrawClaim, withdraw_eq]
  exact ho

theorem claimFor_left_here {e : EntryNo} (hr : s.running = true) (h : (s.pair p).claim = .linked k true) (hk : k ≠ cls)
    (ho : s.ownedEntry (s.pairKey p cls) = none) (he : s.ownedEntry (s.pairKey p k) = some e)
    (hc : (s.entry e).check = true) : s.claimFor p cls =
      ((s.leaveEntry e s.straps.station (pairNo p)).setClaim p .unclaimed none).claimPending p cls := by
  refine claimFor_of_left h hk (leaveIncident_here hr he hc) (by simpa using hr) (by simp) ?_
  refine ownedEntry_leaveEntry_of_other ?_ ho _ _
  rw [(ownedEntry_state he).2]
  exact fun same => hk (congrArg Key.cls (Option.some.inj same))

end OwnPair
end State

/-- Settles O39: the claim state says what is done; the claims made then are the ones for a key not owned here. -/
theorem ownPairStanding : Obligations.OwnPairStanding := by
  refine ⟨fun s p cls step hstep hr => ?faulted, fun s p hr => ?ended, fun s p k forced => ?closed⟩
  case faulted =>
    intro r did elsewhere withdrawn
    have consequence : did = s.claimFor p cls := by obtain rfl | rfl := hstep <;> rfl
    rw [consequence]
    refine ⟨State.claimFor_pending, State.claimFor_heldOff, fun owned => State.claimFor_linked_same,
      fun t hc ht => State.claimFor_same ht hc rfl, fun t k hc ht hk => ?_, fun t u k hc ht hk ho => ?_,
      fun k hc hk ho => ?_, fun k e hc hk ho he hcheck => ?_⟩
    · rw [State.claimFor_turned ht hc hk]
      refine ⟨fun ho hi => ?_, fun e ho hcheck hs => ?_⟩
      · rw [State.turnClaim_of_unowned ho, State.claimPending_of_item (by exact hi)]
        rfl
      · rw [State.turnClaim_of_owned hr ho hcheck, State.localJoin_of_open (by simpa [State.withdrawClaim] using hs)]
        simp only [State.withdrawClaim, State.retireTag_straps, State.withdraw_straps]
        rfl
    · rw [State.claimFor_deferred ht hc hk]
      exact State.claimMake_of_unowned ho
    · exact State.claimFor_left_elsewhere hr hc hk ho
    · exact State.claimFor_left_here hr hc hk ho he hcheck
  case ended =>
    exact ⟨rfl, State.endStanding_unclaimed, State.endStanding_pending, fun t => State.endStanding_deferred,
      fun k hc => (State.endStanding_linked hc).trans State.leaveIncident_elsewhere,
      fun k e hc he hcheck => (State.endStanding_linked hc).trans (State.leaveIncident_here hr he hcheck),
      State.endStanding_heldOff⟩
  case closed =>
    intro linked
    have test : ((s.pair p).claim == .linked k.cls true && s.pairKey p k.cls == k) = true ↔ linked := by simp [linked]
    refine ⟨fun h => ?_, fun h hf => ?_, fun h hf => ?_⟩
    · exact if_neg (test.not.2 h)
    · rw [State.unlinkOwn, if_pos (test.2 h), if_pos hf]
      rfl
    · rw [State.unlinkOwn, if_pos (test.2 h), if_neg (by simp [hf])]

end Sys2Proof.Machine
end

section
/-! PROOFS. The local join and the local deferral (R85, R118), reached at the end of a hold-off (R90), and the answer of the
defer list (R125). -/

namespace Sys2Proof.Machine

/-- Every pair is named by its own pair field. -/
theorem toPair_pairNo (p : Pair) : toPair (pairNo p) = some p := by
  have small : p.val % 32 = p.val := Nat.mod_eq_of_lt (p.isLt.trans (by norm_num))
  simp [toPair, pairNo, small]

namespace State

/-! ### The local join -/

section LocalJoin

variable {s : State} {e : EntryNo} {p : Pair} {cls : FaultClass}

theorem setClaim_setClaim (s : State) (p : Pair) (c c' : ClaimState) (t t' : Option Nat) :
    (s.setClaim p c t).setClaim p c' t' = s.setClaim p c' t' := by
  simp only [setClaim, modPair, setPair_setPair, pair_setPair_same]
  rfl

theorem setClaim_writeEntry (s : State) (p : Pair) (c : ClaimState) (t : Option Nat) (e : EntryNo) (x : Entry) :
    (s.setClaim p c t).writeEntry e x = (s.writeEntry e x).setClaim p c t := by
  simp only [writeEntry_eq]
  rfl

theorem allocateTag_of_freeTag {tag : Tag} (h : s.freeTag = tag) : s.allocateTag p cls = { s with
    tags := s.tags.set tag.val (some { pair := p, cls := cls }) tag.isLt, tagPointer := tag + 1 } := by
  subst h; rfl

section Confirming

variable (hs : (s.entry e).state = .confirming)
include hs

/-- A pair that the CONFIRMING entry lists is taken as listed (R118). -/
theorem localJoin_of_listed (hl : (s.entry e).lists s.straps.station (pairNo p) = true) : s.localJoin e p cls =
    (s.writeEntry e { s.entry e with
      members := (s.entry e).members.map fun m =>
        if m.station = s.straps.station ∧ m.pair = pairNo p then { m with renewed := s.now, leaving := false } else m
      changed := true }).setClaim p (.linked cls true) none := by
  simp [localJoin, hs, hl, Entry.deferClaim_of_listed hl]

variable (hl : (s.entry e).lists s.straps.station (pairNo p) = false) {y : Entry}
include hl

/-- A pair that it does not list is DEFERRED, and recorded in its defer list (R118). -/
theorem localJoin_of_recorded (hd : (s.entry e).deferClaim s.now s.straps.station (pairNo p) (BitVec.ofFin s.freeTag) false =
    (y, .deferred)) : s.localJoin e p cls =
      ((s.allocateTag p cls).setClaim p (.deferred s.freeTag) (some (s.now + 10000))).writeEntry e y := by
  simp [localJoin, hs, hl, hd]

/-- Where the defer list is full the pair is DEFERRED all the same (R118). -/
theorem localJoin_of_full (hd : (s.entry e).deferClaim s.now s.straps.station (pairNo p) (BitVec.ofFin s.freeTag) false =
    (y, .stalled)) : s.localJoin e p cls =
      (s.allocateTag p cls).setClaim p (.deferred s.freeTag) (some (s.now + 10000)) := by
  simp [localJoin, hs, hl, hd]

end Confirming

/-- What the claim state was before a local join does not matter to it. -/
theorem setClaim_localJoin (s : State) (c : ClaimState) (t : Option Nat) (e : EntryNo) (p : Pair) (cls : FaultClass) :
    (s.setClaim p c t).localJoin e p cls = s.localJoin e p cls := by
  have entry : (s.setClaim p c t).entry e = s.entry e := by simp
  have tag : (s.setClaim p c t).freeTag = s.freeTag := rfl
  have deferred : ((s.setClaim p c t).allocateTag p cls).setClaim p (.deferred s.freeTag) (some (s.now + 10000)) =
      (s.allocateTag p cls).setClaim p (.deferred s.freeTag) (some (s.now + 10000)) :=
    setClaim_setClaim (s.allocateTag p cls) ..
  by_cases hs : (s.entry e).state = .confirming
  · cases hl : (s.entry e).lists s.straps.station (pairNo p) with
    | true =>
      rw [localJoin_of_listed (by rw [entry, hs]) (by rw [entry]; exact hl), localJoin_of_listed hs hl, entry,
        setClaim_writeEntry, setClaim_setClaim]
      rfl
    | false =>
      simp only [localJoin, entry, hs, tag, setClaim_straps, setClaim_now, hl, deferred, bne_self_eq_false,
        Bool.false_eq_true, if_false]
  · rw [localJoin_of_open (by rw [entry]; exact hs), localJoin_of_open hs]
    simp only [joinEntry, entry, setClaim_now, setClaim_straps, setClaim_writeEntry, setClaim_setClaim]

/-- The claim at the end of a hold-off, for a key that this station owns (R85, R90). -/
theorem holdOffExpiry_of_owned {t : Nat} (hr : s.running = true) (hc : (s.pair p).claim = .heldOff)
    (ht : (s.pair p).claimTimer = some t) (hf : (s.pair p).fault = .faulted)
    (alone : ∀ q : Pair, q < p → (s.pair q).claimTimer = some t → (s.pair q).claim = .pending)
    (hk : pairClass (s.pair p).latched = some cls) (ho : s.ownedEntry (s.pairKey p cls) = some e)
    (hcheck : (s.entry e).check = true) : holdOffExpiry p s = ((s.elapseTo t).localJoin e p cls).settle := by
  have joined : ((s.elapseTo t).setClaim p .unclaimed none).claimMake p cls = (s.elapseTo t).localJoin e p cls := by
    rw [claimMake_of_owned (s := (s.elapseTo t).setClaim p .unclaimed none) (e := e) hr ho hcheck, setClaim_localJoin]
  rw [holdOffExpiry_of_running hr ht hc, claimWaitsEnd_own hr ht alone,
    claimWaitEnd_of_heldOff (s := s.elapseTo t) hc hf hk, joined]

end LocalJoin

/-! ### The answer of a defer entry (R125) -/

section AnswerDefer

variable {s : State} {e : EntryNo} {d : Defer}

/-- The state that has taken a defer entry off its entry's list. -/
def undeferred (s : State) (e : EntryNo) (d : Defer) : State :=
  s.writeEntry e { s.entry e with
    defers := (s.entry e).defers.filter fun y => !(y.station == d.station && y.pair == d.pair) }

theorem answerDefer_of_underAnswer (h : d.underAnswer = true) : answerDefer e s d = s := by
  simp only [answerDefer, h, if_true]

theorem answerDefer_of_other (h : d.underAnswer = false) (hs : d.station ≠ s.straps.station) : answerDefer e s d =
    (s.writeEntry e { s.entry e with
      defers := (s.entry e).defers.map fun y =>
        if y.station = d.station ∧ y.pair = d.pair then { y with underAnswer := true } else y }).place
      (.deferredReply e d.station d.pair) := by
  simp [answerDefer, h, hs, Defer.isOf_iff]

variable {p : Pair} (h : d.underAnswer = false) (hs : d.station = s.straps.station) (hp : d.pair = pairNo p)
include h hs hp

theorem answerDefer_of_stale (hc : (s.pair p).claim ≠ .deferred d.tag.toFin) : answerDefer e s d = s.undeferred e d := by
  have named : toPair d.pair = some p := hp ▸ toPair_pairNo p
  simp [answerDefer, h, hs, named, hc, undeferred, Defer.isOf]

variable (hc : (s.pair p).claim = .deferred d.tag.toFin)
include hc

/-- A pair of this station joins the entry that has left CONFIRMING (R125). -/
theorem answerDefer_of_joined {k : Key} (hst : (s.entry e).state ≠ .free) (hk : (s.entry e).key = some k) :
    answerDefer e s d = ((s.undeferred e d).retireTag p).joinOwn e p k.cls := by
  have named : toPair d.pair = some p := hp ▸ toPair_pairNo p
  cases state : (s.entry e).state with
  | free => exact absurd state hst
  | _ => simp [answerDefer, h, hs, named, hc, undeferred, Defer.isOf, state, hk]

/-- It is held off where the entry is FREE (R125). -/
theorem answerDefer_of_free (hst : (s.entry e).state = .free) :
    answerDefer e s d = ((s.undeferred e d).retireTag p).holdOff p := by
  have named : toPair d.pair = some p := hp ▸ toPair_pairNo p
  simp [answerDefer, h, hs, named, hc, undeferred, Defer.isOf, hst]

end AnswerDefer

end State

/-- Settles O40: the claim made is a local join, by the state and the lists of the entry; and a defer entry's answer, case
by case. -/
theorem localJoinsAndAnswers : Obligations.LocalJoinsAndAnswers := by
  refine ⟨fun s p t cls e hr hc ht hf alone hk ho hcheck => ?joins, fun s e => rfl, fun s e d => ?answers⟩
  case joins =>
    intro x now then_ listed recorded
    have ended {u : State} (hu : then_.localJoin e p cls = u) : exec (.holdOffExpiry p) s = .next u.settle :=
      congrArg _ ((State.holdOffExpiry_of_owned hr hc ht hf alone hk ho hcheck).trans (congrArg _ hu))
    refine ⟨fun hs => ended (State.localJoin_of_open hs), fun hs hl => ?_, fun hs hl n hn hlow => ?_⟩
    · exact ended (State.localJoin_of_listed hs (Entry.lists_iff.2 hl))
    · intro tag deferred
      have unlisted : x.lists s.straps.station (pairNo p) = false := Entry.lists_eq_false.2 hl
      have first : then_.freeTag = tag := State.freeTag_of_first (s := then_) hn hlow
      have allocated : (then_.allocateTag p cls).setClaim p (.deferred then_.freeTag) (some (now + 10000)) = deferred := by
        rw [State.allocateTag_of_freeTag first, first]
      have records {y : Entry}
          (hd : x.deferClaim now s.straps.station (pairNo p) (BitVec.ofFin tag) false = (y, .deferred)) :
          exec (.holdOffExpiry p) s = .next (deferred.writeEntry e y).settle := by
        rw [← allocated]
        exact ended (State.localJoin_of_recorded (s := then_) hs unlisted (by rw [first]; exact hd))
      refine ⟨fun hd => records (Entry.deferClaim_of_waiting unlisted hd),
        fun hd hn => records (Entry.deferClaim_of_room unlisted hd hn), fun hd hn => ?_⟩
      rw [← allocated]
      exact ended (State.localJoin_of_full (s := then_) hs unlisted (Entry.deferClaim_of_full unlisted hd hn))
  case answers =>
    intro x removed
    refine ⟨State.answerDefer_of_underAnswer, State.answerDefer_of_other, fun p h hs hp =>
      ⟨State.answerDefer_of_stale h hs hp, fun hc => ⟨fun k hst hk => ?_, fun hst => ?_⟩⟩⟩
    · rw [State.answerDefer_of_joined h hs hp hc hst hk, State.joinOwn, State.retireTag_straps, State.undeferred,
        State.writeEntry_straps]
    · rw [State.answerDefer_of_free h hs hp hc hst, State.holdOff, State.retireTag_now, State.undeferred,
        State.writeEntry_now]

end Sys2Proof.Machine
end

section
/-! PROOFS. The transmit queue as a list (R103 to R105, R110): it stays in order under a removal, under marks on its items and
under a placing, which puts the new item behind those of its precedence; and one frame out at a START. -/

namespace Sys2Proof.Machine

/-! ### Where a new item is placed (R103) -/

theorem insertItem_eq {q : List Item} (h : (q.map fun x => itemPrecedence x.kind).Pairwise (· ≤ ·)) (x : Item) :
    insertItem x q = (q.filter fun y => decide (itemPrecedence y.kind ≤ itemPrecedence x.kind)) ++ [x] ++
      q.filter fun y => decide (itemPrecedence x.kind < itemPrecedence y.kind) := by
  induction q with
  | nil => rfl
  | cons y rest ih =>
    rw [List.map_cons, List.pairwise_cons] at h
    obtain ⟨hle, hrest⟩ := h
    by_cases hy : itemPrecedence y.kind ≤ itemPrecedence x.kind
    · simp [insertItem, hy, ih hrest]
    · have above : ∀ z ∈ rest, itemPrecedence x.kind < itemPrecedence z.kind := fun z hz =>
        (Nat.lt_of_not_le hy).trans_le (hle _ (List.mem_map_of_mem hz))
      have none_below : (rest.filter fun z => decide (itemPrecedence z.kind ≤ itemPrecedence x.kind)) = [] := by
        simpa using above
      have all_above : (rest.filter fun z => decide (itemPrecedence x.kind < itemPrecedence z.kind)) = rest := by
        simpa using above
      simp [insertItem, hy, Nat.lt_of_not_le hy, none_below, all_above]

/-- A placing puts the item among those it must not precede and those it must (R103). -/
theorem insertItem_sorted {q : List Item} (h : (q.map fun x => itemPrecedence x.kind).Pairwise (· ≤ ·)) (x : Item) :
    ((insertItem x q).map fun y => itemPrecedence y.kind).Pairwise (· ≤ ·) := by
  have kept (c : Item → Bool) : (q.filter c).Pairwise fun a b => itemPrecedence a.kind ≤ itemPrecedence b.kind :=
    (List.pairwise_map.1 h).filter c
  rw [insertItem_eq h, List.pairwise_map, List.append_assoc, List.pairwise_append]
  refine ⟨kept _, ?_, fun a ha b hb => ?_⟩
  · rw [List.singleton_append, List.pairwise_cons]
    exact ⟨fun b hb => by have := (List.mem_filter.1 hb).2; simp at this; omega, kept _⟩
  · have ha' : itemPrecedence a.kind ≤ itemPrecedence x.kind := by simpa using (List.mem_filter.1 ha).2
    rcases List.mem_cons.1 hb with rfl | hb
    · exact ha'
    · have : itemPrecedence x.kind < itemPrecedence b.kind := by simpa using (List.mem_filter.1 hb).2
      omega

/-! ### What keeps a queue in order -/

/-- A change of an item that leaves its kind, and builds no frame (R103, R105). -/
def BuildsNothing (f : Item → Item) : Prop := ∀ x, (f x).kind = x.kind ∧ ((f x).content.isSome → x.content.isSome)

theorem buildsNothing_clearBuild : BuildsNothing clearBuild := fun _ => ⟨rfl, nofun⟩
theorem buildsNothing_failedItem : BuildsNothing failedItem := fun _ => ⟨rfl, nofun⟩
theorem buildsNothing_busyItem (s : State) : BuildsNothing s.busyItem := fun _ => ⟨rfl, nofun⟩
theorem buildsNothing_markWithdrawn : BuildsNothing markWithdrawn := fun _ => ⟨rfl, id⟩
theorem buildsNothing_markSuperseded : BuildsNothing markSuperseded := fun _ => ⟨rfl, id⟩
theorem buildsNothing_markOrphaned : BuildsNothing markOrphaned := fun _ => ⟨rfl, id⟩
theorem buildsNothing_renewedItem : BuildsNothing renewedItem := fun _ => ⟨rfl, id⟩

theorem buildsNothing_orphanBuilt : BuildsNothing orphanBuilt := fun x => by
  unfold orphanBuilt; split <;> exact ⟨rfl, id⟩

theorem BuildsNothing.ite {f : Item → Item} (h : BuildsNothing f) (c : Item → Bool) :
    BuildsNothing fun x => if c x then f x else x := fun x => by
  dsimp only; split
  exacts [h x, ⟨rfl, id⟩]

namespace State

theorem inFlight_eq_none {s : State} : s.inFlight = none ↔ ∀ x ∈ s.queue, x.content = none := by
  simp [State.inFlight]

section QueueOk
variable {s t : State} (h : s.QueueOk)
include h

/-- Items leave a queue (R105 to R108). -/
theorem QueueOk.sublist (sub : t.queue.Sublist s.queue) (st : t.station = s.station) : t.QueueOk := by
  obtain ⟨sorted, names, single, quiet⟩ := h
  exact ⟨sorted.sublist (sub.map _), names.sublist (sub.map _), ((sub.filter _).length_le).trans single,
    fun hne x hx => quiet (st ▸ hne) x (sub.subset hx)⟩

/-- Items of a queue are marked, counted or taken out of contention (R105 to R109). -/
theorem QueueOk.map {f : Item → Item} (hf : BuildsNothing f) (q : t.queue = s.queue.map f)
    (st : t.station = s.station) : t.QueueOk := by
  obtain ⟨sorted, names, single, quiet⟩ := h
  have kinds {α : Type} (g : ItemKind → α) : (s.queue.map f).map (fun x => g x.kind) = s.queue.map fun x => g x.kind := by
    rw [List.map_map]
    exact List.map_congr_left fun x _ => congrArg g (hf x).1
  rw [State.QueueOk, q, kinds itemPrecedence, kinds itemRef, st]
  refine ⟨sorted, names, ?_, fun hne x hx => ?_⟩
  · rw [← List.countP_eq_length_filter, List.countP_map]
    exact (List.countP_mono_left fun x _ hx => (hf x).2 hx).trans (List.countP_eq_length_filter ▸ single)
  · obtain ⟨y, hy, rfl⟩ := List.mem_map.1 hx
    have := (hf y).2
    rw [quiet hne y hy] at this
    simpa using this

/-- A placing (R103, R104, R110). -/
theorem QueueOk.place (k : ItemKind) : (s.place k).QueueOk := by
  unfold State.place
  split
  case isFalse => exact h
  case isTrue hk =>
    obtain ⟨sorted, names, single, quiet⟩ := h
    have perm := insertItem_perm (newItem k) s.queue
    refine ⟨insertItem_sorted sorted _, ?_, ?_, fun hne x hx => ?_⟩
    · refine ((perm.map _).nodup_iff).2 (List.nodup_cons.2 ⟨?_, names⟩)
      simpa [State.hasItem, newItem] using ((Bool.and_eq_true _ _).mp hk).2
    · rw [(perm.filter _).length_eq, List.filter_cons_of_neg (by simp [newItem])]
      exact single
    · rcases List.mem_cons.1 (perm.mem_iff.1 hx) with rfl | hx
      exacts [rfl, quiet hne x hx]

/-- A frame goes out where none is out, from an ACTIVE station (R105, R110). -/
theorem QueueOk.build (hf : s.inFlight = none) (ha : s.station = .active) (ref : ItemRef) (b : Body) :
    (s.updateItem ref fun x => { x with content := some b }).QueueOk := by
  obtain ⟨sorted, names, single, quiet⟩ := h
  have unbuilt := inFlight_eq_none.1 hf
  have kinds {α : Type} (g : ItemKind → α) :
      (s.updateItem ref fun x => { x with content := some b }).queue.map (fun x => g x.kind) =
        s.queue.map fun x => g x.kind := by
    rw [State.updateItem, List.map_map]
    exact List.map_congr_left fun x _ => by simp only [Function.comp]; split <;> rfl
  refine ⟨(kinds itemPrecedence) ▸ sorted, (kinds itemRef) ▸ names, ?_, fun hne => absurd ha hne⟩
  rw [← List.countP_eq_length_filter, State.updateItem, List.countP_map]
  calc s.queue.countP _ ≤ s.queue.countP ((· == ref) ∘ fun x => itemRef x.kind) :=
        List.countP_mono_left fun x hx hb => by
          by_contra hr
          simp_all
    _ = (s.queue.map fun x => itemRef x.kind).count ref := by rw [List.count, List.countP_map]
    _ ≤ 1 := List.nodup_iff_count_le_one.1 names ref

end QueueOk

theorem queueOk_of_empty {t : State} (q : t.queue = []) : t.QueueOk := by simp [State.QueueOk, q]

end State
end Sys2Proof.Machine
end

section
/-! PROOFS. The transmit queue through the named operations, the tone pool, the claim logic, the incident table and the test
bus controller (R103 to R110): none of them builds a frame, and each leaves a queue in order. -/

namespace Sys2Proof.Machine
namespace State

/-! ### The relation -/

/-- What every operation but a START, the entry into ACTIVE and a restart does to the queue: it stays in order (R103, R104),
no frame goes out, and the station goes nowhere but out of its running (R105, R110). -/
structure SparesQueue (s t : State) : Prop where
  ok : s.QueueOk → t.QueueOk
  unbuilt : s.inFlight = none → t.inFlight = none
  station : t.station = s.station ∨ t.running = false

theorem running_congr {s t : State} (h : t.station = s.station) : t.running = s.running := by
  simp only [State.running, h]

namespace SparesQueue

theorem refl (s : State) : s.SparesQueue s := ⟨id, id, .inl rfl⟩

theorem trans {s t u : State} (h : s.SparesQueue t) (k : t.SparesQueue u) : s.SparesQueue u := by
  refine ⟨k.ok ∘ h.ok, k.unbuilt ∘ h.unbuilt, ?_⟩
  rcases k.station with hk | hk
  · exact h.station.imp hk.trans (running_congr hk).trans
  · exact .inr hk

/-- `SparesQueue.trans` with the later operation first, as the term of a composed operation shows it. -/
theorem after {s t u : State} (k : t.SparesQueue u) (h : s.SparesQueue t) : s.SparesQueue u := h.trans k

theorem ite {s t u : State} {c : Prop} [Decidable c] (ht : s.SparesQueue t) (hu : s.SparesQueue u) :
    s.SparesQueue (if c then t else u) := by
  split <;> assumption

theorem foldl {α : Type} {f : State → α → State} (h : ∀ (s : State) (a : α), s.SparesQueue (f s a)) (l : List α)
    (s : State) : s.SparesQueue (l.foldl f s) := by
  induction l generalizing s with
  | nil => exact .refl s
  | cons a rest ih => exact (h s a).trans (ih _)

/-- An operation that writes neither the queue nor the station state. -/
theorem of_queue {s t : State} (queue : t.queue = s.queue := by simp) (station : t.station = s.station := by simp) :
    s.SparesQueue t :=
  ⟨fun h => h.sublist (queue ▸ List.Sublist.refl _) station,
    fun h => by simpa only [State.inFlight, queue] using h, .inl station⟩

/-- `SparesQueue.of_queue` after another operation. -/
theorem congr {s t u : State} (h : s.SparesQueue t) (queue : u.queue = t.queue := by simp)
    (station : u.station = t.station := by simp) : s.SparesQueue u :=
  h.trans (.of_queue queue station)

theorem of_sublist {s t : State} (sub : t.queue.Sublist s.queue) (station : t.station = s.station) : s.SparesQueue t :=
  ⟨fun h => h.sublist sub station, fun h => inFlight_eq_none.2 fun x hx => inFlight_eq_none.1 h x (sub.subset hx),
    .inl station⟩

theorem of_map {s t : State} {f : Item → Item} (hf : BuildsNothing f) (q : t.queue = s.queue.map f)
    (station : t.station = s.station) : s.SparesQueue t := by
  refine ⟨fun h => h.map hf q station, fun h => inFlight_eq_none.2 fun x hx => ?_, .inl station⟩
  obtain ⟨y, hy, rfl⟩ := List.mem_map.1 (q ▸ hx)
  have := (hf y).2
  rw [inFlight_eq_none.1 h y hy] at this
  simpa using this

/-- The queue is given up with the station's running (R110). -/
theorem of_stop {s t : State} (queue : t.queue = []) (h : t.running = false) : s.SparesQueue t :=
  ⟨fun _ => queueOk_of_empty queue, fun _ => inFlight_eq_none.2 (by simp [queue]), .inr h⟩

/-! ### Operations that leave the queue alone -/

theorem elapseTo (s : State) (t : Nat) : s.SparesQueue (s.elapseTo t) := .of_queue
theorem setPair (s : State) (p : Pair) (r : PairRecord) : s.SparesQueue (s.setPair p r) := .of_queue
theorem modPair (s : State) (p : Pair) (f : PairRecord → PairRecord) : s.SparesQueue (s.modPair p f) := .of_queue
theorem setService (s : State) (p : Pair) (v : Service) : s.SparesQueue (s.setService p v) := .of_queue
theorem setReceiver (s : State) (r : ReceiverNo) (x : Receiver) : s.SparesQueue (s.setReceiver r x) := .of_queue
theorem setSlot (s : State) (i : Fin 4) (x : Option ReplySlot) : s.SparesQueue (s.setSlot i x) := .of_queue
theorem setBus (s : State) (b : TestBus) : s.SparesQueue { s with bus := b } := .of_queue rfl rfl
theorem setUnit (s : State) (u : TestUnit) : s.SparesQueue { s with unit := u } := .of_queue rfl rfl
theorem setClaim (s : State) (p : Pair) (c : ClaimState) (t : Option Nat) : s.SparesQueue (s.setClaim p c t) := .of_queue
theorem holdOff (s : State) (p : Pair) : s.SparesQueue (s.holdOff p) := .setClaim ..
theorem retireTag (s : State) (p : Pair) : s.SparesQueue (s.retireTag p) := .of_queue
theorem allocateTag (s : State) (p : Pair) (cls : FaultClass) : s.SparesQueue (s.allocateTag p cls) := .of_queue
theorem leaveWaitList (s : State) (p : Pair) : s.SparesQueue (s.leaveWaitList p) := .of_queue rfl rfl
theorem callTest (s : State) : s.SparesQueue s.callTest := .of_queue
theorem clearRun (s : State) : s.SparesQueue s.clearRun := .of_queue rfl rfl
theorem beginAccess (s : State) (p : Pair) (holder : StationNo) : s.SparesQueue (s.beginAccess p holder) := .of_queue
theorem endAccess (s : State) : s.SparesQueue s.endAccess := .of_queue
theorem stopUnit (s : State) : s.SparesQueue s.stopUnit := .of_queue
theorem leaveMine (s : State) (view : BusHolder) : s.SparesQueue (s.leaveMine view) := .of_queue rfl rfl
theorem setView (s : State) (v : BusHolder) : s.SparesQueue (s.setView v) := .of_queue
theorem accepted (s : State) : s.SparesQueue s.accepted := .of_queue
theorem becomeHolder (s : State) : s.SparesQueue s.becomeHolder := .of_queue rfl rfl
theorem drive (s : State) (c : Cells) : s.SparesQueue (s.drive c) := .of_queue

/-! ### The queue's own operations -/

theorem place (s : State) (k : ItemKind) : s.SparesQueue (s.place k) := by
  refine ⟨fun h => h.place k, fun h => ?_, .inl (State.place_station s k)⟩
  rw [inFlight_eq_none] at h ⊢
  intro x hx
  unfold State.place at hx
  split at hx
  · rcases List.mem_cons.1 ((insertItem_perm _ _).mem_iff.1 hx) with rfl | hx
    exacts [rfl, h x hx]
  · exact h x hx

theorem removeItem (s : State) (ref : ItemRef) : s.SparesQueue (s.removeItem ref) := .of_sublist List.filter_sublist rfl

theorem updateItem (s : State) (ref : ItemRef) {f : Item → Item} (hf : BuildsNothing f) :
    s.SparesQueue (s.updateItem ref f) := .of_map (hf.ite fun x => itemRef x.kind == ref) rfl rfl

theorem withdraw (s : State) (ref : ItemRef) {mark : Item → Item} (hf : BuildsNothing mark) :
    s.SparesQueue (s.withdraw ref mark) := by
  unfold State.withdraw
  split
  · exact .refl s
  · exact .ite (.updateItem s ref hf) (.removeItem s ref)

theorem placeLineEvents (s : State) (p : Pair) : s.SparesQueue (s.placeLineEvents p) := .ite (.refl s) (.place ..)

theorem appendEvent (s : State) (p : Pair) (t : EventType) (v : Nat) : s.SparesQueue (s.appendEvent p t v) :=
  .after (.placeLineEvents ..) (.modPair ..)

/-! ### The tone receiver pool (chapter 4) -/

theorem lend (s : State) (r : ReceiverNo) (p : Pair) : s.SparesQueue (s.lend r p) := .of_queue rfl rfl

theorem requestReceiver (s : State) (p : Pair) : s.SparesQueue (s.requestReceiver p) := by
  unfold State.requestReceiver
  refine .ite (.refl s) ?_
  split
  exacts [.lend .., .of_queue]

theorem releaseReceiver (s : State) (r : ReceiverNo) : s.SparesQueue (s.releaseReceiver r) := by
  have handOn (t : State) (w : Waiting) (rest : List Waiting) : t.SparesQueue
      ((({ t with waitList := rest } : State).lend r w.pair).appendEvent w.pair .receiverLate
        (min 15 ((t.now - w.since) / 1000))) :=
    .after (.appendEvent ..) (.after (.lend ..) (.of_queue rfl rfl))
  unfold State.releaseReceiver
  cases (s.receiver r).pair with
  | none => dsimp only; split; exacts [.setReceiver .., handOn ..]
  | some p => dsimp only; split; exacts [.after (.setReceiver ..) (.modPair ..), .after (handOn ..) (.modPair ..)]

theorem dropReceiver (s : State) (p : Pair) : s.SparesQueue (s.dropReceiver p) := by
  unfold State.dropReceiver
  split
  exacts [.releaseReceiver .., .leaveWaitList ..]

theorem reclaimReceiver (s : State) (p : Pair) : s.SparesQueue (s.reclaimReceiver p) := by
  unfold State.reclaimReceiver
  refine (SparesQueue.leaveWaitList s p).trans ?_
  dsimp only
  split
  exacts [.releaseReceiver .., .refl _]

theorem poolMessage (s : State) (p : Pair) (m : PoolMessage) : s.SparesQueue (s.poolMessage p m) := by
  cases m with
  | silent => exact .refl s
  | request => exact .requestReceiver ..
  | release => exact .dropReceiver ..

theorem noteAudio (s : State) (p : Pair) : s.SparesQueue (s.noteAudio p) := by
  unfold State.noteAudio
  split
  exacts [.refl s, .setReceiver ..]

theorem completeBlock (s : State) (r : ReceiverNo) (p : Pair) (samples : List Int) :
    s.SparesQueue (s.completeBlock r p samples) := by
  unfold State.completeBlock
  dsimp only
  split
  · exact .setReceiver ..
  · exact .after (.appendEvent ..) (.after (.modPair ..) (.after (.setReceiver ..) (.setReceiver ..)))

theorem toneBlock (r : ReceiverNo) (samples : Vector Int 80) (s : State) : s.SparesQueue (toneBlock r samples s) := by
  unfold Machine.toneBlock
  refine .ite (.refl s) ?_
  split
  exacts [.refl s, .completeBlock ..]

theorem digitPause (r : ReceiverNo) (s : State) : s.SparesQueue (digitPause r s) := by
  unfold Machine.digitPause
  refine .ite (.refl s) ?_
  split
  exacts [.refl s, .ite (.refl s) (.after (.releaseReceiver ..) (.elapseTo ..))]

theorem noDigit (r : ReceiverNo) (s : State) : s.SparesQueue (noDigit r s) := by
  unfold Machine.noDigit
  refine .ite (.refl s) ?_
  split
  exacts [.ite (.refl s) (.after (.releaseReceiver ..) (.elapseTo ..)), .refl s]

/-! ### Station control (chapter 11) -/

theorem enterFailed (s : State) : s.SparesQueue s.enterFailed := .of_stop rfl rfl

theorem pinAssert (s : State) : s.SparesQueue (pinAssert s) := .of_stop rfl rfl

theorem reportIntegrity (s : State) : s.SparesQueue s.reportIntegrity := by
  unfold State.reportIntegrity
  split
  exacts [.of_queue, .ite (.enterFailed s) .of_queue]

/-! ### Claims (chapter 5) -/

theorem claimPending (s : State) (p : Pair) (cls : FaultClass) : s.SparesQueue (s.claimPending p cls) :=
  .after (.ite (.updateItem _ _ buildsNothing_renewedItem) (.place ..)) (.after (.setClaim ..) (.allocateTag ..))

theorem withdrawClaim (s : State) (p : Pair) : s.SparesQueue (s.withdrawClaim p) :=
  .after (.retireTag ..) (.withdraw s _ buildsNothing_markSuperseded)

/-! ### The incident table (chapter 7) -/

theorem writeEntry (s : State) (e : EntryNo) (x : Entry) : s.SparesQueue (s.writeEntry e x) :=
  .after (.ite (.place ..) (.refl _)) (.of_queue rfl rfl)

theorem leaveEntry (s : State) (e : EntryNo) (st : StationNo) (pr : PairNo) : s.SparesQueue (s.leaveEntry e st pr) :=
  .ite (.refl s) (.writeEntry ..)

theorem joinOwn (s : State) (e : EntryNo) (p : Pair) (cls : FaultClass) : s.SparesQueue (s.joinOwn e p cls) :=
  .after (.setClaim ..) (.writeEntry ..)

theorem endLocalAccess (s : State) : s.SparesQueue s.endLocalAccess := by
  unfold State.endLocalAccess
  split
  exacts [.ite (.endAccess s) (.refl s), .refl s]

theorem withdrawQuiet (s : State) : s.SparesQueue s.withdrawQuiet := by
  unfold State.withdrawQuiet
  split
  · split
    exacts [.withdraw s _ buildsNothing_markWithdrawn, .refl s]
  · exact .refl s

theorem abandonRun (s : State) (e : EntryNo) : s.SparesQueue (s.abandonRun e) := by
  unfold State.abandonRun
  split
  · exact .refl s
  · split
    · exact .of_queue rfl rfl
    · have ended : s.SparesQueue s.clearRun.endLocalAccess.withdrawQuiet :=
        .after (.withdrawQuiet _) (.after (.endLocalAccess _) (.clearRun s))
      exact ended.trans (.of_queue rfl rfl)

theorem answerDefer (e : EntryNo) (s : State) (d : Defer) : s.SparesQueue (State.answerDefer e s d) := by
  unfold State.answerDefer
  refine .ite (.refl s) (.ite (.after (.place ..) (.writeEntry ..)) ?_)
  dsimp only
  split
  · exact .writeEntry ..
  · refine .ite ?_ (.writeEntry ..)
    split
    · exact .after (.holdOff ..) (.after (.retireTag ..) (.writeEntry ..))
    · exact .after (.joinOwn ..) (.after (.retireTag ..) (.writeEntry ..))
    · exact .after (.holdOff ..) (.after (.retireTag ..) (.writeEntry ..))

theorem answerDefers (s : State) (e : EntryNo) : s.SparesQueue (s.answerDefers e) :=
  .foldl (SparesQueue.answerDefer e) _ s

theorem unlinkOwn (k : Key) (forced : Bool) (s : State) (p : Pair) : s.SparesQueue (State.unlinkOwn k forced s p) :=
  .ite (.ite (.holdOff s p) (.claimPending s p k.cls)) (.refl s)

theorem closeEntry (s : State) (e : EntryNo) (v : Verdict) (forced : Bool) :
    s.SparesQueue (s.closeEntry e v forced) := by
  have closed : s.SparesQueue ((s.writeEntry e ((s.entry e).closed v forced)).abandonRun e) :=
    .after (.abandonRun ..) (.writeEntry ..)
  unfold State.closeEntry
  dsimp only
  split
  · exact .after (.answerDefers ..) (.after (.foldl (SparesQueue.unlinkOwn _ _) _ _) closed)
  · exact .after (.answerDefers ..) closed

theorem withdrawReplies (s : State) (e : EntryNo) : s.SparesQueue (s.withdrawReplies e) :=
  .after (t := { s with queue := s.queue.filter fun x => !(x.repliesFor e && x.content.isNone) })
    (.of_map (buildsNothing_markWithdrawn.ite (Item.repliesFor e)) rfl rfl) (.of_sublist List.filter_sublist rfl)

theorem loseFree (s : State) (e : EntryNo) (x : Entry) (key : Option Key) : s.SparesQueue (s.loseFree e x key) :=
  .after (.ite (.withdraw _ _ buildsNothing_markWithdrawn) (.refl _)) (.after (.abandonRun ..) (.writeEntry ..))

theorem loseEntry (s : State) (e : EntryNo) : s.SparesQueue (s.loseEntry e) :=
  .after (.reportIntegrity _)
    (.after (.ite (.loseFree ..) (.after (.closeEntry ..) (.writeEntry ..))) (.withdrawReplies ..))

theorem readEntry (s : State) (e : EntryNo) : s.SparesQueue (s.readEntry e) := .ite (.refl s) (.loseEntry s e)

theorem localJoin (s : State) (e : EntryNo) (p : Pair) (cls : FaultClass) : s.SparesQueue (s.localJoin e p cls) := by
  unfold State.localJoin
  refine .ite (.joinOwn ..) (.ite (.after (.setClaim ..) (.writeEntry ..)) ?_)
  dsimp only
  split
  · exact .after (.writeEntry ..) (.after (.setClaim ..) (.allocateTag ..))
  · exact .after (.setClaim ..) (.allocateTag ..)

theorem claimMake (s : State) (p : Pair) (cls : FaultClass) : s.SparesQueue (s.claimMake p cls) := by
  unfold State.claimMake
  split
  · exact .claimPending ..
  · exact .after (.ite (.refl _) (.ite (.claimPending ..) (.localJoin ..))) (.readEntry ..)

theorem localLeave (s : State) (k : Key) (p : Pair) : s.SparesQueue (s.localLeave k p) := by
  unfold State.localLeave
  split
  · exact .refl s
  · exact .after (.ite (.leaveEntry ..) (.refl _)) (.readEntry ..)

theorem leaveIncident (s : State) (p : Pair) (cls : FaultClass) (owned : Bool) :
    s.SparesQueue (s.leaveIncident p cls owned) :=
  .after (.ite (.localLeave ..) (.after (.place ..) (.withdrawClaim ..))) (.setClaim ..)

theorem endStanding (s : State) (p : Pair) : s.SparesQueue (s.endStanding p) := by
  unfold State.endStanding
  split
  · exact .refl s
  · exact .after (.setClaim ..) (.withdrawClaim ..)
  · exact .after (.setClaim ..) (.retireTag ..)
  · exact .leaveIncident ..
  · exact .setClaim ..

theorem turnClaim (s : State) (p : Pair) (cls : FaultClass) : s.SparesQueue (s.turnClaim p cls) := by
  unfold State.turnClaim
  split
  · exact .after (.claimPending ..) (.retireTag ..)
  · exact .after (.ite (.refl _)
      (.ite (.after (.claimPending ..) (.retireTag ..)) (.after (.localJoin ..) (.withdrawClaim ..)))) (.readEntry ..)

theorem claimFor (s : State) (p : Pair) (cls : FaultClass) : s.SparesQueue (s.claimFor p cls) := by
  unfold State.claimFor
  split
  · exact .claimMake ..
  · exact .ite (.refl s) (.turnClaim ..)
  · exact .ite (.refl s) (.after (.claimMake ..) (.retireTag ..))
  · exact .ite (.refl s) (.after (.ite (.claimMake ..) (.refl _)) (.leaveIncident ..))
  · exact .refl s

theorem faultConsequence (s : State) (p : Pair) (x : FaultStep) : s.SparesQueue (s.faultConsequence p x) := by
  cases x with
  | quiet => exact .refl s
  | entered cls => exact .claimFor ..
  | turned cls => exact .claimFor ..
  | cleared => exact .endStanding ..

theorem gatherPending (e : EntryNo) (k : Key) (first : Pair) (s : State) (p : Pair) :
    s.SparesQueue (State.gatherPending e k first s p) :=
  .ite (.after (.joinOwn ..) (.withdrawClaim ..)) (.refl s)

theorem gatherLinked (e : EntryNo) (k : Key) (first : Pair) (s : State) (p : Pair) :
    s.SparesQueue (State.gatherLinked e k first s p) :=
  .ite (.after (.joinOwn ..) (.withdrawClaim ..)) (.refl s)

theorem readToTake (s : State) (k : Key) : s.SparesQueue (s.readToTake k) := by
  unfold State.readToTake
  split
  exacts [.refl s, .readEntry ..]

theorem becomeOwner (s : State) (k : Key) (p : Pair) : s.SparesQueue (s.becomeOwner k p) := by
  unfold State.becomeOwner
  refine .after (.ite (.refl _) ?_) (.after (.readToTake _ k) (.readToTake s k))
  split
  · exact .place ..
  · exact .after (.foldl (SparesQueue.gatherLinked _ _ _) _ _)
      (.after (.foldl (SparesQueue.gatherPending _ _ _) _ _)
        (.after (.setClaim ..) (.after (.retireTag ..) (.writeEntry ..))))

theorem beginConfirmation (s : State) (e : EntryNo) : s.SparesQueue (s.beginConfirmation e) := by
  unfold State.beginConfirmation
  dsimp only
  split
  · exact .refl s
  · exact .ite (.writeEntry ..) (.ite (.writeEntry ..) (.after (.setBus ..) (.writeEntry ..)))

theorem dueStep {s t : State} (h : s.dueStep = some t) : s.SparesQueue t := by
  unfold State.dueStep at h
  split at h
  · cases h
  · split at h
    · cases h; exact .loseEntry ..
    · split at h <;> cases h
      · exact .of_queue
      · exact .beginConfirmation ..
      · exact .after (.beginConfirmation ..) (.of_queue rfl rfl)

/-! ### The test bus controller (chapter 8) -/

theorem concludeRun (s : State) (result : RunResult) : s.SparesQueue (s.concludeRun result) := by
  unfold State.concludeRun
  split
  · exact .refl s
  · exact .after (.ite (.refl _) (.ite (.closeEntry ..)
      (.after (.ite (.refl _) (.writeEntry ..)) (.after (.answerDefers ..) (.writeEntry ..)))))
      (.after (.readEntry ..) (.clearRun s))

theorem endTest (s : State) (outcome : TestOutcome) (legs : List LegRecord) :
    s.SparesQueue (s.endTest outcome legs) := by
  unfold State.endTest
  split
  exacts [.refl s, .after (.place ..) (.of_queue rfl rfl)]

theorem beginMeasurement (s : State) (station : StationNo) (pair : PairNo) (forRun : Bool) :
    s.SparesQueue (s.beginMeasurement station pair forRun) := .ite (.of_queue rfl rfl) (.refl s)

theorem accessOwn (s : State) (p : Pair) (forRun : Bool) : s.SparesQueue (s.accessOwn p forRun) :=
  .after (.beginMeasurement ..) (.beginAccess ..)

theorem abandonLocal (s : State) (p : Pair) : s.SparesQueue (s.abandonLocal p) := by
  unfold State.abandonLocal
  split
  · exact .refl s
  · exact .ite (.after (.ite (.setBus ..) (.endTest ..)) (.stopUnit s)) (.refl s)

theorem cutAccess (s : State) (p : Pair) : s.SparesQueue (s.cutAccess p) :=
  .ite (.after (.abandonLocal ..) (.endAccess s)) (.refl s)

theorem loseLock (s : State) (view : BusHolder) : s.SparesQueue (s.loseLock view) :=
  .after (.concludeRun ..) (.after (.ite (.endTest ..) (.refl _))
    (.after (.leaveMine ..) (.after (.withdraw _ _ buildsNothing_markOrphaned) (.endLocalAccess s))))

theorem startTest (s : State) (t : UplinkTest) : s.SparesQueue (s.startTest t) :=
  .ite (.endTest ..) (.ite (.endTest ..) (.after (.accessOwn ..) (.setBus ..)))

end SparesQueue

/-- A next action, where there is one, spares the queue. -/
def QueueSparedBy (s : State) (o : Option State) : Prop := ∀ t, o = some t → s.SparesQueue t

namespace QueueSparedBy

theorem none {s : State} : s.QueueSparedBy .none := fun _ h => absurd h (Option.some_ne_none _).symm

theorem some {s t : State} (h : s.SparesQueue t) : s.QueueSparedBy (.some t) := fun _ e => Option.some.inj e ▸ h

theorem ite {s : State} {o o' : Option State} {c : Prop} [Decidable c] (h : s.QueueSparedBy o)
    (h' : s.QueueSparedBy o') : s.QueueSparedBy (if c then o else o') := by
  split <;> assumption

theorem visitMember (s : State) (run : Run) (m : Member) : s.QueueSparedBy (s.visitMember run m) := by
  have skip : s.QueueSparedBy (.some { s with bus := { s.bus with position := s.bus.position + 1 } }) :=
    .some (.of_queue rfl rfl)
  unfold State.visitMember
  refine .ite skip (.ite ?own (.ite .none (.some (.place ..))))
  case own =>
    split
    exacts [skip, .ite skip (.some (.accessOwn ..))]

/-- What the holder does next, by its kind (R137, R141, R142). -/
theorem holderStep (s : State) : s.QueueSparedBy s.holderStep := by
  have placed (k : ItemKind) : s.QueueSparedBy (.some (s.place k)) := .some (.place s k)
  have concluded (r : RunResult) : s.QueueSparedBy (.some (s.concludeRun r)) := .some (.concludeRun s r)
  unfold State.holderStep
  refine .ite .none (.ite ?remote (.ite (.ite .none (.some (.congr (.place s .unlock) rfl rfl)))
    (.ite (.ite .none (placed _)) (.ite .none ?job))))
  case remote =>
    split
    exacts [.ite .none (placed _), .none]
  case job =>
    split
    · refine .ite ?_ (.ite .none (.ite (concluded _) (.some (.of_queue rfl rfl))))
      split
      · refine .ite (concluded _) (.ite .none ?_)
        split
        · split
          exacts [.visitMember s _ _, .none]
        · exact .visitMember s _ _
      · exact concluded _
    · refine .ite .none ?_
      split
      · exact .ite (.ite (.some (.endTest ..)) (.some (.startTest ..))) (.ite .none (placed _))
      · exact .ite .none (placed _)

theorem busStep (s : State) : s.QueueSparedBy s.busStep := by
  have stale : s.QueueSparedBy (.some (s.withdraw .testBus markWithdrawn)) :=
    .some (.withdraw s _ buildsNothing_markWithdrawn)
  unfold State.busStep
  refine .ite .none ?_
  split
  · exact .holderStep s
  · exact .ite stale (.ite (.some (.place ..)) .none)
  · exact .ite stale .none

end QueueSparedBy

namespace SparesQueue

theorem nextStep {s t : State} (h : s.nextStep = some t) : s.SparesQueue t := by
  unfold State.nextStep at h
  split at h
  · next hd => cases h; exact .dueStep hd
  · exact QueueSparedBy.busStep s t h

theorem settleUpTo (n : Nat) (s : State) : s.SparesQueue (s.settleUpTo n) := by
  induction n generalizing s with
  | zero => exact .refl s
  | succ n ih =>
    unfold State.settleUpTo
    split
    · exact .refl s
    · next t h => exact (SparesQueue.nextStep h).trans (ih t)

theorem settle (s : State) : s.SparesQueue s.settle := .settleUpTo 400 s

theorem settleIf (s : State) (changed : Bool) : s.SparesQueue (s.settleIf changed) := .ite (.settle s) (.refl s)

/-- An operation, and then what the station does of its own accord. -/
theorem settled {s t : State} (h : s.SparesQueue t) : s.SparesQueue t.settle := h.trans (.settle t)

theorem onEntry {s : State} {act : State → State} (e : EntryNo) (h : s.SparesQueue (act s)) :
    s.SparesQueue (s.onEntry e act) :=
  .ite h (.settled (.loseEntry s e))

end SparesQueue
end State
end Sys2Proof.Machine
end

section
/-! PROOFS. The transmit queue through the frames received, the commands, the outcomes of the frames sent, the test unit, the
scan and the timers. A START builds the one frame out, the end of LISTEN_IN and a restart begin anew: so every command
keeps the queue in order, and every step does (R103 to R105, R110). -/

namespace Sys2Proof.Machine
namespace State
namespace SparesQueue

/-! ### Frames received (chapters 6 to 8) -/

theorem receive {s : State} {act : State → State} (kind : FrameKind) (f : RxFrame)
    (h : ∀ t : State, t.SparesQueue (act t)) : s.SparesQueue (s.receive kind f act) := by
  unfold State.receive
  refine .ite (.refl s) ?_
  split
  · exact .enterFailed s
  · exact .of_queue rfl rfl
  · exact .of_queue rfl rfl
  · exact .after (h _) (.of_queue rfl rfl)

theorem takeLock (f : RxFrame) (ownSeen : Bool) (s : State) : s.SparesQueue (s.takeLock f ownSeen) :=
  .ite (.drive ..) (.ite (.drive ..) (.settled (.after (.setView ..) (.drive ..))))

theorem takeUnlock (s : State) : s.SparesQueue s.takeUnlock :=
  .settled (.after (.ite (.loseLock ..) (.setView ..)) (.drive ..))

theorem noteTestFrame (s : State) (kind : TestBusFrame) (sender : StationNo) :
    s.SparesQueue (s.noteTestFrame kind sender) := by
  cases kind with
  | quiet => exact .ite (.loseLock ..) (.setView ..)
  | release => exact .ite (.loseLock ..) (.setView ..)
  | testResult =>
    unfold State.noteTestFrame
    dsimp only
    split
    exacts [.ite (.setView ..) (.refl s), .refl s, .refl s]

theorem answerQuiet (s : State) (sender : StationNo) (pair : PairNo) (confirmation : Bool) (cls : FaultClass) :
    s.SparesQueue (s.answerQuiet sender pair confirmation cls) := by
  unfold State.answerQuiet
  split
  · exact .refl s
  · exact .ite (.refl s) (.ite (.drive ..) (.after (.drive ..) (.beginAccess ..)))

theorem answerRelease (s : State) (pair : PairNo) : s.SparesQueue (s.answerRelease pair) := by
  unfold State.answerRelease
  dsimp only
  split
  exacts [.drive .., .after (.cutAccess ..) (.drive ..)]

theorem answerTestFrame (s : State) (sender : StationNo) (body : Option Body) :
    s.SparesQueue (s.answerTestFrame sender body) := by
  unfold State.answerTestFrame
  split
  exacts [.answerQuiet .., .answerRelease .., .refl s]

theorem takeTestFrame (kind : TestBusFrame) (f : RxFrame) (s : State) : s.SparesQueue (s.takeTestFrame kind f) :=
  .settled (.after (.ite (.answerTestFrame ..) (.refl _)) (.noteTestFrame ..))

theorem answerClaim (s : State) (e : EntryNo) (st : StationNo) (pr : PairNo) (tag : BitVec 5) (renew : Bool) :
    s.SparesQueue (s.answerClaim e st pr tag renew) := by
  unfold State.answerClaim
  refine .ite ?_ (.after (.drive ..) (.writeEntry ..))
  split
  exacts [.drive .., .after (.drive ..) (.writeEntry ..)]

theorem takeClaim (st : StationNo) (key : Key) (pr : PairNo) (tag : BitVec 5) (renew : Bool) (s : State) :
    s.SparesQueue (s.takeClaim st key pr tag renew) := by
  unfold State.takeClaim
  refine (SparesQueue.drive s ackCell).trans ?_
  dsimp only
  split
  · exact .refl _
  · exact .after (.ite (.refl _) (.ite (.settle _) (.settled (.answerClaim ..)))) (.readEntry ..)

theorem takeLeave (st : StationNo) (key : Key) (pr : PairNo) (s : State) : s.SparesQueue (s.takeLeave st key pr) := by
  unfold State.takeLeave
  refine (SparesQueue.drive s ackCell).trans ?_
  dsimp only
  split
  · exact .refl _
  · exact .after (.ite (.refl _) (.ite (.settle _) (.leaveEntry ..))) (.readEntry ..)

theorem takeDeferredReply (tag : BitVec 5) (pr : PairNo) (key : Key) (joined : Bool) (s : State) :
    s.SparesQueue (s.takeDeferredReply tag pr key joined) := by
  unfold State.takeDeferredReply
  split
  · exact .refl s
  · exact .ite (.after (.ite (.setClaim ..) (.holdOff ..)) (.after (.drive ..) (.retireTag ..))) (.refl s)

theorem hearClosed (key : Key) (forced : Bool) (s : State) (p : Pair) :
    s.SparesQueue (State.hearClosed key forced s p) := by
  unfold State.hearClosed
  refine .ite (.refl s) ?_
  split
  · exact .ite (.after (.ite (.holdOff ..) (.after (.claimMake ..) (.setClaim ..))) (.withdrawClaim ..)) (.refl s)
  · exact .ite (.after (.ite (.holdOff ..) (.after (.claimMake ..) (.setClaim ..))) (.retireTag ..)) (.refl s)
  · exact .refl s

theorem takeIncident (key : Key) (state : ReportedState) (forced : Bool) (s : State) :
    s.SparesQueue (s.takeIncident key state forced) :=
  .ite (.settled (.foldl (SparesQueue.hearClosed _ _) _ s)) (.refl s)

theorem unhandledKindFrame (s : State) : s.SparesQueue (unhandledKindFrame s) := .ite (.of_queue rfl rfl) (.refl s)

theorem faultClaimReceived (f : RxFrame) (s : State) : s.SparesQueue (faultClaimReceived f s) := by
  refine .receive _ f fun t => ?_
  split
  exacts [.takeClaim .., .refl t]

theorem leaveReceived (f : RxFrame) (s : State) : s.SparesQueue (leaveReceived f s) := by
  refine .receive _ f fun t => ?_
  split
  exacts [.takeLeave .., .refl t]

theorem testFrameReceived (kind : TestBusFrame) (f : RxFrame) (s : State) :
    s.SparesQueue (testFrameReceived kind f s) :=
  .receive _ f (.takeTestFrame kind f)

theorem deferredReplyReceived (f : RxFrame) (s : State) : s.SparesQueue (deferredReplyReceived f s) := by
  refine .receive _ f fun t => .ite (.refl t) ?_
  split
  exacts [.takeDeferredReply .., .refl t]

theorem incidentSnooped (f : RxFrame) (s : State) : s.SparesQueue (incidentSnooped f s) := by
  refine .receive _ f fun t => ?_
  split
  exacts [.takeIncident .., .refl t]

/-! ### Commands and replies (chapter 10) -/

theorem doTestPair (s : State) (pr : PairNo) : s.SparesQueue (s.doTestPair pr).state := by
  unfold State.doTestPair
  split
  · exact .refl s
  split
  · exact .refl s
  split
  · exact .refl s
  split
  exacts [.refl s, .setBus ..]

theorem parkPair (s : State) (p : Pair) : s.SparesQueue (s.parkPair p) :=
  .after (.ite (.refl _) (.settled (.after (.setService ..) (.after (.modPair ..) (.dropReceiver ..))))) (.endStanding s p)

theorem doPark (s : State) (pr : PairNo) : s.SparesQueue (s.doPark pr).state := by
  unfold State.doPark
  split
  · exact .refl s
  split
  · exact .refl s
  · exact .refl s
  split
  exacts [.refl s, .parkPair ..]

theorem unparkPair (s : State) (p : Pair) : s.SparesQueue (s.unparkPair p) :=
  .after (.settleIf ..) (.after (.setService ..) (.after (.modPair ..) (.cutAccess ..)))

theorem doUnpark (s : State) (pr : PairNo) : s.SparesQueue (s.doUnpark pr).state := by
  unfold State.doUnpark
  split
  · exact .refl s
  split
  exacts [.refl s, .refl s, .unparkPair ..]

theorem doClearIncident (s : State) (key : Key) : s.SparesQueue (s.doClearIncident key).state := by
  unfold State.doClearIncident
  split
  · exact .refl s
  split
  · exact .settled (.loseEntry ..)
  split
  exacts [.refl s, .settled (.closeEntry ..)]

theorem carryOut (s : State) (c : Command) : s.SparesQueue (s.carryOut c).state := by
  cases c with
  | testPair pr => exact .doTestPair ..
  | park pr => exact .doPark ..
  | unpark pr => exact .doUnpark ..
  | clearIncident key => exact .doClearIncident ..
  | _ => exact .refl s

theorem occupy (s : State) (i : Fin 4) (r : ReplySlot) : s.SparesQueue (s.occupy i r) :=
  .after (.place ..) (.after (.drive ..) (.setSlot ..))

theorem takeCommand (sender : StationNo) (field : BitVec 2) (c : Command) (s : State) :
    s.SparesQueue (s.takeCommand sender field c) := by
  unfold State.takeCommand
  split
  · exact .refl s
  · exact .ite (.after (.ite (.refl _) (.after (.settleIf ..) (.occupy ..))) (SparesQueue.carryOut s c)) (.occupy ..)

theorem commandReceived (kind : LongKind) (f : RxFrame) (s : State) : s.SparesQueue (commandReceived kind f s) := by
  refine .receive _ f fun t => .ite (.refl t) ?_
  split
  exacts [.takeCommand .., .refl t]

/-! ### Contents and outcomes (chapter 6) -/

theorem incidentQuery (s : State) (key : Key) (page : BitVec 3) : s.SparesQueue (s.incidentQuery key page).1 := by
  unfold State.incidentQuery
  split
  · exact .refl s
  split
  · exact .settled (.loseEntry ..)
  split <;> exact .refl s

theorem buildReply (s : State) (r : ReplySlot) : s.SparesQueue (s.buildReply r).1 := by
  unfold State.buildReply
  split
  · exact .refl s
  split
  exacts [.refl s, .incidentQuery .., .refl s]

theorem buildContent (s : State) (k : ItemKind) : s.SparesQueue (s.buildContent k).1 := by
  cases k with
  | reply i =>
    unfold State.buildContent
    dsimp only
    split
    exacts [.buildReply .., .refl s]
  | lineEvents p =>
    show s.SparesQueue (s.modPair p fun r => { r with discard := false })
    exact .modPair ..
  | incident e =>
    have told (t : State) : t.SparesQueue
        (if !t.running then (t, none) else
          (t.writeEntry e { t.entry e with changed := false }, incidentBody (t.entry e))).1 := by
      split
      · exact .refl t
      · show t.SparesQueue (t.writeEntry e { t.entry e with changed := false })
        exact .writeEntry ..
    unfold State.buildContent
    by_cases hc : (s.entry e).check = true
    · simp only [if_pos hc]; exact told s
    · simp only [if_neg hc]; exact .after (told _) (.settled (.loseEntry s e))
  | _ => exact .refl s

theorem arbitrationLost (s : State) : s.SparesQueue (arbitrationLost s) := by
  unfold Machine.arbitrationLost
  refine .ite (.refl s) ?_
  split
  · exact .refl s
  · exact .ite (.settled (.removeItem ..)) (.updateItem _ _ buildsNothing_clearBuild)

theorem dispose (s : State) (x : Item) (o : Outcome) : s.SparesQueue (s.dispose x o).1 := by
  cases o <;> unfold State.dispose <;> dsimp only
  case delivered => exact .removeItem ..
  case busy => split; exacts [.removeItem .., .updateItem _ _ (buildsNothing_busyItem s)]
  case failed => split; exacts [.removeItem .., .updateItem _ _ buildsNothing_failedItem]

/-- The state an item's own part of an outcome leaves, as the producers take it apart. -/
theorem of_dispose {s t : State} {x : Item} {o : Outcome} {fate : Fate} (h : s.dispose x o = (t, fate)) :
    s.SparesQueue t := by
  simpa [h] using SparesQueue.dispose s x o

theorem lineEventsDone (s : State) (x : Item) (p : Pair) (o : Outcome) : s.SparesQueue (s.lineEventsDone x p o) := by
  unfold State.lineEventsDone
  split
  · next h => exact .of_dispose h
  · next h => exact .after (.placeLineEvents ..) (.after (.ite (.refl _) (.modPair ..)) (.of_dispose h))
  · next h => exact .after (.placeLineEvents ..) (.after (.ite (.refl _) (.modPair ..)) (.of_dispose h))

theorem noAttempt (s : State) (x : Item) : s.SparesQueue (s.noAttempt x) :=
  .ite (.removeItem ..) (.updateItem _ _ buildsNothing_clearBuild)

theorem supersededDone (s : State) (x : Item) (p : Pair) (r : TxResult) : s.SparesQueue (s.supersededDone x p r) := by
  unfold State.supersededDone
  refine (SparesQueue.noAttempt s x).trans ?_
  dsimp only
  split
  exacts [.ite (.place ..) (.refl _), .refl _]

theorem faultClaimDone (s : State) (x : Item) (p : Pair) (r : TxResult) : s.SparesQueue (s.faultClaimDone x p r) := by
  unfold State.faultClaimDone
  refine .ite (.noAttempt ..) (.ite (.supersededDone ..) ?_)
  split
  · exact .ite (.after (.modPair ..) (.updateItem _ _ fun _ => ⟨rfl, nofun⟩)) (.updateItem _ _ buildsNothing_failedItem)
  · exact .after (.modPair ..) (.updateItem _ _ fun _ => ⟨rfl, nofun⟩)
  · exact .after (.ite (.ite (.setClaim ..) (.after (.setClaim ..) (.retireTag ..))) (.settled (.becomeOwner ..)))
      (.removeItem ..)
  · exact .refl s

theorem lockDone (s : State) (x : Item) (keepAlive : Bool) (o : Outcome) : s.SparesQueue (s.lockDone x keepAlive o) := by
  unfold State.lockDone
  refine .ite (.settled (.removeItem ..)) (.ite ?_ ?_)
  · split
    · exact .settled (.after (.accepted _) (.removeItem ..))
    · exact .settled (.after (.loseLock ..) (.removeItem ..))
    · split
      · next h => exact .of_dispose h
      · next h => exact .settled (.after (.loseLock ..) (.of_dispose h))
  · split
    · next h => exact .of_dispose h
    · next h => exact .settled (.after (.becomeHolder _) (.of_dispose h))
    · next h => exact .settled (.of_dispose h)

theorem unlockDone (s : State) (x : Item) (o : Outcome) : s.SparesQueue (s.unlockDone x o) := by
  unfold State.unlockDone
  refine .ite (.settled (.removeItem ..)) ?_
  split
  · next h => exact .of_dispose h
  · next h => exact .settled (.after (.leaveMine ..) (.of_dispose h))

theorem passMember (s : State) (x : Item) : s.SparesQueue (s.passMember x) := .ite (.refl s) (.setBus ..)

theorem quietDone (s : State) (x : Item) (st : StationNo) (pr : PairNo) (o : Outcome) :
    s.SparesQueue (s.quietDone x st pr o) := by
  unfold State.quietDone
  refine .ite (.settled (.removeItem ..)) ?_
  split
  · exact .settled (.after (.ite (.refl _) (.beginMeasurement ..))
      (.after (.setBus ..) (.after (.accepted _) (.removeItem ..))))
  · exact .settled (.after (.passMember ..) (.after (.accepted _) (.removeItem ..)))
  · split
    · next h => exact .of_dispose h
    · next h => exact .settled (.after (.passMember ..) (.of_dispose h))

theorem releaseDone (s : State) (x : Item) (o : Outcome) : s.SparesQueue (s.releaseDone x o) := by
  unfold State.releaseDone
  refine .ite (.settled (.removeItem ..)) ?_
  split
  · next h => exact .of_dispose h
  · next h => exact .settled (.after (.accepted _) (.after (.setBus ..) (.of_dispose h)))
  · next h => exact .settled (.after (.setBus ..) (.of_dispose h))

theorem addReplied (s : State) (e : EntryNo) (st : StationNo) (pr : PairNo) (body : Option Body) :
    s.SparesQueue (s.addReplied e st pr body) := by
  unfold State.addReplied
  dsimp only
  split
  exacts [.ite (.writeEntry ..) (.refl s), .refl s]

theorem deferredReplyDone (s : State) (x : Item) (e : EntryNo) (st : StationNo) (pr : PairNo) (o : Outcome) :
    s.SparesQueue (s.deferredReplyDone x e st pr o) := by
  unfold State.deferredReplyDone
  refine .ite (.settled (.after (.removeItem ..) (.loseEntry ..))) (.ite (.settled (.removeItem ..)) ?_)
  split
  · next h => exact .of_dispose h
  · next h => exact .settled (.after (.writeEntry ..) (.after (.addReplied ..) (.of_dispose h)))
  · next h => exact .settled (.after (.writeEntry ..) (.of_dispose h))

theorem incidentDone (s : State) (x : Item) (e : EntryNo) (o : Outcome) : s.SparesQueue (s.incidentDone x e o) := by
  have left (t : State) : t.SparesQueue (t.incidentLeft e) :=
    .onEntry e (.ite (.place ..) (.ite (.writeEntry ..) (.refl t)))
  unfold State.incidentDone
  split
  · next h => exact .of_dispose h
  · next h => exact .after (left _) (.of_dispose h)

theorem testResultDone (s : State) (x : Item) (o : Outcome) : s.SparesQueue (s.testResultDone x o) := by
  unfold State.testResultDone
  split
  · next h => exact .of_dispose h
  · next h => exact .after (.ite (.accepted _) (.refl _)) (.after (.setBus ..) (.of_dispose h))

/-! ### The test unit (chapter 9) -/

theorem handOver (s : State) (m : Measurement) (legs : List LegRecord) : s.SparesQueue (s.handOver m legs) := by
  unfold State.handOver
  refine .ite ?_ (.endTest ..)
  split
  exacts [.refl s, .setBus ..]

theorem legDone (s : State) (m : Measurement) (l : LegRecord) : s.SparesQueue (s.legDone m l) := by
  unfold State.legDone
  split
  · exact .setUnit ..
  · exact .settled (.after (.ite (.endAccess _) (.refl _)) (.after (.handOver ..) (.after (.setUnit ..) (.stopUnit s))))

theorem calibrationDone (volts : Int) (s : State) : s.SparesQueue (calibrationDone volts s) := by
  unfold Machine.calibrationDone
  refine .ite (.refl s) ?_
  split
  · exact .refl s
  · refine .after (.ite (.settled (.setUnit ..)) ?_) (.elapseTo ..)
    exact .settled (.after (.ite (.endTest ..) (.refl _)) (.after (.ite (.concludeRun ..) (.refl _)) (.setUnit ..)))

theorem legOffReadingDone (volts : Int) (s : State) : s.SparesQueue (legOffReadingDone volts s) := by
  unfold Machine.legOffReadingDone
  refine .ite (.refl s) ?_
  split
  · exact .ite (.refl s) (.after (.ite (.legDone ..) (.setUnit ..)) (.elapseTo ..))
  · exact .refl s

theorem legOnReadingDone (volts : Int) (s : State) : s.SparesQueue (legOnReadingDone volts s) := by
  unfold Machine.legOnReadingDone
  refine .ite (.refl s) ?_
  split
  · split
    exacts [.refl s, .after (.legDone ..) (.elapseTo ..)]
  · exact .refl s

/-! ### The scan (chapters 1 to 3 and 5) -/

theorem orphanClaim (s : State) (p : Pair) : s.SparesQueue (s.orphanClaim p) := by
  unfold State.orphanClaim
  split
  exacts [.ite (.refl s) (.withdraw _ _ buildsNothing_markOrphaned), .refl s]

theorem dropClaim (s : State) (p : Pair) : s.SparesQueue (s.dropClaim p) := by
  have dropped : s.SparesQueue ((s.orphanClaim p).retireTag p) := .after (.retireTag ..) (.orphanClaim ..)
  unfold State.dropClaim
  dsimp only
  split
  exacts [.after (.localLeave ..) (.after (.setClaim ..) dropped), dropped]

theorem reinitialise (s : State) (p : Pair) : s.SparesQueue (s.reinitialise p) :=
  .settled (.after (.reportIntegrity _) (.after (.placeLineEvents ..) (.after (.updateItem _ _ buildsNothing_orphanBuilt)
    (.after (.modPair ..) (.after (.cutAccess ..) (.after (.reclaimReceiver ..) (.dropClaim s p)))))))

theorem closeInterval (s : State) (p : Pair) : s.SparesQueue (s.closeInterval p) :=
  .after (.settleIf ..) (.after (.faultConsequence ..) (.after (.placeLineEvents ..) (.after (.setPair ..)
    (.ite (.of_queue rfl rfl) (.refl s)))))

theorem closeIfFull (s : State) (p : Pair) : s.SparesQueue (s.closeIfFull p) := .ite (.closeInterval ..) (.refl s)

theorem evaluateLoop (s : State) (p : Pair) (before : LatchedSet) : s.SparesQueue (s.evaluateLoop p before) :=
  .ite (.refl s) (.after (.settleIf ..) (.after (.faultConsequence ..) (.after (.placeLineEvents ..) (.setPair ..))))

theorem sampleTurn (s : State) (p : Pair) (tip ring : Int) : s.SparesQueue (s.sampleTurn p tip ring) :=
  .after (.noteAudio ..) (.after (.closeIfFull ..) (.after (.evaluateLoop ..)
    (.after (.poolMessage ..) (.after (.placeLineEvents ..) (.setPair ..)))))

theorem scanTurn (p : Pair) (tip ring : Int) (s : State) : s.SparesQueue (scanTurn p tip ring s) := by
  unfold Machine.scanTurn
  refine .ite (.refl s) ?_
  split
  · exact .refl s
  · exact .ite (.refl s) (.reinitialise ..)
  · exact .ite (.reinitialise ..) (.ite (.after (.closeIfFull ..) (.modPair ..)) (.sampleTurn ..))

/-! ### Timers -/

theorem itemBackoffExpiry (ref : ItemRef) (s : State) : s.SparesQueue (itemBackoffExpiry ref s) := by
  unfold Machine.itemBackoffExpiry
  refine .ite (.refl s) ?_
  split
  · split
    exacts [.ite (.after (.modPair ..) (.elapseTo ..)) (.refl s), .refl s]
  · split
    exacts [.after (.updateItem _ _ fun _ => ⟨rfl, id⟩) (.elapseTo ..), .refl s]

theorem claimWaitEnd (s : State) (p : Pair) : s.SparesQueue (s.claimWaitEnd p) := by
  unfold State.claimWaitEnd
  split
  · split
    exacts [.settled (.after (.claimMake ..) (.after (.setClaim ..) (.retireTag ..))), .refl s]
  · exact .ite (.refl s) (.after (.place ..) (.after (.allocateTag ..) (.setClaim ..)))
  · dsimp only
    split
    exacts [.settled (.after (.claimMake ..) (.setClaim ..)), .setClaim ..]
  · exact .refl s

theorem claimWaitsEnd (s : State) (t : Nat) (p : Pair) : s.SparesQueue (s.claimWaitsEnd t p) :=
  .after (.foldl (fun u q => .ite (.claimWaitEnd u q) (.refl u)) _ _) (.elapseTo ..)

theorem deferWaitExpiry (p : Pair) (s : State) : s.SparesQueue (deferWaitExpiry p s) := by
  unfold Machine.deferWaitExpiry
  refine .ite (.refl s) ?_
  split
  exacts [.claimWaitsEnd .., .refl s]

theorem renewTimerExpiry (p : Pair) (s : State) : s.SparesQueue (renewTimerExpiry p s) := by
  unfold Machine.renewTimerExpiry
  refine .ite (.refl s) ?_
  split
  exacts [.ite (.refl s) (.claimWaitsEnd ..), .refl s]

theorem holdOffExpiry (p : Pair) (s : State) : s.SparesQueue (holdOffExpiry p s) := by
  unfold Machine.holdOffExpiry
  refine .ite (.refl s) ?_
  split
  exacts [.claimWaitsEnd .., .refl s]

theorem memberExpiry (e : EntryNo) (st : StationNo) (pr : PairNo) (s : State) :
    s.SparesQueue (memberExpiry e st pr s) := by
  unfold Machine.memberExpiry
  refine .ite (.refl s) ?_
  split
  exacts [.refl s, .after (.onEntry e (.writeEntry ..)) (.elapseTo ..)]

theorem emptyListExpiry (e : EntryNo) (s : State) : s.SparesQueue (emptyListExpiry e s) := by
  unfold Machine.emptyListExpiry
  refine .ite (.refl s) ?_
  split
  exacts [.refl s, .after (.onEntry e (.writeEntry ..)) (.elapseTo ..)]

theorem clearHoldExpiry (e : EntryNo) (s : State) : s.SparesQueue (clearHoldExpiry e s) := by
  unfold Machine.clearHoldExpiry
  refine .ite (.refl s) ?_
  split
  exacts [.refl s, .after (.onEntry e (.closeEntry ..)) (.elapseTo ..)]

theorem confirmationRetryExpiry (e : EntryNo) (s : State) : s.SparesQueue (confirmationRetryExpiry e s) := by
  unfold Machine.confirmationRetryExpiry
  refine .ite (.refl s) ?_
  split
  exacts [.refl s, .after (.onEntry e (.settled (.after (.callTest _) (.writeEntry ..)))) (.elapseTo ..)]

theorem viewLapse (s : State) : s.SparesQueue (viewLapse s) := by
  unfold Machine.viewLapse
  refine .ite (.refl s) ?_
  split
  exacts [.settled (.after (.setView ..) (.elapseTo ..)), .refl s, .refl s]

theorem keepAliveDue (s : State) : s.SparesQueue (keepAliveDue s) := by
  unfold Machine.keepAliveDue
  refine .ite (.refl s) ?_
  split
  exacts [.refl s, .ite (.after (.place ..) (.elapseTo ..)) (.refl s)]

theorem selfLimitExpiry (s : State) : s.SparesQueue (selfLimitExpiry s) := by
  unfold Machine.selfLimitExpiry
  refine .ite (.refl s) ?_
  split
  exacts [.refl s, .settled (.after (.loseLock ..) (.elapseTo ..))]

theorem restraintExpiry (s : State) : s.SparesQueue (restraintExpiry s) := by
  unfold Machine.restraintExpiry
  refine .ite (.refl s) ?_
  split
  exacts [.refl s, .settled (.after (.setBus ..) (.elapseTo ..))]

theorem jobDeadlineExpiry (job : Job) (s : State) : s.SparesQueue (jobDeadlineExpiry job s) := by
  unfold Machine.jobDeadlineExpiry
  refine .ite (.refl s) ?_
  split
  · exact .refl s
  · cases job with
    | confirmation => exact .settled (.after (.concludeRun ..) (.elapseTo ..))
    | uplinkTest => exact .settled (.after (.endTest ..) (.elapseTo ..))

theorem releaseWaitExpiry (s : State) : s.SparesQueue (releaseWaitExpiry s) := by
  unfold Machine.releaseWaitExpiry
  refine .ite (.refl s) ?_
  split
  exacts [.refl s, .settled (.after (.setBus ..) (.elapseTo ..))]

theorem selfReleaseExpiry (s : State) : s.SparesQueue (selfReleaseExpiry s) := by
  unfold Machine.selfReleaseExpiry
  refine .ite (.refl s) ?_
  split
  exacts [.refl s, .after (.settleIf ..) (.after (.cutAccess ..) (.elapseTo ..))]

theorem idle (s : State) : s.SparesQueue s.idle := .ite (.of_queue rfl rfl) (.refl s)

end SparesQueue

/-! ### The commands that do more: a restart, the end of LISTEN_IN, a START -/

section QueueOk
variable {s : State} (h : s.QueueOk)
include h

/-- A REPLY that leaves frees its slot, or begins everything anew (R162, R171). -/
theorem QueueOk.replyDone (x : Item) (i : Fin 4) (o : Outcome) : (s.replyDone x i o).QueueOk := by
  have left {t : State} (ht : t.QueueOk) : (t.replyLeft i).QueueOk := by
    unfold State.replyLeft
    split
    · split
      exacts [queueOk_of_empty rfl, (SparesQueue.setSlot ..).ok ht]
    · exact ht
  unfold State.replyDone
  split
  · next hd => exact (SparesQueue.of_dispose hd).ok h
  · next hd => exact left ((SparesQueue.of_dispose hd).ok h)

theorem QueueOk.produce (x : Item) (r : TxResult) : (s.produce x r).QueueOk := by
  unfold State.produce
  dsimp only
  split
  · exact (SparesQueue.lineEventsDone ..).ok h
  · exact (SparesQueue.faultClaimDone ..).ok h
  · exact (SparesQueue.dispose ..).ok h
  · exact (SparesQueue.lockDone ..).ok h
  · exact (SparesQueue.unlockDone ..).ok h
  · exact (SparesQueue.quietDone ..).ok h
  · exact (SparesQueue.releaseDone ..).ok h
  · exact (SparesQueue.deferredReplyDone ..).ok h
  · exact (SparesQueue.incidentDone ..).ok h
  · exact h.replyDone ..
  · exact (SparesQueue.testResultDone ..).ok h

theorem QueueOk.frameOutcome (kind : SentKind) (r : TxResult) : (frameOutcome kind r s).QueueOk := by
  have noted : (s.noteEnd r).QueueOk := by
    cases r with
    | collision =>
      unfold State.noteEnd
      dsimp only
      split <;> exact h
    | sent c => exact h
  unfold Machine.frameOutcome
  split
  · exact h
  split
  · exact h
  split
  exacts [noted.produce _ r, h]

theorem QueueOk.frameTruncated : (frameTruncated s).QueueOk := by
  have cleared : State.QueueOk { s with abandoned := false, cells := noCells } := h
  unfold Machine.frameTruncated
  split
  · exact h
  dsimp only
  split
  exacts [cleared, cleared.produce ..]

/-- No frame is out in LISTEN_IN (R110, R175). -/
theorem QueueOk.listenInExpiry : (listenInExpiry s).QueueOk := by
  unfold Machine.listenInExpiry
  split
  · obtain ⟨sorted, names, single, -⟩ := h
    exact (SparesQueue.settle _).ok ⟨sorted, names, single, fun hne => absurd rfl hne⟩
  · exact h

/-- The build spares the queue, and the station is ACTIVE where it still runs, so the frame offered is the one frame out
(R105). -/
theorem QueueOk.offer (hf : s.inFlight = none) (ha : s.station = .active) (x : Item) : (s.offer x).QueueOk := by
  have built := SparesQueue.buildContent s x.kind
  unfold State.offer
  dsimp only
  split
  · exact built.ok h
  · next hr =>
    split
    · exact built.ok h
    · refine (built.ok h).build (built.unbuilt hf) ?_ _ _
      rcases built.station with hst | hst
      · exact hst.trans ha
      · simp [hst] at hr

theorem QueueOk.contentionStart : (contentionStart s).QueueOk := by
  have quiet : State.QueueOk { s with abandoned := false } := h
  unfold Machine.contentionStart
  split
  · exact h
  · next hc =>
    simp only [Bool.or_eq_true, bne_iff_ne, not_or, not_not, Bool.not_eq_true, Option.isSome_eq_false_iff,
      Option.isNone_iff_eq_none] at hc
    dsimp only
    split
    exacts [quiet, quiet.offer hc.2 hc.1 _]

end QueueOk

theorem QueueOk.spared {s t u : State} (hs : s.QueueOk) (h : s.SparesQueue t)
    (e : (Host.Outcome.next t : Host.Outcome State Fault Refusal) = .next u) : u.QueueOk := by
  cases e; exact h.ok hs

theorem QueueOk.of_next {t u : State} (h : t.QueueOk)
    (e : (Host.Outcome.next t : Host.Outcome State Fault Refusal) = .next u) : u.QueueOk := by
  cases e; exact h

/-- Every command keeps the queue in order. -/
theorem QueueOk.exec {c : Instr} {s t : State} (hs : s.QueueOk) (h : exec c s = .next t) : t.QueueOk := by
  cases c with
  | resetPinAssert => exact .spared hs (.pinAssert s) h
  | resetPinRelease straps => exact .of_next (queueOk_of_empty rfl) h
  | listenInExpiry => exact hs.listenInExpiry.of_next h
  | scanTurn p tip ring => exact .spared hs (.scanTurn p tip ring s) h
  | toneBlockComplete r samples => exact .spared hs (.toneBlock r samples s) h
  | digitPauseExpiry r => exact .spared hs (.digitPause r s) h
  | noDigitExpiry r => exact .spared hs (.noDigit r s) h
  | contentionStart => exact hs.contentionStart.of_next h
  | arbitrationLost => exact .spared hs (.arbitrationLost s) h
  | frameTruncated => exact hs.frameTruncated.of_next h
  | frameCheckedOnly kind f => exact .spared hs (.receive _ f .refl) h
  | unhandledKindFrame long kind => exact .spared hs (.unhandledKindFrame s) h
  | lockReceived f ownSeen => exact .spared hs (.receive _ f (.takeLock f ownSeen)) h
  | unlockReceived f => exact .spared hs (.receive _ f .takeUnlock) h
  | faultClaimReceived f => exact .spared hs (.faultClaimReceived f s) h
  | leaveReceived f => exact .spared hs (.leaveReceived f s) h
  | quietReceived f => exact .spared hs (.testFrameReceived .quiet f s) h
  | releaseReceived f => exact .spared hs (.testFrameReceived .release f s) h
  | testFrameSnooped kind f => exact .spared hs (.testFrameReceived kind f s) h
  | deferredReplyReceived f => exact .spared hs (.deferredReplyReceived f s) h
  | incidentSnooped f => exact .spared hs (.incidentSnooped f s) h
  | queryPair f => exact .spared hs (.commandReceived .queryPair f s) h
  | queryIncident f => exact .spared hs (.commandReceived .queryIncident f s) h
  | testPair f => exact .spared hs (.commandReceived .testPair f s) h
  | park f => exact .spared hs (.commandReceived .park f s) h
  | unpark f => exact .spared hs (.commandReceived .unpark f s) h
  | clearIncident f => exact .spared hs (.commandReceived .clearIncident f s) h
  | restart f => exact .spared hs (.commandReceived .restart f s) h
  | lineEventsOutcome r => exact (hs.frameOutcome .lineEvents r).of_next h
  | faultClaimOutcome r => exact (hs.frameOutcome .faultClaim r).of_next h
  | leaveOutcome r => exact (hs.frameOutcome .leave r).of_next h
  | lockOutcome r => exact (hs.frameOutcome .lock r).of_next h
  | unlockOutcome r => exact (hs.frameOutcome .unlock r).of_next h
  | quietOutcome r => exact (hs.frameOutcome .quiet r).of_next h
  | releaseOutcome r => exact (hs.frameOutcome .release r).of_next h
  | deferredReplyOutcome r => exact (hs.frameOutcome .deferredReply r).of_next h
  | incidentOutcome r => exact (hs.frameOutcome .incident r).of_next h
  | replyOutcome r => exact (hs.frameOutcome .reply r).of_next h
  | testResultOutcome r => exact (hs.frameOutcome .testResult r).of_next h
  | itemBackoffExpiry ref => exact .spared hs (.itemBackoffExpiry ref s) h
  | deferWaitExpiry p => exact .spared hs (.deferWaitExpiry p s) h
  | renewTimerExpiry p => exact .spared hs (.renewTimerExpiry p s) h
  | holdOffExpiry p => exact .spared hs (.holdOffExpiry p s) h
  | memberExpiry e st pr => exact .spared hs (.memberExpiry e st pr s) h
  | emptyListExpiry e => exact .spared hs (.emptyListExpiry e s) h
  | clearHoldExpiry e => exact .spared hs (.clearHoldExpiry e s) h
  | confirmationRetryExpiry e => exact .spared hs (.confirmationRetryExpiry e s) h
  | viewLapse => exact .spared hs (.viewLapse s) h
  | keepAliveDue => exact .spared hs (.keepAliveDue s) h
  | selfLimitExpiry => exact .spared hs (.selfLimitExpiry s) h
  | restraintExpiry => exact .spared hs (.restraintExpiry s) h
  | jobDeadlineExpiry job => exact .spared hs (.jobDeadlineExpiry job s) h
  | releaseWaitExpiry => exact .spared hs (.releaseWaitExpiry s) h
  | selfReleaseExpiry => exact .spared hs (.selfReleaseExpiry s) h
  | calibrationDone volts => exact .spared hs (.calibrationDone volts s) h
  | legOffReadingDone volts => exact .spared hs (.legOffReadingDone volts s) h
  | legOnReadingDone volts => exact .spared hs (.legOnReadingDone volts s) h

theorem QueueOk.step {s t : State} (hs : s.QueueOk) (h : step s = .next t) : t.QueueOk := by
  unfold Machine.step at h
  split at h
  · exact .spared hs (.idle s) h
  · next rest _ =>
    have waiting : State.QueueOk { s with pending := rest } := hs
    exact waiting.exec h

/-! ### A placing (R103, R104, R110) -/

theorem place_of_free {s : State} {k : ItemKind} (hr : s.running = true) (h : ∀ y ∈ s.queue, itemRef y.kind ≠ itemRef k) :
    s.place k = { s with queue := insertItem (newItem k) s.queue } := by
  have absent : s.hasItem (itemRef k) = false := by simpa [State.hasItem] using h
  simp [State.place, hr, absent]

theorem place_of_refused {s : State} {k : ItemKind}
    (h : s.running = false ∨ ∃ y ∈ s.queue, itemRef y.kind = itemRef k) : s.place k = s := by
  rcases h with hr | hy
  · simp [State.place, hr]
  · exact State.place_of_present (by simpa [State.hasItem] using hy)

end State

/-- Settles O54: every command keeps the queue in order, and an item is placed by its precedence alone. -/
theorem stepKeepsQueue : Obligations.StepKeepsQueue := by
  refine ⟨fun s t hs h => hs.step h, fun p key e st pr cls keepAlive i => ?_, fun s k => ⟨fun hs hr hn => ?_, ?_⟩⟩
  · simp [itemPrecedence, itemRef]
  · rw [State.place_of_free hr hn, insertItem_eq hs.1]
    rfl
  · exact State.place_of_refused

end Sys2Proof.Machine
end

section
/-! PROOFS. A station that does not run takes no command but the reset pin's (R110, R172, R173, R177), and what a running one
makes of a frame before it is handed to its kind: left alone, voided, discarded or a number conflict (R94, R96 to R102). -/

namespace Sys2Proof.Machine

/-! ### The frames of a checked kind -/

/-- Every command that brings a frame of a checked kind hands it to the one judgement (R99, R100). -/
theorem exec_of_receives {c : Instr} {kind : FrameKind} {f : RxFrame} (h : receives c = some (kind, f)) (s : State) :
    ∃ act : State → State, exec c s = .next (s.receive kind f act) := by
  cases c with
  | testFrameSnooped k g => cases k <;> cases h <;> exact ⟨_, rfl⟩
  | frameCheckedOnly k g | lockReceived g own | unlockReceived g | faultClaimReceived g | leaveReceived g
    | quietReceived g | releaseReceived g | deferredReplyReceived g | incidentSnooped g | queryPair g
    | queryIncident g | testPair g | park g | unpark g | clearIncident g | restart g => cases h; exact ⟨_, rfl⟩
  | _ => cases h

theorem receive_of_stopped {s : State} (h : s.running = false) (kind : FrameKind) (f : RxFrame) (act : State → State) :
    s.receive kind f act = s := by
  simp [State.receive, h]

theorem receive_of_discarded {s : State} {kind : FrameKind} {f : RxFrame} (hr : s.running = true)
    (hs : f.sender ≠ s.straps.station) (hc : checkError kind f = false) (hl : lengthError kind f = false)
    (ha : s.abandoned = false) (hv : f.voidedByOther = true) (act : State → State) :
    s.receive kind f act = { s with abandoned := false, cells := noCells } := by
  simp [State.receive, State.judge, hr, hs, hc, hl, ha, hv]

/-! ### A station that does not run -/

theorem running_eq_false {s : State} (hl : s.station ≠ .listenIn) (ha : s.station ≠ .active) : s.running = false := by
  simp [State.running, hl, ha]

theorem frameOutcome_of_stopped {s : State} (h : s.running = false) (kind : SentKind) (r : TxResult) :
    frameOutcome kind r s = s := by
  simp [frameOutcome, h]

/-- Settles O3: every meaning asks first whether the station runs. -/
theorem nothingRunsOutsideListenInAndActive : Obligations.NothingRunsOutsideListenInAndActive := by
  intro c s hl ha hassert hrelease
  have stopped := running_eq_false hl ha
  cases c with
  | resetPinAssert => exact absurd rfl hassert
  | resetPinRelease straps => exact absurd rfl (hrelease straps)
  | frameCheckedOnly k f | lockReceived f own | unlockReceived f | faultClaimReceived f | leaveReceived f
    | quietReceived f | releaseReceived f | testFrameSnooped k f | deferredReplyReceived f | incidentSnooped f
    | queryPair f | queryIncident f | testPair f | park f | unpark f | clearIncident f | restart f =>
    exact congrArg Host.Outcome.next (receive_of_stopped stopped ..)
  | lineEventsOutcome r | faultClaimOutcome r | leaveOutcome r | lockOutcome r | unlockOutcome r | quietOutcome r
    | releaseOutcome r | deferredReplyOutcome r | incidentOutcome r | replyOutcome r | testResultOutcome r =>
    exact congrArg Host.Outcome.next (frameOutcome_of_stopped stopped ..)
  | listenInExpiry => exact congrArg Host.Outcome.next (by simp [listenInExpiry, hl])
  | contentionStart => exact congrArg Host.Outcome.next (by simp [contentionStart, ha])
  | scanTurn p tip ring => exact congrArg Host.Outcome.next (by simp [scanTurn, stopped])
  | toneBlockComplete i samples => exact congrArg Host.Outcome.next (by simp [toneBlock, stopped])
  | digitPauseExpiry i => exact congrArg Host.Outcome.next (by simp [digitPause, stopped])
  | noDigitExpiry i => exact congrArg Host.Outcome.next (by simp [noDigit, stopped])
  | arbitrationLost => exact congrArg Host.Outcome.next (by simp [arbitrationLost, stopped])
  | frameTruncated => exact congrArg Host.Outcome.next (by simp [frameTruncated, stopped])
  | unhandledKindFrame long kind => exact congrArg Host.Outcome.next (by simp [unhandledKindFrame, stopped])
  | itemBackoffExpiry ref => exact congrArg Host.Outcome.next (by simp [itemBackoffExpiry, stopped])
  | deferWaitExpiry p => exact congrArg Host.Outcome.next (by simp [deferWaitExpiry, stopped])
  | renewTimerExpiry p => exact congrArg Host.Outcome.next (by simp [renewTimerExpiry, stopped])
  | holdOffExpiry p => exact congrArg Host.Outcome.next (by simp [holdOffExpiry, stopped])
  | memberExpiry e st pr => exact congrArg Host.Outcome.next (by simp [memberExpiry, stopped])
  | emptyListExpiry e => exact congrArg Host.Outcome.next (by simp [emptyListExpiry, stopped])
  | clearHoldExpiry e => exact congrArg Host.Outcome.next (by simp [clearHoldExpiry, stopped])
  | confirmationRetryExpiry e => exact congrArg Host.Outcome.next (by simp [confirmationRetryExpiry, stopped])
  | viewLapse => exact congrArg Host.Outcome.next (by simp [viewLapse, stopped])
  | keepAliveDue => exact congrArg Host.Outcome.next (by simp [keepAliveDue, stopped])
  | selfLimitExpiry => exact congrArg Host.Outcome.next (by simp [selfLimitExpiry, stopped])
  | restraintExpiry => exact congrArg Host.Outcome.next (by simp [restraintExpiry, stopped])
  | jobDeadlineExpiry job => exact congrArg Host.Outcome.next (by simp [jobDeadlineExpiry, stopped])
  | releaseWaitExpiry => exact congrArg Host.Outcome.next (by simp [releaseWaitExpiry, stopped])
  | selfReleaseExpiry => exact congrArg Host.Outcome.next (by simp [selfReleaseExpiry, stopped])
  | calibrationDone volts => exact congrArg Host.Outcome.next (by simp [calibrationDone, stopped])
  | legOffReadingDone volts => exact congrArg Host.Outcome.next (by simp [legOffReadingDone, stopped])
  | legOnReadingDone volts => exact congrArg Host.Outcome.next (by simp [legOnReadingDone, stopped])

/-! ### Frames that leave nothing behind -/

/-- A frame heard that is for another station is handed on by no command handler (R102, R160). -/
theorem commandReceived_elsewhere {k : LongKind} {f : RxFrame} {s : State} (h : s.hears (.long k) f)
    (ht : f.target ≠ s.straps.station) : commandReceived k f s = { s with abandoned := false, cells := noCells } := by
  rw [commandReceived, receive_of_hears h]
  simp [ht]

theorem deferredReplyReceived_elsewhere {f : RxFrame} {s : State} (h : s.hears (.long .deferredReply) f)
    (ht : f.target ≠ s.straps.station) : deferredReplyReceived f s = { s with abandoned := false, cells := noCells } := by
  rw [deferredReplyReceived, receive_of_hears h]
  simp [ht]

/-! ### A number conflict (R99, R177) -/

/-- The end of the access in progress, pair by pair (R140). -/
theorem State.pair_endAccess (s : State) (p : Pair) : s.endAccess.pair p =
    if s.bus.access.map Access.pair = some p then { (s.pair p).endAccess with check := true } else s.pair p := by
  cases ha : s.bus.access with
  | none => simp [State.endAccess_of_none ha]
  | some a =>
    rw [State.endAccess_of_some ha]
    show (s.setPair a.pair (s.pair a.pair).endAccess).pair p = _
    rw [State.pair_setPair]
    by_cases hp : a.pair = p
    · simp [hp]
    · simp [hp, Ne.symm hp]

/-- Entry into FAILED writes the records of the pair in access and nothing else of the pair table (R177). -/
theorem State.enterFailed_eq (s : State) : s.enterFailed = { s with
    station := .failed, listenUntil := none, queue := [], abandoned := false, cells := noCells
    pairs := s.endAccess.pairs
    entries := Vector.replicate 8 Entry.empty, keyStore := Vector.replicate 8 none
    slots := Vector.replicate 4 none
    bus := { s.bus with view := .free, lastAccepted := none, access := none }
    unit := { s.unit with
      connected := false, source := false, selector := .none, measurement := none, readingDue := none } } := by
  cases ha : s.bus.access with
  | none => simp [State.enterFailed, State.disconnectUnit, TestUnit.stop, State.endAccess_of_none ha, ha]
  | some a => rw [State.enterFailed, State.endAccess_of_some ha]; rfl

/-- Settles O19: the judgement of a received frame, verdict by verdict, and the kinds that are not acted on. -/
theorem framesIgnoredVoidedOrInConflict : Obligations.FramesIgnoredVoidedOrInConflict := by
  refine ⟨fun s hr => ⟨fun hf => ?_, fun kind f h => ?_, fun long kind => ?_, fun kind f h ht => ?_⟩,
    fun c kind f s hc hr => ⟨fun hv => ?_, fun hk hs hl ha hv => ?_⟩, fun c kind f s hc hr hs hk => ?_⟩
  · have unsent : State.inFlight { s with abandoned := false, cells := noCells } = none := hf
    exact congrArg Host.Outcome.next (by simp [frameTruncated, hr, unsent])
  · exact congrArg Host.Outcome.next (receive_of_hears h id)
  · exact congrArg Host.Outcome.next (by simp [unhandledKindFrame, hr])
  · refine ⟨?_, ?_, ?_, ?_⟩ <;> rintro rfl
    · exact congrArg Host.Outcome.next (deferredReplyReceived_elsewhere h ht)
    all_goals exact congrArg Host.Outcome.next (commandReceived_elsewhere h ht)
  · obtain ⟨act, hact⟩ := exec_of_receives hc s
    rw [hact, receive_of_voided hr hv]
    rfl
  · obtain ⟨act, hact⟩ := exec_of_receives hc s
    rw [hact, receive_of_discarded hr hs hk hl ha hv]
  · obtain ⟨act, hact⟩ := exec_of_receives hc s
    refine ⟨s.enterFailed, hact.trans (congrArg _ (receive_of_conflict hr hs hk act)), ?_, State.pair_endAccess s⟩
    exact State.enterFailed_eq s

end Sys2Proof.Machine
end

section
/-! PROOFS. The outcomes of this station's frames but LINE EVENTS, FAULT CLAIM and LOCK (R106, R107, R109): the backoff of a
busy item, what a LEAVE, an INCIDENT, a REPLY and a TEST RESULT leave behind, a holder's UNLOCK, QUIET and RELEASE, and a
DEFERRED REPLY. -/

namespace Sys2Proof.Machine

/-! ### The outcome of a frame in flight -/

theorem exec_outcome_of_kind {s : State} {x : Item} {k : ItemKind} (h : s.sending x) (hk : x.kind = k) (r : TxResult) :
    exec (outcomeOf k r) s = .next (({ s with abandoned := r == .collision } : State).produce x r) :=
  hk ▸ exec_outcome_of_sending h r

theorem classifyOutcome_acked {c : Cells} {k : ItemKind} (hk : isShort k = false) (hv : c.void = false)
    (hs : c.stall = false) (ha : c.ack = true) : classifyOutcome k (.sent c) = .delivered := by
  rw [classifyOutcome_long hk hv hs, if_pos ha]

/-- A long frame voided, or left without ACK and STALL, has failed (R106). -/
theorem classifyOutcome_unanswered {c : Cells} {k : ItemKind} (hk : isShort k = false)
    (h : c.void = true ∨ (c.ack = false ∧ c.stall = false)) : classifyOutcome k (.sent c) = .failed :=
  classifyOutcome_failed (.inr ⟨c, rfl, h.imp_right fun ⟨ha, hs⟩ => ⟨hk, ha, hs⟩⟩)

/-- A short frame but a LOCK needs no ACK (R106). -/
theorem classifyOutcome_short {c : Cells} {k : ItemKind} (hk : isShort k = true) (hl : isLock k = false)
    (hv : c.void = false) (hs : c.stall = false) : classifyOutcome k (.sent c) = .delivered := by
  simp [classifyOutcome, hk, hl, hv, hs]

/-- An item that is delivered, or fails a fourth time, leaves the queue (R105, R107). -/
theorem dispose_leaves {x : Item} {o : Outcome} (h : o = .delivered ∨ (o = .failed ∧ 3 ≤ x.attempts)) (s : State) :
    ∃ fate, fate ≠ .kept ∧ s.dispose x o = (s.removeItem (itemRef x.kind), fate) := by
  rcases h with rfl | ⟨rfl, ha⟩
  · exact ⟨.delivered, nofun, rfl⟩
  · exact ⟨.dropped, nofun, dispose_failed_dropped ha s⟩

/-! ### Busy (R106, R109) -/

/-- The kinds whose producer keeps its item, in the item's own backoff, through a busy outcome (R109). -/
def keepsBusy : ItemKind → Bool
  | .lock keepAlive => !keepAlive
  | .quiet _ _ _ => false
  | .faultClaim _ => false
  | _ => true

theorem produce_busy {s : State} {x : Item} {r : TxResult} (hr : classifyOutcome x.kind r = .busy)
    (hw : x.withdrawn = false) (ho : x.orphaned = false) (hk : keepsBusy x.kind = true)
    (he : ∀ e st pr, x.kind = .deferredReply e st pr → (s.entry e).check = true) :
    s.produce x r = s.updateItem (itemRef x.kind) s.busyItem := by
  have kept := dispose_busy_kept hw s
  unfold State.produce
  rw [hr]
  cases hx : x.kind <;> rw [hx] at hk kept
  case lock keepAlive =>
    obtain rfl : keepAlive = false := by simpa [keepsBusy] using hk
    simp [State.lockDone, ho, kept]
  case quiet => cases hk
  case faultClaim => cases hk
  case deferredReply e st pr => simp [State.deferredReplyDone, he e st pr hx, hw, kept]
  case lineEvents => simp [State.lineEventsDone, kept]
  case leave => simp [kept]
  case unlock => simp [State.unlockDone, ho, kept]
  case release => simp [State.releaseDone, ho, kept]
  case incident => simp [State.incidentDone, kept]
  case reply => simp [State.replyDone, kept]
  case testResult => simp [State.testResultDone, kept]

/-- STALL is busy for every kind, and an OWN for a LOCK (R106, R136). -/
theorem classifyOutcome_busy {c : Cells} {k : ItemKind} (hv : c.void = false)
    (h : c.stall = true ∨ (c.own = true ∧ k = .lock false)) : classifyOutcome k (.sent c) = .busy := by
  rcases h with hs | ⟨hown, rfl⟩
  · exact classifyOutcome_of_stall k hv hs
  · simp [classifyOutcome, hv, hown, isLock]

/-- A FAULT CLAIM that meets STALL backs off in its pair's claim timer (R103, R109). -/
theorem produce_claimStalled {s : State} {x : Item} {p : Pair} {c : Cells} (hk : x.kind = .faultClaim p)
    (hw : x.withdrawn = false) (hp : x.superseded = false) (ho : x.orphaned = false) (hv : c.void = false)
    (hs : c.stall = true) : s.produce x (.sent c) = s.claimStalled x p := by
  have busy := classifyOutcome_of_stall (.faultClaim p) hv hs
  simp [State.produce, hk, State.faultClaimDone, hw, hp, ho, busy]

theorem itemBackoffExpiry_of_item {s : State} {ref : ItemRef} {x : Item} {t : Nat} (hr : s.running = true)
    (hp : ∀ p, ref ≠ .faultClaim p) (hx : s.item ref = some x) (hb : x.backoff = some t) :
    itemBackoffExpiry ref s = (s.elapseTo t).updateItem ref fun y => { y with backoff := none } := by
  cases ref with
  | faultClaim p => exact absurd rfl (hp p)
  | _ => simp [itemBackoffExpiry, hr, hx, hb]

theorem itemBackoffExpiry_of_claim {s : State} {p : Pair} {t : Nat} (hr : s.running = true)
    (hi : s.hasItem (.faultClaim p) = true)
    (hc : (s.pair p).claim = .pending ∨ ∃ k, (s.pair p).claim = .linked k false)
    (ht : (s.pair p).claimTimer = some t) :
    itemBackoffExpiry (.faultClaim p) s = (s.elapseTo t).modPair p fun r => { r with claimTimer := none } := by
  have backoff : s.timerIsBackoff p = true := by
    rcases hc with hc | ⟨k, hc⟩ <;> simp [State.timerIsBackoff, hi, hc, isRenewal]
  simp [itemBackoffExpiry, hr, ht, backoff]

/-- Settles O30: the kinds that keep a busy item back off by R109, a FAULT CLAIM in its pair's timer. -/
theorem backoffAfterBusy : Obligations.BackoffAfterBusy := by
  refine ⟨fun s x c hx hw hp ho hv => ⟨fun hbusy hkind => ?_, fun p hk hs => ?_⟩, fun s ref x t hr hp hx hb => ?_,
    fun s p t hr hi hc ht => congrArg Host.Outcome.next (itemBackoffExpiry_of_claim hr hi hc ht)⟩
  · have kept : keepsBusy x.kind = true ∧
        ∀ e st pr, x.kind = .deferredReply e st pr → (s.entry e).check = true := by
      rcases hkind with ⟨b, h, rfl⟩ | h | ⟨st, pr, h⟩ | ⟨p, key, h⟩ | ⟨i, h⟩ | ⟨e, h⟩ | h | ⟨p, h⟩ | ⟨e, st, pr, h, hc⟩ <;>
        rw [h] <;> refine ⟨rfl, fun _ _ _ he => ?_⟩ <;> cases he
      exact hc
    exact (exec_outcome_of_sending hx _).trans (congrArg _
      (produce_busy (s := { s with abandoned := false }) (classifyOutcome_busy hv hbusy) hw ho kept.1 kept.2))
  · exact (exec_outcome_of_kind hx hk _).trans (congrArg _
      ((produce_claimStalled (s := { s with abandoned := false }) hk hw hp ho hv hs).trans
        (by simp only [State.claimStalled, hk]; rfl)))
  · exact congrArg Host.Outcome.next (itemBackoffExpiry_of_item hr hp hx hb)

/-! ### LEAVE, INCIDENT, REPLY and TEST RESULT (R107, R128, R143, R162) -/

section Left
variable {s : State} {x : Item} {o : Outcome} (h : o = .delivered ∨ (o = .failed ∧ 3 ≤ x.attempts))
include h

theorem dispose_leave : (s.dispose x o).1 = s.removeItem (itemRef x.kind) := by
  obtain ⟨fate, -, hd⟩ := dispose_leaves h s
  rw [hd]

theorem incidentDone_of_left (e : EntryNo) :
    s.incidentDone x e o = (s.removeItem (itemRef x.kind)).incidentLeft e := by
  obtain ⟨fate, hf, hd⟩ := dispose_leaves h s
  cases fate <;> simp_all [State.incidentDone]

theorem replyDone_of_left (i : Fin 4) : s.replyDone x i o = (s.removeItem (itemRef x.kind)).replyLeft i := by
  obtain ⟨fate, hf, hd⟩ := dispose_leaves h s
  cases fate <;> simp_all [State.replyDone]

end Left

section IncidentLeft
variable {s : State} {e : EntryNo} (hc : (s.entry e).check = true)
include hc

theorem incidentLeft_of_changed (h : (s.entry e).changed = true) : s.incidentLeft e = s.place (.incident e) := by
  simp [State.incidentLeft, State.onEntry_of_check hc, h]

theorem incidentLeft_of_owned (h : (s.entry e).changed = false) (hs : (s.entry e).state ≠ .free) :
    s.incidentLeft e = s := by
  simp [State.incidentLeft, State.onEntry_of_check hc, h, hs]

/-- The closing report of a FREE entry goes with its INCIDENT, and the key with the last that keeps it (R112, R128). -/
theorem incidentLeft_of_free (h : (s.entry e).changed = false) (hs : (s.entry e).state = .free) :
    s.incidentLeft e = s.writeEntry e { s.entry e with
      closing := none, key := if (s.entry e).defers = [] then none else (s.entry e).key } := by
  rw [State.incidentLeft, State.onEntry_of_check hc]
  by_cases hd : (s.entry e).defers = [] <;> simp [h, hs, hd, Entry.releaseKey]

end IncidentLeft

/-- A RESTART is a reset on the straps that stand, which are usable (R171, R174). -/
theorem restartStation_eq {s : State} (h14 : s.straps.station ≠ 14) (h15 : s.straps.station ≠ 15)
    (h3 : s.straps.pairCount ≠ 3) : pinRelease s.straps s = s.restartStation := by
  have below : s.straps.station.toNat < 14 := by
    have := s.straps.station.isLt
    have : s.straps.station.toNat ≠ 14 := fun h => h14 (BitVec.eq_of_toNat_eq h)
    have : s.straps.station.toNat ≠ 15 := fun h => h15 (BitVec.eq_of_toNat_eq h)
    omega
  have usable : strapsUnusable s.straps = false := by simpa [strapsUnusable, below] using h3
  simp [pinRelease, State.restartStation, usable]

theorem testResultDone_delivered (s : State) (x : Item) : s.testResultDone x .delivered =
    { s.removeItem (itemRef x.kind) with bus := { s.bus with
      test := none, lastAccepted := if s.bus.view = .mine then some s.now else s.bus.lastAccepted } } := by
  by_cases hv : s.bus.view = .mine <;> simp [State.testResultDone, dispose_delivered, State.accepted, hv]

theorem testResultDone_dropped (s : State) {x : Item} (ha : 3 ≤ x.attempts) : s.testResultDone x .failed =
    { s.removeItem (itemRef x.kind) with bus := { s.bus with test := none } } := by
  simp [State.testResultDone, dispose_failed_dropped ha, show (Fate.dropped == .delivered) = false from rfl]

/-- What the cells make of a frame that is not a LOCK: delivered with neither VOID nor STALL, and in the long form with
ACK. -/
theorem classifyOutcome_of_delivered {k : ItemKind} {r : TxResult} (hl : isLock k = false)
    (h : ∃ c, r = .sent c ∧ c.void = false ∧ c.stall = false ∧ (isShort k = false → c.ack = true)) :
    classifyOutcome k r = .delivered := by
  obtain ⟨c, rfl, hv, hs, ha⟩ := h
  cases hk : isShort k with
  | true => exact classifyOutcome_short hk hl hv hs
  | false => exact classifyOutcome_acked hk hv hs (ha hk)

section Produce
variable {s : State} {x : Item} {r : TxResult}

theorem produce_leave {p : Pair} {key : Key} (hk : x.kind = .leave p key) :
    s.produce x r = (s.dispose x (classifyOutcome (.leave p key) r)).1 := by
  simp [State.produce, hk]

theorem produce_incident {e : EntryNo} (hk : x.kind = .incident e) :
    s.produce x r = s.incidentDone x e (classifyOutcome (.incident e) r) := by
  simp [State.produce, hk]

theorem produce_reply {i : Fin 4} (hk : x.kind = .reply i) :
    s.produce x r = s.replyDone x i (classifyOutcome (.reply i) r) := by
  simp [State.produce, hk]

theorem produce_testResult (hk : x.kind = .testResult) :
    s.produce x r = s.testResultDone x (classifyOutcome .testResult r) := by
  simp [State.produce, hk]

end Produce

/-- Settles O34: the item leaves by a delivery and by the drop alike, and each producer does its part. -/
theorem deliveredItemsLeave : Obligations.DeliveredItemsLeave := by
  intro s x r hx long delivered failed dropped gone
  have told (k : ItemKind) (hl : isLock k = false) (hform : isShort k = false ↔ long) :
      (delivered → classifyOutcome k r = .delivered) ∧ (failed → classifyOutcome k r = .failed) :=
    ⟨fun ⟨c, hr, hv, hs, ha⟩ => classifyOutcome_of_delivered hl ⟨c, hr, hv, hs, fun h => ha (hform.1 h)⟩,
      fun hf => classifyOutcome_failed (hf.imp_right fun ⟨c, hr, hc⟩ =>
        ⟨c, hr, hc.imp_right fun ⟨h, hcells⟩ => ⟨hform.2 h, hcells⟩⟩)⟩
  have leaves (k : ItemKind) (hl : isLock k = false) (hform : isShort k = false ↔ long) (h : delivered ∨ dropped) :
      classifyOutcome k r = .delivered ∨ (classifyOutcome k r = .failed ∧ 3 ≤ x.attempts) :=
    h.imp (told k hl hform).1 fun ⟨hf, ha⟩ => ⟨(told k hl hform).2 hf, ha⟩
  have is_long (k : ItemKind) (hk : x.kind = k) (hne : ∀ p key, k ≠ .leave p key) : long := fun p key h =>
    hne p key (hk.symm.trans h)
  have done {k : ItemKind} (hk : x.kind = k) {t : State}
      (h : State.produce { s with abandoned := r == .collision } x r = t) : exec (outcomeOf k r) s = .next t :=
    (exec_outcome_of_kind hx hk r).trans (congrArg _ h)
  refine ⟨fun hleft => ⟨fun p key hk => ?_, fun e hk hc => ?_, fun i slot hk hslot => ?_⟩, fun hk => ?_⟩
  · have ho := leaves (.leave p key) rfl ⟨nofun, fun h => absurd hk (h p key)⟩ hleft
    exact done hk ((produce_leave hk).trans (dispose_leave ho))
  · have ho := leaves (.incident e) rfl ⟨fun _ => is_long _ hk nofun, fun _ => rfl⟩ hleft
    have left := (produce_incident hk).trans (incidentDone_of_left (s := { s with abandoned := r == .collision }) ho e)
    have check : (gone.entry e).check = true := hc
    exact ⟨fun h => done hk (left.trans (incidentLeft_of_changed check h)),
      fun h hs => done hk (left.trans (incidentLeft_of_owned check h hs)),
      fun h hs => done hk (left.trans (incidentLeft_of_free check h hs))⟩
  · have ho := leaves (.reply i) rfl ⟨fun _ => is_long _ hk nofun, fun _ => rfl⟩ hleft
    have left := (produce_reply hk).trans (replyDone_of_left (s := { s with abandoned := r == .collision }) ho i)
    have slot_kept : gone.slot i = some slot := hslot
    refine ⟨fun hm => done hk (left.trans ?_), fun hm h14 h15 h3 => done hk (left.trans ?_)⟩
    · exact (by simp [State.replyLeft, slot_kept, hm] : gone.replyLeft i = gone.setSlot i none)
    · have restarted : gone.replyLeft i = gone.restartStation := by simp [State.replyLeft, slot_kept, hm]
      exact restarted.trans (restartStation_eq (s := s) h14 h15 h3).symm
  · have form : isShort .testResult = false ↔ long := ⟨fun _ => is_long _ hk nofun, fun _ => rfl⟩
    refine ⟨fun h => done hk ((produce_testResult hk).trans ?_),
      fun ⟨hf, ha⟩ => done hk ((produce_testResult hk).trans ?_)⟩
    · rw [(told _ rfl form).1 h]
      exact testResultDone_delivered ..
    · rw [(told _ rfl form).2 hf]
      exact testResultDone_dropped _ ha

/-! ### A holder's UNLOCK, QUIET and RELEASE (R135, R137, R141) -/

section Holder
variable {s : State} {x : Item} (ho : x.orphaned = false)
include ho

/-- An UNLOCK that leaves gives the bus back (R107, R137). -/
theorem unlockDone_of_left {o : Outcome} (h : o = .delivered ∨ (o = .failed ∧ 3 ≤ x.attempts)) :
    s.unlockDone x o = ((s.removeItem (itemRef x.kind)).leaveMine .free).settle := by
  obtain ⟨fate, hf, hd⟩ := dispose_leaves h s
  cases fate <;> simp_all [State.unlockDone]

theorem quietDone_dropped (hw : x.withdrawn = false) (ha : 3 ≤ x.attempts) (st : StationNo) (pr : PairNo) :
    s.quietDone x st pr .failed =
      State.settle { s.removeItem (itemRef x.kind) with bus := { s.bus with position := s.bus.position + 1 } } := by
  simp [State.quietDone, ho, dispose_failed_dropped ha, State.passMember, hw]

theorem releaseDone_dropped (ha : 3 ≤ x.attempts) : s.releaseDone x .failed =
    State.settle { s.removeItem (itemRef x.kind) with
      bus := { s.bus with remote := none, releaseWait := some (s.now + 3000) } } := by
  simp [State.releaseDone, ho, dispose_failed_dropped ha]

variable (hm : s.bus.view = .mine)
include hm

theorem quietDone_delivered (hw : x.withdrawn = false) (hcal : s.unit.calibrationPassed = true) (st : StationNo)
    (pr : PairNo) : s.quietDone x st pr .delivered = State.settle { s.removeItem (itemRef x.kind) with
      bus := { s.bus with lastAccepted := some s.now, remote := some (st, pr) }
      unit := { s.unit with
        measurement := some { station := st, pair := pr, forRun := true, leg := .tip, vOff := none, records := [] }
        selector := .leg .tip, source := false, readingDue := some (s.now + 200) } } := by
  have accepted := State.accepted_of_mine (s := s.removeItem (itemRef x.kind)) hm
  simp [State.quietDone, ho, hw, accepted, State.beginMeasurement, hm, hcal]

theorem quietDone_stalled (hw : x.withdrawn = false) (st : StationNo) (pr : PairNo) :
    s.quietDone x st pr .busy = State.settle { s.removeItem (itemRef x.kind) with
      bus := { s.bus with lastAccepted := some s.now, position := s.bus.position + 1 } } := by
  have accepted := State.accepted_of_mine (s := s.removeItem (itemRef x.kind)) hm
  simp [State.quietDone, ho, hw, accepted, State.passMember]

theorem releaseDone_delivered : s.releaseDone x .delivered = State.settle { s.removeItem (itemRef x.kind) with
    bus := { s.bus with lastAccepted := some s.now, remote := none } } := by
  simp [State.releaseDone, ho, dispose_delivered, State.accepted, hm]

end Holder

section ProduceHolder
variable {s : State} {x : Item} {r : TxResult}

theorem produce_unlock (hk : x.kind = .unlock) : s.produce x r = s.unlockDone x (classifyOutcome .unlock r) := by
  simp [State.produce, hk]

theorem produce_quiet {st : StationNo} {pr : PairNo} {cls : FaultClass} (hk : x.kind = .quiet st pr cls) :
    s.produce x r = s.quietDone x st pr (classifyOutcome (.quiet st pr cls) r) := by
  simp [State.produce, hk]

theorem produce_release {st : StationNo} {pr : PairNo} (hk : x.kind = .release st pr) :
    s.produce x r = s.releaseDone x (classifyOutcome (.release st pr) r) := by
  simp [State.produce, hk]

end ProduceHolder

/-- Settles O36: each outcome of a holder's frames, as the controller takes it. -/
theorem holderFrameOutcomes : Obligations.HolderFrameOutcomes := by
  intro s x c hx ho hw hm gone
  have done {k : ItemKind} (hk : x.kind = k) {t : State}
      (h : State.produce { s with abandoned := false } x (.sent c) = t) :
      exec (outcomeOf k (.sent c)) s = .next t :=
    (exec_outcome_of_kind hx hk _).trans (congrArg _ h)
  refine ⟨fun hk hs hva => ?_, fun st pr cls hk => ⟨fun hv hs ha hcal => ?_, fun hv hs => ?_, fun hf ha => ?_⟩,
    fun st pr hk => ⟨fun hv hs ha => ?_, fun hf ha => ?_⟩⟩ <;> refine done hk ?_
  · have left : classifyOutcome .unlock (.sent c) = .delivered ∨
        (classifyOutcome .unlock (.sent c) = .failed ∧ 3 ≤ x.attempts) := by
      cases hv : c.void with
      | false => exact .inl (classifyOutcome_short rfl rfl hv hs)
      | true => exact .inr ⟨classifyOutcome_of_void _ hv, hva.resolve_left (by simp [hv])⟩
    rw [produce_unlock hk, unlockDone_of_left ho left, hk]
    rfl
  · rw [produce_quiet hk, classifyOutcome_acked rfl hv hs ha,
      quietDone_delivered (s := { s with abandoned := false }) ho hm hw hcal, hk]
    rfl
  · rw [produce_quiet hk, classifyOutcome_of_stall _ hv hs,
      quietDone_stalled (s := { s with abandoned := false }) ho hm hw, hk]
    rfl
  · rw [produce_quiet hk, classifyOutcome_unanswered rfl hf, quietDone_dropped ho hw ha, hk]
    rfl
  · rw [produce_release hk, classifyOutcome_acked rfl hv hs ha,
      releaseDone_delivered (s := { s with abandoned := false }) ho hm, hk]
    rfl
  · rw [produce_release hk, classifyOutcome_unanswered rfl hf, releaseDone_dropped ho ha, hk]
    rfl

/-! ### DEFERRED REPLY (R112, R117, R125) -/

theorem State.queueWith_congr {s t : State} (queue : t.queue = s.queue) (station : t.station = s.station) (k : ItemKind) :
    t.queueWith k = s.queueWith k := by
  have running : t.running = s.running := State.running_congr station
  have hasItem : t.hasItem (itemRef k) = s.hasItem (itemRef k) := by simp only [State.hasItem, queue]
  rw [State.queueWith, State.queueWith, running, hasItem, queue]

/-- Two writes that both change the entry and call for a test are the last one (R111, R122, R128). -/
theorem State.writeEntry_writeEntry {s : State} {e : EntryNo} {x y : Entry} (hx : x.changed = true)
    (hy : y.changed = true) (cx : (s.entry e).callsTest x = true) (cy : (s.entry e).callsTest y = true) :
    (s.writeEntry e x).writeEntry e y = s.writeEntry e y := by
  have twice : (s.place (.incident e)).queueWith (.incident e) = s.queueWith (.incident e) := by
    simpa only [State.place_eq] using congrArg State.queue (State.place_place s (.incident e))
  have placed : (s.writeEntry e x).queueWith (.incident e) = s.queueWith (.incident e) :=
    (State.queueWith_congr (by simp [State.writeEntry_eq, State.place_eq, hx]) (by simp) _).trans twice
  rw [State.writeEntry_eq (s.writeEntry e x), if_pos hy, placed]
  simp [State.writeEntry_eq, cx, cy, hy]

theorem produce_deferredReply {s : State} {x : Item} {r : TxResult} {e : EntryNo} {st : StationNo} {pr : PairNo}
    (hk : x.kind = .deferredReply e st pr) :
    s.produce x r = s.deferredReplyDone x e st pr (classifyOutcome (.deferredReply e st pr) r) := by
  simp [State.produce, hk]

section DeferredReply
variable {s : State} {x : Item} {e : EntryNo} {st : StationNo} {pr : PairNo} (hc : (s.entry e).check = true)
  (hw : x.withdrawn = false)
include hc hw

theorem deferredReplyDone_delivered : s.deferredReplyDone x e st pr .delivered =
    let t := (s.removeItem (itemRef x.kind)).addReplied e st pr x.content
    (t.writeEntry e ((t.entry e).answered st pr)).settle := by
  simp [State.deferredReplyDone, hc, hw, dispose_delivered]

theorem deferredReplyDone_dropped (ha : 3 ≤ x.attempts) : s.deferredReplyDone x e st pr .failed =
    ((s.removeItem (itemRef x.kind)).writeEntry e ((s.entry e).answered st pr)).settle := by
  simp [State.deferredReplyDone, hc, hw, dispose_failed_dropped ha]

end DeferredReply

/-- A defer entry leaves, and with it the key of a FREE entry that nothing else keeps (R112). -/
theorem answered_eq (y : Entry) (st : StationNo) (pr : PairNo) :
    let rest := y.defers.filter fun z => !(z.station == st && z.pair == pr)
    y.answered st pr = { y with
      defers := rest, key := if y.state = .free ∧ y.closing = none ∧ rest = [] then none else y.key } := by
  intro rest
  show Entry.releaseKey { y with defers := rest } = _
  by_cases h : y.state = .free ∧ y.closing = none ∧ rest = []
  · simp [Entry.releaseKey, h]
  · have kept : (y.state == .free && y.closing.isNone && rest.isEmpty) = false := by simpa [and_assoc] using h
    simp [Entry.releaseKey, kept, h]

/-- A reply that carried DISSOLVED adds no member (R125). -/
theorem addReplied_dissolved (s : State) (e : EntryNo) (st : StationNo) (pr : PairNo) (tag : BitVec 5) (q : PairNo)
    (key : Key) : s.addReplied e st pr (some (.deferredReply tag q key false)) = s := by
  simp [State.addReplied, joinedKey]

/-- A reply that carried JOINED adds its claimant to an entry that still holds the key (R117, R125). -/
theorem addReplied_joined {s : State} {e : EntryNo} {st : StationNo} {pr : PairNo} {tag : BitVec 5} {q : PairNo}
    {key : Key} {d : Defer} (hd : (s.entry e).defers.find? (Defer.isOf st pr) = some d) (hk : (s.entry e).key = some key)
    (hs : (s.entry e).state ≠ .free) :
    s.addReplied e st pr (some (.deferredReply tag q key true)) = s.joinEntry e st pr d.renew := by
  simp [State.addReplied, joinedKey, hd, hk, hs]

/-- The join of a claimant that an OPEN or CONFIRMED entry has room for (R117). -/
theorem join_of_standing {y : Entry} {st : StationNo} {pr : PairNo} (hs : y.state = .opened ∨ y.state = .confirmed)
    (hm : ∀ m ∈ y.members, ¬(m.station = st ∧ m.pair = pr)) (hl : y.members.length < 32) (now : Nat) (renew : Bool) :
    y.join now st pr renew = { y with
      members := y.members ++ [{ station := st, pair := pr, renewed := now, leaving := false }]
      overflow := if renew then y.overflow - 1 else y.overflow
      emptyTimer := none, changed := true } := by
  have unlisted : y.lists st pr = false := Entry.lists_eq_false.2 fun ⟨m, hmem, h⟩ => hm m hmem h
  rw [Entry.join_of_room unlisted hl, Entry.revived]
  rcases hs with hs | hs <;> simp [hs]

theorem callsTest_of_joined {y z : Entry} (h : y.members.length < z.members.length) : y.callsTest z = true := by
  simp [Entry.callsTest, h]

/-- Settles O37: the claimant's join and the defer entry's leaving are two writes of one entry. -/
theorem deferredReplyFate : Obligations.DeferredReplyFate := by
  intro s x e st pr tag q key joined d hx hk hcon hw hc hd gone y rest removed
  have done {t : State} {c : Cells}
      (h : State.deferredReplyDone { s with abandoned := false } x e st pr
        (classifyOutcome (.deferredReply e st pr) (.sent c)) = t) :
      exec (.deferredReplyOutcome (.sent c)) s = .next t :=
    (exec_outcome_of_kind hx hk _).trans (congrArg _ ((produce_deferredReply hk).trans h))
  refine ⟨fun c hv hs ha => ⟨fun hj hkey hst hm hl => done ?_, fun hj => done ?_⟩, fun ha c hf => done ?_⟩
  · subst hj
    rw [classifyOutcome_acked rfl hv hs ha,
      deferredReplyDone_delivered (s := { s with abandoned := false }) hc hw, hcon, hk]
    have owned : y.state ≠ .free := by rcases hst with h | h <;> simp [h]
    have join := join_of_standing hst hm hl s.now d.renew
    have joins : gone.addReplied e st pr (some (.deferredReply tag q key true)) =
        gone.writeEntry e (y.join s.now st pr d.renew) := addReplied_joined (s := gone) hd hkey owned
    have leaves : ((gone.writeEntry e (y.join s.now st pr d.renew)).entry e).answered st pr =
        { y with
          members := y.members ++ [{ station := st, pair := pr, renewed := s.now, leaving := false }]
          overflow := if d.renew then y.overflow - 1 else y.overflow
          emptyTimer := none, changed := true, defers := rest } := by
      rw [State.entry_writeEntry_same, answered_eq, join]
      simp [owned, rest, show y.check = true from hc]
    have grown (m : Member) : (gone.entry e).members.length < (y.members ++ [m]).length := by
      rw [show gone.entry e = y from rfl, List.length_append]
      exact Nat.lt_succ_self _
    refine congrArg State.settle ?_
    show (gone.addReplied e st pr (some (.deferredReply tag q key true))).writeEntry e
      (((gone.addReplied e st pr (some (.deferredReply tag q key true))).entry e).answered st pr) = _
    rw [joins, leaves]
    exact State.writeEntry_writeEntry (by rw [join]) rfl (callsTest_of_joined (by rw [join]; exact grown _))
      (callsTest_of_joined (grown _))
  · subst hj
    rw [classifyOutcome_acked rfl hv hs ha,
      deferredReplyDone_delivered (s := { s with abandoned := false }) hc hw, hcon, hk]
    dsimp only
    rw [addReplied_dissolved, answered_eq]
    rfl
  · rw [classifyOutcome_unanswered rfl hf,
      deferredReplyDone_dropped (s := { s with abandoned := false }) hc hw ha, hk, answered_eq]
    rfl

end Sys2Proof.Machine
end

section
/-! PROOFS. The packing of R179: the cells of a field and its value, the bytes of a run of cells, a field read back at its
place, and a run of fields held against its ranges (R96). -/

namespace Sys2Proof.Machine

/-! ### The cells of one field -/

@[simp] theorem fieldBits_length (w v : Nat) : (fieldBits w v).length = w := by
  induction w with
  | zero => rfl
  | succ w ih => simp [fieldBits, ih]

theorem natOfBits_foldl (bits : List Bool) (n : Nat) :
    bits.foldl (fun n b => 2 * n + b.toNat) n = n * 2 ^ bits.length + natOfBits bits := by
  induction bits generalizing n with
  | nil => simp [natOfBits]
  | cons b rest ih =>
    rw [natOfBits, List.foldl_cons, List.foldl_cons, ih, ih (2 * 0 + b.toNat), List.length_cons, Nat.pow_succ]
    ring

theorem natOfBits_cons (b : Bool) (rest : List Bool) :
    natOfBits (b :: rest) = b.toNat * 2 ^ rest.length + natOfBits rest := by
  rw [natOfBits, List.foldl_cons, natOfBits_foldl]
  simp

theorem natOfBits_lt (bits : List Bool) : natOfBits bits < 2 ^ bits.length := by
  induction bits with
  | nil => simp [natOfBits]
  | cons b rest ih =>
    rw [natOfBits_cons, List.length_cons, Nat.pow_succ]
    cases b <;> simp <;> omega

/-- The cells of a field carry its value, as far as its width holds it. -/
theorem natOfBits_fieldBits (w v : Nat) : natOfBits (fieldBits w v) = v % 2 ^ w := by
  induction w with
  | zero => simp [fieldBits, natOfBits, Nat.mod_one]
  | succ w ih =>
    rw [fieldBits, natOfBits_cons, fieldBits_length, ih, Nat.toNat_testBit, Nat.mod_pow_succ]
    ring

theorem fieldBits_congr {w m n : Nat} (h : ∀ i < w, m.testBit i = n.testBit i) : fieldBits w m = fieldBits w n := by
  induction w with
  | zero => rfl
  | succ w ih => rw [fieldBits, fieldBits, h w (by omega), ih fun i hi => h i (by omega)]

/-- Any run of cells is the field of its value. -/
theorem fieldBits_natOfBits (bits : List Bool) : fieldBits bits.length (natOfBits bits) = bits := by
  induction bits with
  | nil => rfl
  | cons b rest ih =>
    have low := natOfBits_lt rest
    rw [natOfBits_cons, Nat.mul_comm, List.length_cons, fieldBits, Nat.testBit_two_pow_mul_add _ low]
    congr 1
    · cases b <;> simp
    · refine (fieldBits_congr fun i hi => ?_).trans ih
      rw [Nat.testBit_two_pow_mul_add _ low, if_pos hi]

/-! ### Bytes -/

theorem bitsOfBytes_length (bytes : List Byte) : (bitsOfBytes bytes).length = 8 * bytes.length := by
  induction bytes with
  | nil => rfl
  | cons b rest ih =>
    rw [bitsOfBytes] at ih ⊢
    rw [List.flatMap_cons, List.length_append, ih, fieldBits_length, List.length_cons]
    ring

/-- A byte is made of its eight cells (R179). -/
theorem fieldBits_byte {bits : List Bool} (h : bits.length = 8) :
    fieldBits 8 (BitVec.ofNat 8 (natOfBits bits)).toNat = bits := by
  have low := natOfBits_lt bits
  rw [h] at low
  rw [BitVec.toNat_ofNat, Nat.mod_eq_of_lt low, ← h, fieldBits_natOfBits]

/-- A run of cells that does not fill a byte. -/
theorem length_lt_of_few {bits : List Bool}
    (h : ∀ a b c d e f g i rest, bits = a :: b :: c :: d :: e :: f :: g :: i :: rest → False) : bits.length < 8 := by
  rcases bits with _ | ⟨a, _ | ⟨b, _ | ⟨c, _ | ⟨d, _ | ⟨e, _ | ⟨f, _ | ⟨g, _ | ⟨i, rest⟩⟩⟩⟩⟩⟩⟩⟩
  case cons.cons.cons.cons.cons.cons.cons.cons => exact (h a b c d e f g i rest rfl).elim
  all_goals simp

/-- The bytes packed from a run of cells are its cells, and 0 cells up to a whole byte (R179). -/
theorem bitsOfBytes_packBytes (bits : List Bool) : ∃ pad, bitsOfBytes (packBytes bits) = bits ++ pad := by
  induction bits using packBytes.induct with
  | case1 a b c d e f g h rest ih =>
    obtain ⟨pad, ih⟩ := ih
    refine ⟨pad, ?_⟩
    rw [packBytes, bitsOfBytes, List.flatMap_cons, fieldBits_byte rfl]
    exact congrArg ([a, b, c, d, e, f, g, h] ++ ·) ih
  | case2 => exact ⟨[], rfl⟩
  | case3 few hfew hne =>
    have short := length_lt_of_few hfew
    refine ⟨List.replicate (8 - few.length) false, ?_⟩
    rw [packBytes.eq_3 few hfew hne, bitsOfBytes, List.flatMap_singleton, fieldBits_byte (by simp; omega)]

theorem packBytes_length (bits : List Bool) : (packBytes bits).length = (bits.length + 7) / 8 := by
  induction bits using packBytes.induct with
  | case1 a b c d e f g h rest ih => simp only [packBytes, List.length_cons, ih]; omega
  | case2 => rfl
  | case3 few hfew hne =>
    have short := length_lt_of_few hfew
    have long : few.length ≠ 0 := fun h => hne (List.length_eq_zero_iff.1 h)
    rw [packBytes.eq_3 few hfew hne, List.length_singleton]
    omega

/-! ### A run of fields -/

@[simp] theorem bitsOfFields_nil : bitsOfFields [] = [] := rfl

@[simp] theorem bitsOfFields_cons (f : Field) (fs : List Field) :
    bitsOfFields (f :: fs) = fieldBits f.1 f.2 ++ bitsOfFields fs := rfl

@[simp] theorem bitsOfFields_append (fs gs : List Field) :
    bitsOfFields (fs ++ gs) = bitsOfFields fs ++ bitsOfFields gs := List.flatMap_append

theorem bitsOfFields_length (fs : List Field) : (bitsOfFields fs).length = (fs.map Prod.fst).sum := by
  induction fs with
  | nil => rfl
  | cons f fs ih => simp [ih]

/-- Reading at the head of a run of cells. -/
theorem fieldAt_zero (w v : Nat) (bits : List Bool) : fieldAt 0 w (fieldBits w v ++ bits) = v % 2 ^ w := by
  rw [fieldAt, List.drop_zero, List.take_append_of_le_length (by simp), List.take_of_length_le (by simp),
    natOfBits_fieldBits]

/-- Reading past a field at the head. -/
theorem fieldAt_skip {w o : Nat} (h : w ≤ o) (v width : Nat) (bits : List Bool) :
    fieldAt o width (fieldBits w v ++ bits) = fieldAt (o - w) width bits := by
  rw [fieldAt, fieldAt, List.drop_append, List.drop_of_length_le (by simpa using h), fieldBits_length, List.nil_append]

/-- A field stands in the packed body at the place where the widths before it end (R179). -/
theorem fieldAt_fields {fs : List Field} {i : Nat} {x : Field} (hf : ∀ y ∈ fs, y.2 < 2 ^ y.1) (hx : fs[i]? = some x)
    (bits : List Bool) : fieldAt ((fs.take i).map Prod.fst).sum x.1 (bitsOfFields fs ++ bits) = x.2 := by
  induction fs generalizing i with
  | nil => cases hx
  | cons f fs ih =>
    rw [bitsOfFields_cons, List.append_assoc]
    cases i with
    | zero =>
      obtain rfl : f = x := Option.some.inj hx
      exact (fieldAt_zero ..).trans (Nat.mod_eq_of_lt (hf f List.mem_cons_self))
    | succ i =>
      rw [List.take_succ_cons, List.map_cons, List.sum_cons, fieldAt_skip (Nat.le_add_right ..), Nat.add_sub_cancel_left]
      exact ih (fun y hy => hf y (List.mem_cons_of_mem f hy)) hx

/-! ### Ranges (R96, R179) -/

/-- A field of the width of its range, and no larger than its top. -/
def InRange (r : FieldRange) (f : Field) : Prop := f.1 = r.1 ∧ f.2 ≤ r.2

/-- Fields that stand, one by one, in their ranges. -/
def Ranged (rs : List FieldRange) (fs : List Field) : Prop := List.Forall₂ InRange rs fs

namespace Ranged

theorem nil : Ranged [] [] := List.Forall₂.nil

theorem cons {r : FieldRange} {f : Field} {rs : List FieldRange} {fs : List Field} (hw : f.1 = r.1) (ht : f.2 ≤ r.2)
    (h : Ranged rs fs) : Ranged (r :: rs) (f :: fs) := List.Forall₂.cons ⟨hw, ht⟩ h

theorem append {rs rs' : List FieldRange} {fs fs' : List Field} (h : Ranged rs fs) (h' : Ranged rs' fs') :
    Ranged (rs ++ rs') (fs ++ fs') := List.rel_append h h'

/-- A group of fields that repeats (R181). -/
theorem flatMap {α : Type} {l : List α} {rs : List FieldRange} {g : α → List Field} (h : ∀ a ∈ l, Ranged rs (g a)) :
    Ranged (repeatRanges l.length rs) (l.flatMap g) := by
  induction l with
  | nil => exact .nil
  | cons a l ih => exact (h a List.mem_cons_self).append (ih fun b hb => h b (List.mem_cons_of_mem a hb))

theorem width {rs : List FieldRange} {fs : List Field} (h : Ranged rs fs) :
    (bitsOfFields fs).length = rangesWidth rs := by
  induction h with
  | nil => rfl
  | cons hf _ ih => rw [bitsOfFields_cons, List.length_append, fieldBits_length, ih, hf.1]; rfl

theorem inRanges {rs : List FieldRange} {fs : List Field} (h : Ranged rs fs) (bits : List Bool) :
    inRanges rs (bitsOfFields fs ++ bits) = true := by
  induction h with
  | nil => rfl
  | @cons r f rs fs hf _ ih =>
    obtain ⟨w, top⟩ := r
    obtain ⟨hw, htop⟩ := hf
    obtain rfl : f.1 = w := hw
    have value : natOfBits ((bitsOfFields (f :: fs) ++ bits).take f.1) ≤ top := by
      rw [bitsOfFields_cons, List.append_assoc]
      exact (fieldAt_zero f.1 f.2 (bitsOfFields fs ++ bits)).le.trans ((Nat.mod_le ..).trans htop)
    have rest : (bitsOfFields (f :: fs) ++ bits).drop f.1 = bitsOfFields fs ++ bits := by
      rw [bitsOfFields_cons, List.append_assoc, List.drop_append, List.drop_of_length_le (by simp)]
      simp
    rw [Machine.inRanges, rest, ih, decide_eq_true value]
    rfl

end Ranged

end Sys2Proof.Machine
end

section
/-! PROOFS. A body sent is read back (R95, R96, R179 to R182): the codes, the groups that repeat, and each kind's fields, held
against their ranges and read at their places. -/

namespace Sys2Proof.Machine

/-! ### Codes (R182) -/

theorem classCode_lt (c : FaultClass) : classCode c < 4 := by cases c <;> decide
theorem classOfCode_classCode (c : FaultClass) : classOfCode (classCode c) = c := by cases c <;> rfl
theorem eventCode_lt (t : EventType) : eventCode t < 15 := by cases t <;> decide
theorem eventOfCode_eventCode (t : EventType) : eventOfCode (eventCode t) = some t := by cases t <;> rfl
theorem reportedCode_lt (r : ReportedState) : reportedCode r < 5 := by cases r <;> decide
theorem reportedOfCode_reportedCode (r : ReportedState) : reportedOfCode (reportedCode r) = some r := by cases r <;> rfl
theorem verdictCode_lt (v : Verdict) : verdictCode v < 6 := by cases v <;> decide
theorem verdictOfCode_verdictCode (v : Verdict) : verdictOfCode (verdictCode v) = some v := by cases v <;> rfl
theorem outcomeCode_lt (o : TestOutcome) : outcomeCode o < 5 := by cases o <;> decide
theorem outcomeOfCode_outcomeCode (o : TestOutcome) : outcomeOfCode (outcomeCode o) = some o := by cases o <;> rfl

/-- A signed value is read back from a field of 14 cells (R179). -/
theorem ofTwos_twos {v : Int} (h : -8192 ≤ v) (h' : v ≤ 8191) : ofTwos 14 (twos 14 v) = v := by
  have width : ((2 ^ 14 : Nat) : Int) = 16384 := by norm_num
  have half : (2 ^ (14 - 1) : Nat) = 8192 := by norm_num
  rw [ofTwos, twos, width, half]
  split <;> omega

theorem twos_lt (w : Nat) (v : Int) : twos w v < 2 ^ w := by
  have pos : (0 : Int) < (2 ^ w : Nat) := by exact_mod_cast Nat.two_pow_pos w
  have := Int.emod_lt_of_pos v pos
  have := Int.emod_nonneg v pos.ne'
  unfold twos
  omega

/-! ### Reading at the head of a run of cells -/

theorem fieldAt_zero_of_lt {w v : Nat} (h : v < 2 ^ w) (bits : List Bool) : fieldAt 0 w (fieldBits w v ++ bits) = v := by
  rw [fieldAt_zero, Nat.mod_eq_of_lt h]

theorem fieldAt_zero_bitVec {w : Nat} (x : BitVec w) (bits : List Bool) :
    fieldAt 0 w (fieldBits w x.toNat ++ bits) = x.toNat :=
  fieldAt_zero_of_lt x.isLt bits

theorem flagAt_zero (b : Bool) (bits : List Bool) : flagAt 0 (fieldBits 1 b.toNat ++ bits) = b := by
  rw [flagAt, fieldAt_zero]
  cases b <;> rfl

theorem flagAt_zero_one (bits : List Bool) : flagAt 0 (fieldBits 1 1 ++ bits) = true := flagAt_zero true bits

theorem flagAt_zero_zero (bits : List Bool) : flagAt 0 (fieldBits 1 0 ++ bits) = false := flagAt_zero false bits

theorem flagAt_skip {w o : Nat} (h : w ≤ o) (v : Nat) (bits : List Bool) :
    flagAt o (fieldBits w v ++ bits) = flagAt (o - w) bits := by
  rw [flagAt, fieldAt_skip h, flagAt]

theorem pairAt_zero (p : PairNo) (bits : List Bool) : pairAt 0 (fieldBits 5 p.toNat ++ bits) = p := by
  rw [pairAt, fieldAt_zero_bitVec, BitVec.ofNat_toNat, BitVec.setWidth_eq]

theorem pairAt_skip {w o : Nat} (h : w ≤ o) (v : Nat) (bits : List Bool) :
    pairAt o (fieldBits w v ++ bits) = pairAt (o - w) bits := by
  rw [pairAt, fieldAt_skip h, pairAt]

theorem keyAt_zero (k : Key) (bits : List Bool) :
    keyAt 0 (fieldBits 4 k.cable.toNat ++ (fieldBits 5 k.binder.toNat ++ (fieldBits 2 (classCode k.cls) ++ bits))) = k := by
  simp [keyAt, fieldAt_zero_bitVec, fieldAt_skip, fieldAt_zero_of_lt, classCode_lt, classOfCode_classCode]

theorem keyAt_skip {w o : Nat} (h : w ≤ o) (v : Nat) (bits : List Bool) :
    keyAt o (fieldBits w v ++ bits) = keyAt (o - w) bits := by
  simp only [keyAt, fieldAt_skip h, fieldAt_skip (h.trans (Nat.le_add_right ..)), Nat.sub_add_comm h]

/-! ### The groups that repeat (R181) -/

theorem membersAt_skip {w o : Nat} (h : w ≤ o) (v : Nat) (bits : List Bool) (n : Nat) :
    membersAt o (fieldBits w v ++ bits) n = membersAt (o - w) bits n := by
  induction n generalizing o with
  | zero => rfl
  | succ n ih =>
    have le (k : Nat) : w ≤ o + k := h.trans (Nat.le_add_right ..)
    simp only [membersAt, fieldAt_skip h, pairAt_skip (le _), flagAt_skip (le _), ih (le _), Nat.sub_add_comm h]

theorem membersAt_zero (ms : List WireMember) (bits : List Bool) :
    membersAt 0 (bitsOfFields (ms.flatMap memberFields) ++ bits) ms.length = ms := by
  induction ms with
  | nil => rfl
  | cons m ms ih =>
    simp [membersAt, memberFields, bit, fieldAt_zero_bitVec, pairAt_skip, pairAt_zero, flagAt_skip,
      flagAt_zero, membersAt_skip, ih]

theorem wireEventsAt_skip {w o : Nat} (h : w ≤ o) (v : Nat) (bits : List Bool) (n : Nat) :
    wireEventsAt o (fieldBits w v ++ bits) n = wireEventsAt (o - w) bits n := by
  induction n generalizing o with
  | zero => rfl
  | succ n ih =>
    have le (k : Nat) : w ≤ o + k := h.trans (Nat.le_add_right ..)
    simp only [wireEventsAt, fieldAt_skip h, fieldAt_skip (le _), ih (le _), Nat.sub_add_comm h]

theorem wireEventsAt_zero {es : List WireEvent} (h : ∀ e ∈ es, e.value < 16 ∧ e.age < 256) (bits : List Bool) :
    wireEventsAt 0 (bitsOfFields (es.flatMap wireEventFields) ++ bits) es.length = some es := by
  induction es with
  | nil => rfl
  | cons e es ih =>
    obtain ⟨hvalue, hage⟩ := h e List.mem_cons_self
    have code : eventCode e.type < 16 := (eventCode_lt e.type).trans (by decide)
    have rest := ih fun x hx => h x (List.mem_cons_of_mem e hx)
    simp [wireEventsAt, wireEventFields, fieldAt_zero_of_lt, fieldAt_skip, wireEventsAt_skip, code, hvalue, hage, rest,
      eventOfCode_eventCode]

theorem wireLegAt_skip {w o : Nat} (h : w ≤ o) (v : Nat) (bits : List Bool) :
    wireLegAt o (fieldBits w v ++ bits) = wireLegAt (o - w) bits := by
  have le (k : Nat) : w ≤ o + k := h.trans (Nat.le_add_right ..)
  simp only [wireLegAt, fieldAt_skip h, fieldAt_skip (le _), flagAt_skip (le _), Nat.sub_add_comm h]

/-- Whether a leg of a TEST RESULT can be sent (R181). -/
def WireLeg.Fits (l : WireLeg) : Prop := -8191 ≤ l.vOff ∧ l.vOff ≤ 8191 ∧ ∀ r, l.resistance = some r → r ≤ 65535

theorem wireLegAt_zero {l : WireLeg} (h : l.Fits) (bits : List Bool) :
    wireLegAt 0 (fieldBits 14 (twos 14 l.vOff) ++
      (fieldBits 1 l.resistance.isNone.toNat ++ (fieldBits 16 (l.resistance.getD 0) ++ bits))) = l := by
  obtain ⟨v, r⟩ := l
  obtain ⟨hlow, hhigh, hr⟩ : -8191 ≤ v ∧ v ≤ 8191 ∧ ∀ x, r = some x → x ≤ 65535 := h
  have signed := ofTwos_twos (v := v) (by omega) hhigh
  have width : twos 14 v < 16384 := twos_lt 14 v
  cases r with
  | none => simp [wireLegAt, fieldAt_zero_of_lt, flagAt_skip, flagAt_zero_one, width, signed]
  | some r =>
    have value : r < 65536 := Nat.lt_succ_of_le (hr r rfl)
    simp [wireLegAt, fieldAt_zero_of_lt, fieldAt_skip, flagAt_skip, flagAt_zero_zero, width, signed, value]

end Sys2Proof.Machine
end

section
/-! PROOFS. A body sent is read right in length and read back as it was sent (R95, R96, R179, R181), kind by kind. -/

namespace Sys2Proof.Machine

/-! ### Fields in their ranges -/

@[simp] theorem Ranged.nil_iff : Ranged [] [] := .nil

@[simp] theorem Ranged.cons_iff {r : FieldRange} {f : Field} {rs : List FieldRange} {fs : List Field} :
    Ranged (r :: rs) (f :: fs) ↔ (f.1 = r.1 ∧ f.2 ≤ r.2) ∧ Ranged rs fs := List.forall₂_cons

theorem keyFields_ranged (k : Key) : Ranged keyRanges (keyFields k) := by
  have := classCode_lt k.cls
  simp [keyRanges, keyFields]
  omega

theorem memberFields_ranged (m : WireMember) : Ranged memberRanges (memberFields m) := by
  simp [memberRanges, memberFields, bit, Bool.toNat_le]
  omega

theorem wireEventFields_ranged {e : WireEvent} (hvalue : e.value ≤ 15) (hage : e.age ≤ 255) :
    Ranged [(4, 14), (4, 15), (8, 255)] (wireEventFields e) := by
  have := eventCode_lt e.type
  simp [wireEventFields]
  omega

theorem wireLegFields_ranged {l : WireLeg} (h : l.Fits) : Ranged [(14, 16383), (1, 1), (16, 65535)] (wireLegFields l) := by
  have width : twos 14 l.vOff < 16384 := twos_lt 14 l.vOff
  have value : l.resistance.getD 0 ≤ 65535 := by
    obtain ⟨_, _, hr⟩ := h
    cases hl : l.resistance with
    | none => simp
    | some r => exact hr r hl
  simp [wireLegFields, bit, Bool.toNat_le]
  omega

theorem rangesWidth_append (rs rs' : List FieldRange) : rangesWidth (rs ++ rs') = rangesWidth rs + rangesWidth rs' := by
  simp [rangesWidth]

theorem rangesWidth_repeat (n : Nat) (rs : List FieldRange) : rangesWidth (repeatRanges n rs) = n * rangesWidth rs := by
  induction n with
  | zero => simp [rangesWidth, repeatRanges]
  | succ n ih =>
    rw [repeatRanges, List.replicate_succ, List.flatten_cons, rangesWidth_append, ← repeatRanges, ih]
    ring

/-! ### Length (R96) -/

/-- A run of cells that is a run of fields in these ranges, however a sender grouped them into fields. -/
def CellsIn (rs : List FieldRange) (bits : List Bool) : Prop := ∃ fs, Ranged rs fs ∧ bitsOfFields fs = bits

namespace CellsIn

theorem of_fields {rs : List FieldRange} {fs : List Field} (h : Ranged rs fs) : CellsIn rs (bitsOfFields fs) := ⟨fs, h, rfl⟩

theorem append {rs rs' : List FieldRange} {bits bits' : List Bool} (h : CellsIn rs bits) (h' : CellsIn rs' bits') :
    CellsIn (rs ++ rs') (bits ++ bits') := by
  obtain ⟨fs, ranged, rfl⟩ := h
  obtain ⟨fs', ranged', rfl⟩ := h'
  exact ⟨fs ++ fs', ranged.append ranged', bitsOfFields_append fs fs'⟩

/-- Any run of cells is one field that may carry every value of its width. -/
theorem of_whole {w top : Nat} {bits : List Bool} (h : bits.length = w) (full : 2 ^ w ≤ top + 1) : CellsIn [(w, top)] bits := by
  subst h
  have value := natOfBits_lt bits
  refine ⟨[(bits.length, natOfBits bits)], .cons rfl (by omega) .nil, ?_⟩
  simp [fieldBits_natOfBits]

theorem width {rs : List FieldRange} {bits : List Bool} (h : CellsIn rs bits) : bits.length = rangesWidth rs := by
  obtain ⟨fs, ranged, rfl⟩ := h
  exact ranged.width

theorem inRanges {rs : List FieldRange} {bits : List Bool} (h : CellsIn rs bits) (pad : List Bool) :
    inRanges rs (bits ++ pad) = true := by
  obtain ⟨fs, ranged, rfl⟩ := h
  exact ranged.inRanges pad

end CellsIn

/-- A body whose cells stand in the ranges that a reader finds for it, whatever cells fill the last byte. -/
def Body.ReadIn (b : Body) (rs : List FieldRange) : Prop :=
  CellsIn rs (bitsOfFields (bodyFields b)) ∧
    ∀ pad, bodyRanges (bodyKind b) (bitsOfFields (bodyFields b) ++ pad) = some rs

namespace Body.ReadIn

/-- The fields of the body itself, in the ranges found. -/
theorem of_fields {b : Body} {rs : List FieldRange} (h : Ranged rs (bodyFields b))
    (hr : ∀ pad, bodyRanges (bodyKind b) (bitsOfFields (bodyFields b) ++ pad) = some rs) : b.ReadIn rs :=
  ⟨.of_fields h, hr⟩

theorem length {b : Body} {rs : List FieldRange} (h : b.ReadIn rs) : (bodyBytes b).length = (rangesWidth rs + 7) / 8 := by
  rw [bodyBytes, packBytes_length, h.1.width]

theorem lengthError {b : Body} {rs : List FieldRange} (h : b.ReadIn rs) {f : RxFrame} (hf : f.body = bodyBytes b) :
    lengthError (bodyKind b) f = false := by
  have len := h.length
  obtain ⟨cells, found⟩ := h
  obtain ⟨pad, bytes⟩ := bitsOfBytes_packBytes (bitsOfFields (bodyFields b))
  rw [← bodyBytes] at bytes
  simp [Machine.lengthError, hf, bytes, found pad, len, cells.inRanges pad]

end Body.ReadIn

/-- The check of a frame sent is the check of its cells (R180). -/
theorem checkError_frameOf (sender target : StationNo) (authority : BitVec 2) (b : Body) :
    checkError (bodyKind b) (frameOf sender target authority b) = false := by
  simp [checkError, rxCells, frameOf]

/-! ### The ranges of each kind (R181) -/

/-- The ranges of the fields of a command, in its own frame and in a REPLY (R181). -/
def askedRanges : Command → List FieldRange
  | .queryPair _ _ => [(5, 31), (2, 3)]
  | .queryIncident _ _ => keyRanges ++ [(3, 7)]
  | .testPair _ => [(5, 31)]
  | .park _ => [(5, 31)]
  | .unpark _ => [(5, 31)]
  | .clearIncident _ => keyRanges
  | .restart => []

theorem commandFields_ranged (cmd : Command) : Ranged (askedRanges cmd) (commandFields cmd) := by
  cases cmd with
  | queryPair index part => simp [askedRanges, commandFields]; omega
  | queryIncident key page => exact (keyFields_ranged key).append (by simp; omega)
  | testPair pair => simp [askedRanges, commandFields]; omega
  | park pair => simp [askedRanges, commandFields]; omega
  | unpark pair => simp [askedRanges, commandFields]; omega
  | clearIncident key => exact keyFields_ranged key
  | restart => exact .nil

theorem command_readIn (cmd : Command) : (Body.command cmd).ReadIn (askedRanges cmd) :=
  .of_fields (commandFields_ranged cmd) fun _ => by cases cmd <;> rfl

theorem askedRanges_width (cmd : Command) : rangesWidth (askedRanges cmd) ≤ 14 := by
  cases cmd <;> simp [askedRanges, keyRanges, rangesWidth]

theorem lineEvents_readIn (pair : PairNo) (firstSeq : BitVec 4) (gap stale : Bool) {events : List WireEvent}
    (h : (Body.lineEvents pair firstSeq gap stale events).fits) :
    (Body.lineEvents pair firstSeq gap stale events).ReadIn
      ([(5, 31), (3, 6), (4, 15), (1, 1), (1, 1)] ++ repeatRanges events.length [(4, 14), (4, 15), (8, 255)]) := by
  obtain ⟨some, few, bounds⟩ := h
  have head : Ranged [(5, 31), (3, 6), (4, 15), (1, 1), (1, 1)]
      [(5, pair.toNat), (3, events.length), (4, firstSeq.toNat), bit gap, bit stale] := by
    simp [bit, Bool.toNat_le]; omega
  have groups : Ranged _ (events.flatMap wireEventFields) :=
    .flatMap fun e he => wireEventFields_ranged (bounds e he).1 (bounds e he).2
  refine .of_fields (head.append groups) fun pad => ?_
  have count : events.length < 8 := by omega
  have any : ¬ events = [] := List.ne_nil_of_length_pos some
  simp [bodyRanges, bodyKind, bodyFields, fieldAt_skip, fieldAt_zero_of_lt, count, any]

theorem incident_readIn (key : Key) (state : ReportedState) (verdict : Verdict) (forced : Bool) {count : Nat}
    {members : List WireMember} (h : (Body.incident key state verdict forced count members).fits) :
    (Body.incident key state verdict forced count members).ReadIn
      (keyRanges ++ [(3, 4), (3, 5), (1, 1), (8, 255), (3, 5)] ++ repeatRanges members.length memberRanges) := by
  obtain ⟨total, few⟩ := h
  have st := reportedCode_lt state
  have vd := verdictCode_lt verdict
  have fixed : Ranged [(3, 4), (3, 5), (1, 1), (8, 255), (3, 5)]
      [(3, reportedCode state), (3, verdictCode verdict), bit forced, (8, count), (3, members.length)] := by
    simp [bit, Bool.toNat_le]; omega
  have groups : Ranged _ (members.flatMap memberFields) := .flatMap fun m _ => memberFields_ranged m
  refine .of_fields (((keyFields_ranged key).append fixed).append groups) fun pad => ?_
  have count : members.length < 8 := by omega
  simp [bodyRanges, bodyKind, bodyFields, keyFields, bit, fieldAt_skip, fieldAt_zero_of_lt, count]

theorem testResult_readIn (pair : PairNo) {outcome : TestOutcome} {legs : List WireLeg}
    (h : (Body.testResult pair outcome legs).fits) :
    (Body.testResult pair outcome legs).ReadIn
      ([(5, 31), (3, 4)] ++ repeatRanges legs.length [(14, 16383), (1, 1), (16, 65535)]) := by
  obtain ⟨number, bounds⟩ := h
  have code := outcomeCode_lt outcome
  have head : Ranged [(5, 31), (3, 4)] [(5, pair.toNat), (3, outcomeCode outcome)] := by simp; omega
  have groups : Ranged _ (legs.flatMap wireLegFields) := .flatMap fun l hl => wireLegFields_ranged (bounds l hl)
  refine .of_fields (head.append groups) fun pad => ?_
  have read : outcomeCode outcome < 8 := by omega
  have counted : repeatRanges legs.length [(14, 16383), (1, 1), (16, 65535)] =
      if outcomeCode outcome = 0 then repeatRanges 3 [(14, 16383), (1, 1), (16, 65535)] else [] := by
    cases outcome <;> simp_all [outcomeCode, repeatRanges]
  rw [counted]
  simp [bodyRanges, bodyKind, bodyFields, fieldAt_skip, fieldAt_zero_of_lt, read]

/-- Each body in range is read in ranges of at most 15 bytes. -/
theorem Body.fits.readIn {b : Body} (h : b.fits) : ∃ rs, b.ReadIn rs ∧ rangesWidth rs ≤ 120 := by
  cases b with
  | lock => exact ⟨[], .of_fields .nil fun _ => rfl, by decide⟩
  | unlock => exact ⟨[], .of_fields .nil fun _ => rfl, by decide⟩
  | faultClaim key pair tag renew =>
    refine ⟨_, .of_fields ((keyFields_ranged key).append ?_) fun _ => rfl, by decide⟩
    simp [bit, Bool.toNat_le]; omega
  | leave key pair =>
    refine ⟨_, .of_fields ((keyFields_ranged key).append ?_) fun _ => rfl, by decide⟩
    simp; omega
  | quiet pair confirmation cls =>
    refine ⟨_, .of_fields (rs := [(5, 31), (1, 1), (2, 3)]) ?_ fun _ => rfl, by decide⟩
    have := classCode_lt cls
    simp [bodyFields, bit, Bool.toNat_le]
    split <;> omega
  | release pair => exact ⟨_, .of_fields (rs := [(5, 31)]) (by simp [bodyFields]; omega) fun _ => rfl, by decide⟩
  | deferredReply tag pair key joined =>
    refine ⟨[(5, 31), (5, 31)] ++ keyRanges ++ [(1, 1)], .of_fields (.append (.append ?_ (keyFields_ranged key)) ?_)
      fun _ => rfl, by decide⟩
    · simp; omega
    · simp [bit, Bool.toNat_le]
  | lineEvents pair firstSeq gap stale events =>
    refine ⟨_, lineEvents_readIn pair firstSeq gap stale h, ?_⟩
    have few := h.2.1
    rw [rangesWidth_append, rangesWidth_repeat]
    simp [rangesWidth]; omega
  | incident key state verdict forced count members =>
    refine ⟨_, incident_readIn key state verdict forced h, ?_⟩
    have few := h.2
    rw [rangesWidth_append, rangesWidth_repeat]
    simp [rangesWidth, keyRanges, memberRanges]; omega
  | testResult pair outcome legs =>
    refine ⟨_, testResult_readIn pair h, ?_⟩
    have few : legs.length ≤ 3 := by
      have number := h.1
      split at number <;> simp [number]
    rw [rangesWidth_append, rangesWidth_repeat]
    simp [rangesWidth]; omega
  | reply cmd status view => exact h.elim
  | command cmd => exact ⟨_, command_readIn cmd, (askedRanges_width cmd).trans (by decide)⟩

/-! ### The body read back (R179, R181) -/

theorem commandAt_bits (cmd : Command) (pad : List Bool) :
    commandAt (commandKind cmd) (bitsOfFields (commandFields cmd) ++ pad) = some cmd := by
  cases cmd <;>
    simp [commandAt, commandKind, commandFields, keyFields, fieldAt_zero_bitVec, fieldAt_skip, pairAt_zero, keyAt_zero]

theorem bodyOf_command (cmd : Command) (bytes : List Byte) :
    bodyOf (bodyKind (.command cmd)) bytes = (commandAt (commandKind cmd) (bitsOfBytes bytes)).map .command := by
  cases cmd <;> rfl

theorem bodyOf_bits {b : Body} (h : b.fits) {bytes : List Byte} {pad : List Bool}
    (hb : bitsOfBytes bytes = bitsOfFields (bodyFields b) ++ pad) : bodyOf (bodyKind b) bytes = some b := by
  cases b with
  | lock => rfl
  | unlock => rfl
  | faultClaim key pair tag renew =>
    simp [bodyOf, bodyKind, hb, bodyFields, keyFields, bit, keyAt_zero, pairAt_skip, pairAt_zero, fieldAt_skip,
      fieldAt_zero_bitVec, flagAt_skip, flagAt_zero]
  | leave key pair => simp [bodyOf, bodyKind, hb, bodyFields, keyFields, keyAt_zero, pairAt_skip, pairAt_zero]
  | quiet pair confirmation cls =>
    cases confirmation with
    | false =>
      obtain rfl := h rfl
      simp [bodyOf, bodyKind, hb, bodyFields, bit, pairAt_zero, fieldAt_skip, fieldAt_zero_of_lt, flagAt_skip,
        flagAt_zero_zero, classOfCode]
    | true =>
      have code := classCode_lt cls
      simp [bodyOf, bodyKind, hb, bodyFields, bit, pairAt_zero, fieldAt_skip, fieldAt_zero_of_lt, flagAt_skip,
        flagAt_zero_one, code, classOfCode_classCode]
  | release pair => simp [bodyOf, bodyKind, hb, bodyFields, pairAt_zero]
  | deferredReply tag pair key joined =>
    simp [bodyOf, bodyKind, hb, bodyFields, keyFields, bit, fieldAt_zero_bitVec, pairAt_skip, pairAt_zero, keyAt_skip,
      keyAt_zero, flagAt_skip, flagAt_zero]
  | lineEvents pair firstSeq gap stale events =>
    obtain ⟨_, few, bounds⟩ := h
    have count : events.length < 8 := by omega
    have read := wireEventsAt_zero (fun e he => ⟨Nat.lt_succ_of_le (bounds e he).1, Nat.lt_succ_of_le (bounds e he).2⟩) pad
    simp [bodyOf, bodyKind, hb, bodyFields, bit, fieldAt_skip, fieldAt_zero_of_lt, fieldAt_zero_bitVec, count,
      wireEventsAt_skip, read, pairAt_zero, flagAt_skip, flagAt_zero]
  | incident key state verdict forced count members =>
    obtain ⟨total, few⟩ := h
    have st : reportedCode state < 8 := (reportedCode_lt state).trans (by decide)
    have vd : verdictCode verdict < 8 := (verdictCode_lt verdict).trans (by decide)
    have number : members.length < 8 := by omega
    have sum : count < 256 := by omega
    simp [bodyOf, bodyKind, hb, bodyFields, keyFields, bit, fieldAt_skip, fieldAt_zero_of_lt, st, vd, number, sum,
      reportedOfCode_reportedCode, verdictOfCode_verdictCode, keyAt_zero, flagAt_skip, flagAt_zero, membersAt_skip,
      membersAt_zero]
  | testResult pair outcome legs =>
    obtain ⟨number, bounds⟩ := h
    have code : outcomeCode outcome < 8 := (outcomeCode_lt outcome).trans (by decide)
    by_cases done : outcome = .done
    · subst done
      obtain ⟨l, m, n, rfl⟩ := List.length_eq_three.1 number
      have fits (x : WireLeg) (hx : x ∈ [l, m, n]) : x.Fits := bounds x hx
      simp [bodyOf, bodyKind, hb, bodyFields, wireLegFields, bit, fieldAt_skip, fieldAt_zero_of_lt, code,
        outcomeOfCode_outcomeCode, pairAt_zero, wireLegAt_skip, wireLegAt_zero, fits]
    · obtain rfl : legs = [] := by simpa [done] using number
      simp [bodyOf, bodyKind, hb, bodyFields, fieldAt_skip, fieldAt_zero_of_lt, code, outcomeOfCode_outcomeCode,
        pairAt_zero]
  | reply cmd status view => exact h.elim
  | command cmd => rw [bodyOf_command, hb, bodyFields, commandAt_bits]; rfl

/-- A body sent is read right in check and length, and read back (R95, R96). -/
theorem body_read_back {b : Body} (h : b.fits) (sender target : StationNo) (authority : BitVec 2) :
    (bodyBytes b).length ≤ 15 ∧ lengthError (bodyKind b) (frameOf sender target authority b) = false ∧
      bodyOf (bodyKind b) (bodyBytes b) = some b := by
  obtain ⟨rs, read, width⟩ := h.readIn
  obtain ⟨pad, cells⟩ := bitsOfBytes_packBytes (bitsOfFields (bodyFields b))
  have length := read.length
  exact ⟨by omega, read.lengthError rfl, bodyOf_bits h cells⟩

end Sys2Proof.Machine
end

section
/-! PROOFS. A REPLY is read right in check and length (R95, R96, R181): the ranges its reader finds are those of the command
and of the view it carries, and each view's fields stand in them. -/

namespace Sys2Proof.Machine

/-! ### Ranges of the command answered and of the view -/

/-- The ranges of the fields of a view (R181). -/
def viewRanges : View → List FieldRange
  | .nothing => []
  | .previousWord _ => [(8, 255)]
  | .line _ => lineViewRanges
  | .fault _ => faultViewRanges
  | .identity _ => [(12, 4095), (16, 65535), (4, 15), (4, 15), (4, 15), (5, 31), (5, 31), (5, 31), (2, 3)]
  | .condition _ _ _ _ => [(1, 1), (1, 1), (1, 1), (4, 15)]
  | .testBus _ => busViewRanges
  | .lastMeasured _ => lastMeasuredRanges
  | .tonePool _ _ _ => tonePoolRanges
  | .incident _ _ _ _ _ members =>
    [(3, 4), (3, 5), (6, 63), (8, 255), (4, 15), (3, 6)] ++ repeatRanges members.length memberRanges

/-- The ranges that a reader finds after the command's fields of a REPLY with status DONE (R181). -/
def answerRanges (cmd : Command) (bits : List Bool) : List FieldRange :=
  match cmd with
  | .queryPair index part => pairViewRanges index.toNat part.toNat
  | .queryIncident _ _ =>
    [(3, 4), (3, 5), (6, 63), (8, 255), (4, 15), (3, 6)] ++ repeatRanges (fieldAt 24 3 bits) memberRanges
  | .park _ => [(8, 255)]
  | .unpark _ => [(8, 255)]
  | _ => []

theorem statusCode_lt (st : Status) : statusCode st < 7 := by cases st <;> decide
theorem statusCode_eq_zero {st : Status} : statusCode st = 0 ↔ st = .done := by cases st <;> simp [statusCode]

/-- What a reader of a REPLY finds: the kind answered, the status, the command's fields, and after DONE the view's. -/
theorem replyRanges_bits (cmd : Command) (status : Status) (bits : List Bool) :
    replyRanges (bitsOfFields ([(3, commandCode cmd), (3, statusCode status)] ++ commandFields cmd) ++ bits) =
      some ([(3, 6), (3, 6)] ++ askedRanges cmd ++ if status = .done then answerRanges cmd bits else []) := by
  have code : statusCode status < 8 := (statusCode_lt status).trans (by decide)
  cases cmd <;>
    simp [replyRanges, commandCode, commandFields, keyFields, askedRanges, answerRanges, fieldAt_skip, fieldAt_zero_of_lt,
      fieldAt_zero_bitVec, code, statusCode_eq_zero]

/-- The ranges found are those of the view carried. -/
theorem answerRanges_view {cmd : Command} {status : Status} {v : View} (h : v.answers cmd status) (hf : v.fits)
    (pad : List Bool) :
    (if status = .done then answerRanges cmd (bitsOfFields (viewFields v) ++ pad) else []) = viewRanges v := by
  cases v with
  | nothing =>
    obtain other | ⟨pr, rfl⟩ | ⟨key, rfl⟩ | rfl := h
    · rw [if_neg other]; rfl
    all_goals simp [answerRanges, viewRanges]
  | previousWord word => obtain ⟨rfl, pr, rfl | rfl⟩ := h <;> rfl
  | line l => obtain ⟨rfl, index, low, rfl⟩ := h; exact (if_pos rfl).trans (if_pos low)
  | fault u => obtain ⟨rfl, index, low, rfl⟩ := h; exact (if_pos rfl).trans (if_pos low)
  | identity x => obtain ⟨rfl, rfl⟩ := h; rfl
  | condition active failed integrity held => obtain ⟨rfl, rfl⟩ := h; rfl
  | testBus b => obtain ⟨rfl, rfl⟩ := h; rfl
  | lastMeasured m => obtain ⟨rfl, rfl⟩ := h; rfl
  | tonePool receivers waiting head => obtain ⟨rfl, rfl⟩ := h; rfl
  | incident state verdict listed overflow deferred members =>
    obtain ⟨rfl, key, page, rfl⟩ := h
    obtain ⟨_, _, _, few⟩ := hf
    have number : members.length < 8 := by omega
    simp [answerRanges, viewRanges, viewFields, fieldAt_skip, fieldAt_zero_of_lt, number]

/-! ### The fields of each view in their ranges -/

theorem twos_le {w top : Nat} (h : 2 ^ w ≤ top + 1) (v : Int) : twos w v ≤ top :=
  Nat.le_of_lt_succ ((twos_lt w v).trans_le h)

theorem bit_inRange (b : Bool) : (bit b).1 = 1 ∧ (bit b).2 ≤ 1 := ⟨rfl, Bool.toNat_le b⟩

theorem lineViewFields_ranged {l : LineView} (h : (View.line l).fits) : Ranged lineViewRanges (lineViewFields l) := by
  obtain ⟨-, -, pulses, run, lockout, -, -, -, -, events⟩ := h
  have loop : loopCode l.loop ≤ 4 := by cases l.loop <;> decide
  have freeze : freezeCode l.freeze ≤ 2 := by cases l.freeze <;> decide
  have receiver : (l.receiver.map Fin.val).getD 4 ≤ 4 := by
    cases l.receiver with
    | none => simp
    | some r => exact r.isLt.le
  simp [lineViewRanges, lineViewFields, bit_inRange, twos_le, pulses, run, lockout, events, loop, freeze, receiver]
  omega

theorem linkFields_ranged (c : ClaimState) : Ranged [(2, 3), (1, 1)] (linkFields c) := by
  cases c with
  | linked cls owned =>
    have := classCode_lt cls
    simp [linkFields, bit_inRange]; omega
  | unclaimed | pending | deferred _ | heldOff => simp [linkFields]

/-- The four latched classes are one field of the view. -/
theorem faultViewFields_cells {u : FaultView} (h : (View.fault u).fits) :
    CellsIn faultViewRanges (bitsOfFields (faultViewFields u)) := by
  obtain ⟨-, -, recovery, feedLoss, foreign, groundLeak, dref, seconds⟩ := h
  have state : faultStateCode u.fault ≤ 2 := by cases u.fault <;> decide
  have claim : claimCode u.claim ≤ 4 := by cases u.claim <;> simp [claimCode]
  have timer : u.timerSeconds.getD 0 ≤ 63 := by
    cases ht : u.timerSeconds with
    | none => simp
    | some n => exact seconds n ht
  have tag : (u.tag.map fun t => t.1.val).getD 0 ≤ 31 := by
    cases u.tag with
    | none => simp
    | some t => exact Nat.le_of_lt_succ t.1.isLt
  have cls : (u.tag.map fun t => classCode t.2).getD 0 ≤ 3 := by
    cases u.tag with
    | none => simp
    | some t => exact Nat.le_of_lt_succ (classCode_lt t.2)
  have head : Ranged [(8, 255), (2, 2), (5, 31)] [(8, twos 8 u.serviceWord), (2, faultStateCode u.fault), (5, u.recovery)] := by
    simp [twos_le, state, recovery]
  have latched : CellsIn [(4, 15)] (bitsOfFields [bit u.latched.feedLoss, bit u.latched.foreign, bit u.latched.groundLeak,
      bit u.latched.permanentLoop]) := .of_whole rfl (by decide)
  have counts : Ranged [(4, 15), (4, 15), (4, 15), (16, 65535), (3, 4), (5, 31), (2, 3)]
      [(4, u.feedLoss), (4, u.foreign), (4, u.groundLeak), (16, u.dref16), (3, claimCode u.claim),
        (5, (u.tag.map fun t => t.1.val).getD 0), (2, (u.tag.map fun t => classCode t.2).getD 0)] := by
    simp [feedLoss, foreign, groundLeak, dref, claim, tag, cls]
  have last : Ranged [(1, 1), (6, 63)] [bit u.timerSeconds.isSome, (6, u.timerSeconds.getD 0)] := by
    simp [bit_inRange, timer]
  have tail := (counts.append (linkFields_ranged u.claim)).append last
  simpa [faultViewRanges, faultViewFields] using ((CellsIn.of_fields head).append latched).append (.of_fields tail)

theorem identityFields_ranged (x : Straps) : Ranged (viewRanges (.identity x)) (identityFields x) := by
  simp [viewRanges, identityFields]
  omega

/-- A confirmation run: its state, and its key as one field, 0 where there is none. -/
theorem runFields_cells (code : Nat) (h : code ≤ 2) (key : Key) :
    CellsIn [(2, 2), (11, 2047)] (bitsOfFields ((2, code) :: keyFields key)) := by
  have state : Ranged [(2, 2)] [(2, code)] := by simp [h]
  have whole : CellsIn [(11, 2047)] (bitsOfFields (keyFields key)) := .of_whole rfl (by decide)
  simpa using (CellsIn.of_fields state).append whole

theorem busViewFields_cells {b : BusView} (h : (View.testBus b).fits) :
    CellsIn busViewRanges (bitsOfFields (busViewFields b)) := by
  obtain ⟨held, mine, tested, faulted, -⟩ := h
  rw [busViewFields]
  simp only [bitsOfFields_append]
  show CellsIn ([(2, 2), (4, 15), (4, 15)] ++ [(1, 1), (1, 1)] ++ [(1, 1), (5, 31), (4, 15)] ++ [(2, 2), (11, 2047)] ++
    [(2, 3), (2, 3)] ++ [(3, 7), (5, 31)] ++ [(14, 16383), (1, 1), (1, 1)]) _
  refine ((((((CellsIn.append ?view ?flags).append ?access).append ?run).append ?counts).append ?slot).append ?vCal)
  case view =>
    split
    · exact .of_fields (by simp)
    · next holder age hv => exact .of_fields (by have := held holder age hv; simp; omega)
    · next age hv => exact .of_fields (by have := mine age hv; simp; omega)
  case flags => exact .of_fields (by simp [bit_inRange])
  case access =>
    split
    · exact .of_fields (by simp)
    · exact .of_fields (by simp; omega)
  case run =>
    split
    · exact .of_fields (by simp)
    · next key _ => exact runFields_cells 1 (by decide) key
    · next key _ => exact runFields_cells 2 (by decide) key
  case counts => exact .of_fields (by simp [tested, faulted])
  case slot =>
    split
    · exact .of_fields (by simp)
    · exact .of_fields (by simp; omega)
    · exact .of_fields (by simp; omega)
    · next pair outcome _ => exact .of_fields (by have := outcomeCode_lt outcome; simp; omega)
  case vCal => exact .of_fields (by simp [bit_inRange, twos_le])

theorem legRecordFields_ranged {l : LegRecord} (h : ∀ y, l.measured = some y → y.resistance ≤ 65535) :
    Ranged [(14, 16383), (1, 1), (16, 65535), (2, 3)] (legRecordFields l) := by
  rw [legRecordFields]
  split
  · next y hy =>
    have cls : legClassCode y.cls ≤ 3 := by cases y.cls <;> decide
    simp [twos_le, h y hy, cls]
  · simp [twos_le]

/-- A group sent as 0 in each place left empty. -/
theorem Ranged.replicate {rs : List FieldRange} {fs : List Field} (h : Ranged rs fs) (n : Nat) :
    Ranged (repeatRanges n rs) (List.replicate n fs).flatten := by
  induction n with
  | zero => exact .nil
  | succ n ih => exact h.append ih

theorem lastMeasuredFields_ranged {last : Option LastMeasurement} (h : (View.lastMeasured last).fits) :
    Ranged lastMeasuredRanges (lastMeasuredFields last) := by
  cases last with
  | none => exact .cons rfl (by decide) (.replicate (by simp) 3)
  | some m =>
    obtain ⟨three, bounds⟩ := h m rfl
    have legs : Ranged _ (m.legs.flatMap legRecordFields) := .flatMap fun l hl => legRecordFields_ranged (bounds l hl).2.2
    rw [three] at legs
    exact .cons rfl (Nat.le_of_lt_succ m.pair.isLt) legs

theorem repeatRanges_add (m n : Nat) (rs : List FieldRange) :
    repeatRanges (m + n) rs = repeatRanges m rs ++ repeatRanges n rs := by
  rw [repeatRanges, List.replicate_add, List.flatten_append, repeatRanges, repeatRanges]

theorem tonePoolFields_ranged {receivers : List (ReceiverState × Option Pair)} {waiting : Nat} {head : List (Pair × Nat)}
    (h : (View.tonePool receivers waiting head).fits) :
    Ranged tonePoolRanges (viewFields (.tonePool receivers waiting head)) := by
  obtain ⟨four, wait, few, ages⟩ := h
  have pool : Ranged (repeatRanges receivers.length [(3, 4), (5, 31)]) (receivers.flatMap toneReceiverFields) := by
    refine .flatMap fun r _ => ?_
    have state : receiverStateCode r.1 ≤ 4 := by cases r.1 <;> decide
    have pair : (r.2.map Fin.val).getD 0 ≤ 31 := by
      cases r.2 with
      | none => simp
      | some p => exact p.isLt.le.trans (by decide)
    simp [toneReceiverFields, state, pair]
  rw [four] at pool
  have first : Ranged (repeatRanges head.length [(5, 31), (4, 15)]) (head.flatMap waitFields) := by
    refine .flatMap fun w hw => ?_
    have age := ages w hw
    simp [waitFields, age]
    omega
  have empty : Ranged [(5, 31), (4, 15)] [((5, 0) : Field), (4, 0)] := by simp
  have waits := first.append (empty.replicate (6 - head.length))
  rw [← repeatRanges_add, Nat.add_sub_cancel' few] at waits
  have number : Ranged [(5, 31)] [(5, waiting)] := by simp [wait]
  rw [tonePoolRanges, viewFields, List.append_assoc _ (head.flatMap waitFields)]
  exact (pool.append number).append waits

theorem incidentView_ranged {state : ReportedState} {verdict : Verdict} {listed overflow deferred : Nat}
    {members : List WireMember} (h : (View.incident state verdict listed overflow deferred members).fits) :
    Ranged (viewRanges (.incident state verdict listed overflow deferred members))
      (viewFields (.incident state verdict listed overflow deferred members)) := by
  obtain ⟨hlisted, hoverflow, hdeferred, few⟩ := h
  have st := reportedCode_lt state
  have vd := verdictCode_lt verdict
  have groups : Ranged _ (members.flatMap memberFields) := .flatMap fun m _ => memberFields_ranged m
  refine .append ?_ groups
  simp [hlisted, hoverflow, hdeferred, few]
  omega

theorem viewFields_cells {v : View} (h : v.fits) : CellsIn (viewRanges v) (bitsOfFields (viewFields v)) := by
  cases v with
  | nothing => exact .of_fields .nil
  | previousWord word => exact .of_fields (by simp [viewRanges, viewFields, twos_le])
  | line l => exact .of_fields (lineViewFields_ranged h)
  | fault u => exact faultViewFields_cells h
  | identity x => exact .of_fields (identityFields_ranged x)
  | condition active failed integrity held =>
    have count : held ≤ 15 := h
    exact .of_fields (by simp [viewRanges, viewFields, bit_inRange, count])
  | testBus b => exact busViewFields_cells h
  | lastMeasured last => exact .of_fields (lastMeasuredFields_ranged h)
  | tonePool receivers waiting head => exact .of_fields (tonePoolFields_ranged h)
  | incident state verdict listed overflow deferred members => exact .of_fields (incidentView_ranged h)

/-! ### The REPLY -/

/-- The ranges that a reader finds for a REPLY are those of its command and its view, and its cells stand in them. -/
theorem reply_readIn {cmd : Command} {status : Status} {v : View} (h : v.answers cmd status) (hf : v.fits) :
    (Body.reply cmd status v).ReadIn ([(3, 6), (3, 6)] ++ askedRanges cmd ++ viewRanges v) := by
  have code : commandCode cmd ≤ 6 := by cases cmd <;> simp [commandCode]
  have st := statusCode_lt status
  have head : Ranged [(3, 6), (3, 6)] [(3, commandCode cmd), (3, statusCode status)] := by simp; omega
  have asked := CellsIn.of_fields (head.append (commandFields_ranged cmd))
  constructor
  · have cells := asked.append (viewFields_cells hf)
    rwa [← bitsOfFields_append] at cells
  · intro pad
    rw [bodyFields, bodyKind, bodyRanges, bitsOfFields_append, List.append_assoc, replyRanges_bits,
      answerRanges_view h hf]

theorem reply_width (cmd : Command) (v : View) : rangesWidth ([(3, 6), (3, 6)] ++ askedRanges cmd ++ viewRanges v) =
    6 + rangesWidth (askedRanges cmd) + rangesWidth (viewRanges v) := by
  rw [rangesWidth_append, rangesWidth_append]
  rfl

end Sys2Proof.Machine
end

section
/-! PROOFS. The cells of a frame, the length of each REPLY, the fields of each view, and O60. -/

namespace Sys2Proof.Machine

/-! ### The cells of a frame (R95, R100) -/

/-- The cells around the header's form, kind and long fields. -/
theorem frameCells_length {kind : FrameKind} {f : RxFrame} {head : List Bool} (c : Cells)
    (h : headerCells kind f.precedence f.sender f.target f.authority f.body.length = head) :
    (frameCells kind f c).length = 22 + head.length + 8 * f.body.length := by
  simp [frameCells, rxCells, h, bitsOfBytes_length, responseCells]
  omega

theorem frameCells_short_length (k : ShortKind) (f : RxFrame) (c : Cells) :
    (frameCells (.short k) f c).length = 34 + 8 * f.body.length := by
  rw [frameCells_length c rfl]
  simp [headerCells]

theorem frameCells_long_length (k : LongKind) (f : RxFrame) (c : Cells) :
    (frameCells (.long k) f c).length = 44 + 8 * f.body.length := by
  rw [frameCells_length c rfl]
  simp [headerCells]

/-! ### The length of a REPLY (R181) -/

/-- The bytes of a REPLY, by the view it carries and the command answered. -/
def replyLength (cmd : Command) : View → Nat
  | .nothing => match cmd with
    | .queryPair _ _ => 2 | .queryIncident _ _ => 3 | .testPair _ => 2 | .park _ => 2 | .unpark _ => 2
    | .clearIncident _ => 3 | .restart => 1
  | .previousWord _ => 3 | .line _ => 11 | .fault _ => 10 | .identity _ => 9 | .condition _ _ _ _ => 3
  | .testBus _ => 10 | .lastMeasured _ => 15 | .tonePool _ _ _ => 13
  | .incident _ _ _ _ _ ms => 6 + (10 * ms.length + 6) / 8

@[simp] theorem rangesWidth_nil : rangesWidth [] = 0 := rfl

@[simp] theorem rangesWidth_cons (r : FieldRange) (rs : List FieldRange) : rangesWidth (r :: rs) = r.1 + rangesWidth rs := by
  simp [rangesWidth]

@[simp] theorem rangesWidth_key : rangesWidth keyRanges = 11 := by decide
@[simp] theorem rangesWidth_lineView : rangesWidth lineViewRanges = 70 := by decide
@[simp] theorem rangesWidth_faultView : rangesWidth faultViewRanges = 67 := by decide
@[simp] theorem rangesWidth_busView : rangesWidth busViewRanges = 63 := by decide
@[simp] theorem rangesWidth_lastMeasured : rangesWidth lastMeasuredRanges = 104 := by decide
@[simp] theorem rangesWidth_tonePool : rangesWidth tonePoolRanges = 91 := by decide

theorem replyLength_eq {cmd : Command} {status : Status} {v : View} (h : v.answers cmd status) :
    (rangesWidth ([(3, 6), (3, 6)] ++ askedRanges cmd ++ viewRanges v) + 7) / 8 = replyLength cmd v := by
  rw [reply_width]
  cases v with
  | nothing => cases cmd <;> simp [askedRanges, viewRanges, replyLength, rangesWidth_append]
  | previousWord word => obtain ⟨-, pr, rfl | rfl⟩ := h <;> simp [askedRanges, viewRanges, replyLength]
  | line l => obtain ⟨-, index, -, rfl⟩ := h; simp [askedRanges, viewRanges, replyLength]
  | fault u => obtain ⟨-, index, -, rfl⟩ := h; simp [askedRanges, viewRanges, replyLength]
  | identity x => obtain ⟨-, rfl⟩ := h; simp [askedRanges, viewRanges, replyLength]
  | condition active failed integrity held => obtain ⟨-, rfl⟩ := h; simp [askedRanges, viewRanges, replyLength]
  | testBus b => obtain ⟨-, rfl⟩ := h; simp [askedRanges, viewRanges, replyLength]
  | lastMeasured last => obtain ⟨-, rfl⟩ := h; simp [askedRanges, viewRanges, replyLength]
  | tonePool receivers waiting head => obtain ⟨-, rfl⟩ := h; simp [askedRanges, viewRanges, replyLength]
  | incident state verdict listed overflow deferred members =>
    obtain ⟨-, key, page, rfl⟩ := h
    simp [askedRanges, viewRanges, rangesWidth_append, rangesWidth_repeat, memberRanges, replyLength]
    omega

/-! ### The fields of a view, written out (R181) -/

theorem bit_eq : bit = fun b => (1, if b then 1 else 0) := by
  funext b
  cases b <;> rfl

theorem linkFields_linked (cls : FaultClass) (owned : Bool) :
    linkFields (.linked cls owned) = [(2, classCode cls), (1, if owned then 1 else 0)] := by
  rw [linkFields, bit_eq]

/-- Settles O60: the fields of a body stand in the ranges its reader finds, and are read at the places the widths before
them give. -/
theorem bodyRoundTrip : Obligations.BodyRoundTrip := by
  refine ⟨?readBack, ?cells, fun b sender target authority => ⟨rfl, rfl, rfl, rfl⟩, ?reply, ?layout, ?fields, ?codes⟩
  case readBack =>
    intro b sender target authority h
    obtain ⟨length, right, back⟩ := body_read_back h sender target authority
    exact ⟨rfl, length, checkError_frameOf sender target authority b, right, back⟩
  case cells =>
    intro f c kind
    constructor
    · rintro k rfl
      refine ⟨?_, frameCells_short_length k f c⟩
      simp [frameCells, rxCells, headerCells, startCell, responseCells, bitsOfBytes]
    · rintro k rfl
      refine ⟨?_, frameCells_long_length k f c⟩
      simp [frameCells, rxCells, headerCells, startCell, responseCells, bitsOfBytes]
  case reply =>
    intro cmd status v sender target authority h hf
    have read := reply_readIn h hf
    have length : (bodyBytes (.reply cmd status v)).length = replyLength cmd v := read.length.trans (replyLength_eq h)
    refine ⟨checkError_frameOf sender target authority (.reply cmd status v), read.lengthError rfl, length.trans ?_⟩
    cases v <;> rfl
  case layout =>
    intro cmd status v
    refine congrArg (fun fs => packBytes (bitsOfFields fs)) (congrArg₂ (· ++ ·) ?asked ?view)
    case asked => cases cmd <;> rfl
    case view =>
      cases v with
      | nothing => rfl
      | previousWord word => rfl
      | line l =>
        simp only [viewFields, lineViewFields, bit_eq]
        cases l.receiver <;> rfl
      | fault u =>
        simp only [viewFields, faultViewFields, bit_eq]
        refine congrArg₂ (· ++ ·) (congrArg₂ (· ++ ·) ?tag ?link) ?timer
        case tag => cases u.tag <;> rfl
        case link =>
          cases u.claim with
          | linked cls owned => exact linkFields_linked cls owned
          | unclaimed | pending | deferred _ | heldOff => rfl
        case timer => cases u.timerSeconds <;> rfl
      | identity x => rfl
      | condition active failed integrity held => simp only [viewFields, bit_eq]
      | testBus b =>
        simp only [viewFields, busViewFields, bit_eq]
        refine Eq.trans ?_ (List.append_assoc ..).symm
        refine congrArg₂ (· ++ ·) (congrArg₂ (· ++ ·) (congrArg₂ (· ++ ·) (congrArg₂ (· ++ ·) (congrArg₂ (· ++ ·)
          (congrArg₂ (· ++ ·) ?view rfl) ?access) ?run) rfl) ?slot) ?vCal
        case view => cases b.view <;> rfl
        case access => cases b.access <;> rfl
        case run => cases b.run <;> rfl
        case slot =>
          cases b.slot with
          | ended pair outcome => cases outcome <;> rfl
          | empty | waiting _ | running _ => rfl
        case vCal => cases b.vCal <;> rfl
      | lastMeasured last =>
        cases last with
        | none => rfl
        | some m =>
          refine congrArg ((5, m.pair.toNat) :: ·) (congrArg (m.legs.flatMap ·) (funext fun l => ?_))
          rw [legRecordFields]
          cases l.measured <;> rfl
      | tonePool receivers waiting head =>
        refine congrArg (· ++ [(5, waiting)] ++ _ ++ _) (congrArg (receivers.flatMap ·) (funext fun r => ?_))
        rw [toneReceiverFields]
        cases r.2 <;> rfl
      | incident state verdict listed overflow deferred members =>
        refine congrArg (_ ++ ·) (congrArg (members.flatMap ·) (funext fun m => ?_))
        rw [memberFields, bit_eq]
  case fields =>
    intro fs i x hf hx
    obtain ⟨pad, cells⟩ := bitsOfBytes_packBytes (bitsOfFields fs)
    rw [cells]
    exact fieldAt_fields hf hx pad
  case codes => exact ⟨rfl, rfl, rfl, rfl, rfl, rfl, fun _ _ _ => rfl, rfl, rfl, rfl, rfl, rfl⟩

end Sys2Proof.Machine
end

section
/-! PROOFS. One entry of the incident table through each of its writes: it stays within its bounds (R111), and it enters and
leaves CONFIRMING, and changes its key there, at no write but those that begin, conclude or close (R113, R122 to R124). -/

namespace Sys2Proof.Machine

set_option Elab.async false

namespace Entry

/-! ### The bounds (R111) -/

variable {x y : Entry} {now : Nat} {st : StationNo} {pr : PairNo} {tag : BitVec 5} {renew : Bool}

/-- The name of a member in its list, which is there once (R111). -/
def memberName (m : Member) : StationNo × PairNo := (m.station, m.pair)

/-- The name of a claimant in a defer list, which is there once (R111). -/
def deferName (d : Defer) : StationNo × PairNo := (d.station, d.pair)

theorem ok_iff : x.Ok ↔ x.members.length ≤ 32 ∧ (x.members.map memberName).Nodup ∧ x.overflow ≤ 255 ∧
    x.defers.length ≤ 8 ∧ (x.defers.map deferName).Nodup := Iff.rfl

theorem ok_of_bare (hm : y.members = []) (ho : y.overflow = 0) (hd : y.defers = []) : y.Ok := by
  simp [Entry.Ok, hm, ho, hd]

/-- Members and claimants that leave, or are marked, leave the lists in bounds. -/
theorem Ok.of_names {ms : List Member} {ds : List Defer} {n : Nat} (h : x.Ok)
    (hm : (ms.map memberName).Sublist (x.members.map memberName)) (hn : n ≤ 255)
    (hd : (ds.map deferName).Sublist (x.defers.map deferName)) :
    ms.length ≤ 32 ∧ (ms.map memberName).Nodup ∧ n ≤ 255 ∧ ds.length ≤ 8 ∧ (ds.map deferName).Nodup := by
  obtain ⟨short, names, -, few, claimants⟩ := h
  have hml := hm.length_le
  have hdl := hd.length_le
  simp only [List.length_map] at hml hdl
  exact ⟨hml.trans short, names.sublist hm, hn, hdl.trans few, claimants.sublist hd⟩

/-- Marks on entries of a list that leave their names leave the names of the list. -/
theorem names_mark {α β : Type} {name : α → β} {g : α → α} {c : α → Prop} [DecidablePred c]
    (l : List α) (hg : ∀ a, name (g a) = name a := by exact fun _ => rfl) :
    ((l.map fun a => if c a then g a else a).map name).Sublist (l.map name) := by
  rw [List.map_map, List.map_congr_left (g := name) fun a _ => by simp only [Function.comp]; split; exacts [hg a, rfl]]

theorem names_append_nodup {α β : Type} {f : α → β} {l : List α} {a : α} (h : (l.map f).Nodup)
    (ha : ∀ b ∈ l, f b ≠ f a) : ((l ++ [a]).map f).Nodup := by
  rw [List.map_append]
  refine List.nodup_append.2 ⟨h, by simp, fun n hn m hm => ?_⟩
  obtain ⟨b, hb, rfl⟩ := List.mem_map.1 hn
  rw [List.map_singleton, List.mem_singleton] at hm
  exact hm ▸ ha b hb

/-! ### A write that goes on with an entry -/

/-- A write that goes on with an entry: it stays within its bounds, CONFIRMING or not as it was, and in CONFIRMING under its
key. -/
structure Continues (x y : Entry) : Prop where
  ok : x.Ok → y.Ok
  confirming : y.state = .confirming ↔ x.state = .confirming
  key : x.state = .confirming → y.key = x.key

theorem Continues.refl (x : Entry) : x.Continues x := ⟨id, .rfl, fun _ => rfl⟩

theorem Continues.trans {z : Entry} (h : x.Continues y) (k : y.Continues z) : x.Continues z :=
  ⟨k.ok ∘ h.ok, k.confirming.trans h.confirming, fun hx => (k.key (h.confirming.2 hx)).trans (h.key hx)⟩

/-- `Continues.trans` with the later write first. -/
theorem Continues.after {z : Entry} (k : y.Continues z) (h : x.Continues y) : x.Continues z := h.trans k

/-- A write between two states other than CONFIRMING. -/
theorem Continues.of_apart (hx : x.state ≠ .confirming) (hy : y.state ≠ .confirming) (ok : x.Ok → y.Ok) :
    x.Continues y :=
  ⟨ok, iff_of_false hy hx, fun h => absurd h hx⟩

/-- A write that leaves state and key alone. -/
theorem Continues.of_ok (ok : x.Ok → y.Ok) (state : y.state = x.state := by rfl) (key : y.key = x.key := by rfl) :
    x.Continues y :=
  ⟨ok, by rw [state], fun _ => key⟩

theorem Continues.clearIfEmpty (x : Entry) (now : Nat) : x.Continues (x.clearIfEmpty now) := by
  rw [clearIfEmpty_eq]
  split
  · next h => exact .of_apart (by rcases h.1 with h | h <;> simp [h]) nofun id
  · exact .refl x

theorem Continues.releaseKey (x : Entry) : x.Continues x.releaseKey := by
  unfold Entry.releaseKey
  split
  · next h =>
    simp only [Bool.and_eq_true, beq_iff_eq] at h
    exact .of_apart (by simp [h.1.1]) (by simp [h.1.1]) id
  · exact .refl x

theorem Continues.revived (x : Entry) : x.Continues x.revived := by
  unfold Entry.revived
  split
  · next h => exact .of_apart (by simp [h]) (by dsimp only; split <;> nofun) id
  · exact .of_ok id

/-- A claim or join taken (R117). -/
theorem Continues.join (x : Entry) (now : Nat) (st : StationNo) (pr : PairNo) (renew : Bool) :
    x.Continues (x.join now st pr renew) := by
  cases hl : x.lists st pr with
  | true =>
    rw [join_of_listed hl]
    exact .after (.revived _) (.of_ok fun h => h.of_names (names_mark _) h.2.2.1 (.refl _))
  | false =>
    by_cases hn : x.members.length < 32
    · rw [join_of_room hl hn]
      refine .after (.revived _) (.of_ok fun h => ?_)
      obtain ⟨-, names, room, few, claimants⟩ := h
      refine ⟨by simpa using hn, names_append_nodup names fun m hm e => ?_, ?_, few, claimants⟩
      · exact lists_eq_false.1 hl ⟨m, hm, Prod.ext_iff.1 e⟩
      · show (if renew = true then x.overflow - 1 else x.overflow) ≤ 255
        split <;> omega
    · rw [join_of_full hl (by omega)]
      refine .after (.revived _) (.of_ok fun h => ?_)
      obtain ⟨short, names, room, few, claimants⟩ := h
      refine ⟨short, names, ?_, few, claimants⟩
      show (if renew = true then x.overflow else min 255 (x.overflow + 1)) ≤ 255
      split <;> omega

/-- A claim answered in CONFIRMING (R118). -/
theorem Continues.deferClaim (x : Entry) (now : Nat) (st : StationNo) (pr : PairNo) (tag : BitVec 5) (renew : Bool) :
    x.Continues (x.deferClaim now st pr tag renew).1 := by
  cases hl : x.lists st pr with
  | true =>
    rw [deferClaim_of_listed hl]
    exact .of_ok fun h => h.of_names (names_mark _) h.2.2.1 (.refl _)
  | false =>
    by_cases hw : ∃ d ∈ x.defers, d.station = st ∧ d.pair = pr
    · rw [deferClaim_of_waiting hl hw]
      exact .of_ok fun h => h.of_names (.refl _) h.2.2.1
        (names_mark _)
    · by_cases hn : x.defers.length < 8
      · rw [deferClaim_of_room hl hw hn]
        refine .of_ok fun h => ?_
        obtain ⟨short, names, room, -, claimants⟩ := h
        exact ⟨short, names, room, by simpa using hn,
          names_append_nodup claimants fun d hd e => hw ⟨d, hd, Prod.ext_iff.1 e⟩⟩
      · rw [deferClaim_of_full hl hw (by omega)]
        exact .refl x

/-- A LEAVE taken (R119). -/
theorem Continues.leave (x : Entry) (now : Nat) (st : StationNo) (pr : PairNo) : x.Continues (x.leave now st pr) := by
  unfold Entry.leave
  split
  · split
    · exact .of_ok fun h => h.of_names (names_mark _) h.2.2.1 (.refl _)
    · exact .of_ok fun h => h.of_names (List.filter_sublist.map _) h.2.2.1 (.refl _)
  · split
    · exact .of_ok fun h => h.of_names (.refl _) (by have := h.2.2.1; dsimp only; omega) (.refl _)
    · exact .refl x

theorem Continues.filterDefers (x : Entry) (c : Defer → Bool) : x.Continues { x with defers := x.defers.filter c } :=
  .of_ok fun h => h.of_names (.refl _) h.2.2.1 (List.filter_sublist.map _)

theorem Continues.answered (x : Entry) (st : StationNo) (pr : PairNo) : x.Continues (x.answered st pr) :=
  (Continues.filterDefers x _).trans (.releaseKey _)

/-- An entry taken anew, from one that is FREE (R115). -/
theorem Continues.taken (hx : x.state = .free) (k : Key) (now : Nat) (st : StationNo) (pr : PairNo) :
    x.Continues (x.taken k now st pr) :=
  .of_apart (by simp [hx]) nofun fun h =>
    ⟨by simp [Entry.taken], by simp [Entry.taken], by simp [Entry.taken, Entry.empty], h.2.2.2⟩

/-! ### The writes that end an entry or its confirmation -/

theorem ok_empty : Entry.empty.Ok := ok_of_bare rfl rfl rfl

theorem Ok.closed (h : x.Ok) (v : Verdict) (forced : Bool) : (x.closed v forced).Ok :=
  h.of_names (ms := []) (List.nil_sublist _) (Nat.zero_le _) (.refl _)

theorem lostFree_eq_bare (x : Entry) (key : Option Key) :
    (x.lostFree key).state = .free ∧ (x.lostFree key).members = [] ∧ (x.lostFree key).overflow = 0 ∧
      (x.lostFree key).defers = [] := by
  unfold Entry.lostFree
  split <;> exact ⟨rfl, rfl, rfl, rfl⟩

theorem ok_lostFree (x : Entry) (key : Option Key) : (x.lostFree key).Ok := by
  obtain ⟨-, members, overflow, defers⟩ := lostFree_eq_bare x key
  exact ok_of_bare members overflow defers

theorem Ok.concluded (h : x.Ok) (now : Nat) (result : RunResult) : (x.concluded now result).Ok :=
  h.of_names (List.filter_sublist.map _) h.2.2.1 (.refl _)

theorem concluded_state (x : Entry) (now : Nat) (result : RunResult) :
    (x.concluded now result).state ≠ .confirming := by
  simp only [Entry.concluded]
  split <;> nofun

end Entry
end Sys2Proof.Machine
end

section
/-! PROOFS. What each operation does to the incident table and to the confirmation run that stands for one of its entries
(R111, R122, R123, R156): it keeps both agreements (`KeepsTable`), or it closes one entry and ends the run that may stand for
it (`ClosesTable`). Up to all that the station does of its own accord. -/

namespace Sys2Proof.Machine

set_option Elab.async false

namespace State

/-! ### The run and one entry -/

/-- An entry is CONFIRMING exactly when the confirmation run stands for it, and the run holds its key (R122, R156). -/
def RunAgrees (s : State) (e : EntryNo) : Prop :=
  ((s.entry e).state = .confirming ↔ s.bus.run.map Run.entry = some e) ∧
    (s.bus.run.map Run.entry = some e → (s.entry e).key = s.bus.run.map Run.key)

theorem runOk_iff {s : State} : s.RunOk ↔ (s.running = true → ∀ e, s.RunAgrees e) :=
  forall_congr' fun _ => forall_and.symm

/-- The agreement of every entry but one. -/
def RunAgreesOff (s : State) (e : EntryNo) : Prop := s.running = true → ∀ i, i ≠ e → s.RunAgrees i

theorem RunOk.off {s : State} (h : s.RunOk) (e : EntryNo) : s.RunAgreesOff e := fun hr i _ => runOk_iff.1 h hr i

/-- An entry that no run stands for, and that is not CONFIRMING, agrees (R122). -/
theorem RunAgreesOff.runOk {s : State} {e : EntryNo} (h : s.RunAgreesOff e) (hs : (s.entry e).state ≠ .confirming)
    (hr : s.bus.run.map Run.entry ≠ some e) : s.RunOk :=
  runOk_iff.2 fun run i => by
    by_cases hi : i = e
    · exact hi ▸ ⟨iff_of_false hs hr, fun h => absurd h hr⟩
    · exact h run i hi

theorem runOk_of_stopped {s : State} (h : s.running = false) : s.RunOk := fun hr => absurd (h.symm.trans hr) nofun

/-! ### The relations -/

/-- What an operation that goes on with every entry keeps. -/
structure KeepsTable (s t : State) : Prop where
  entries : s.EntriesOk → t.EntriesOk
  run : s.RunOk → t.RunOk

/-- What an operation keeps that ends an entry, with the run that may stand for it (R113, R131). -/
structure ClosesTable (s : State) (e : EntryNo) (t : State) : Prop where
  entries : s.EntriesOk → t.EntriesOk
  run : s.RunAgreesOff e → t.RunOk

theorem ClosesTable.keeps {s t : State} {e : EntryNo} (h : s.ClosesTable e t) : s.KeepsTable t :=
  ⟨h.entries, fun hr => h.run (hr.off e)⟩

theorem ClosesTable.andThen {s t u : State} {e : EntryNo} (h : s.ClosesTable e t) (k : t.KeepsTable u) :
    s.ClosesTable e u :=
  ⟨k.entries ∘ h.entries, k.run ∘ h.run⟩

namespace KeepsTable

theorem refl (s : State) : s.KeepsTable s := ⟨id, id⟩

theorem trans {s t u : State} (h : s.KeepsTable t) (k : t.KeepsTable u) : s.KeepsTable u :=
  ⟨k.entries ∘ h.entries, k.run ∘ h.run⟩

/-- `KeepsTable.trans` with the later operation first, as the term of a composed operation shows it. -/
theorem after {s t u : State} (k : t.KeepsTable u) (h : s.KeepsTable t) : s.KeepsTable u := h.trans k

theorem ite {s t u : State} {c : Prop} [Decidable c] (ht : s.KeepsTable t) (hu : s.KeepsTable u) :
    s.KeepsTable (if c then t else u) := by
  split <;> assumption

theorem foldl {α : Type} {f : State → α → State} (h : ∀ (s : State) (a : α), s.KeepsTable (f s a)) (l : List α)
    (s : State) : s.KeepsTable (l.foldl f s) := by
  induction l generalizing s with
  | nil => exact .refl s
  | cons a rest ih => exact (h s a).trans (ih _)

/-- An operation that writes no entry, no key, no run and no station state. -/
theorem of_table {s t : State} (entries : t.entries = s.entries := by simp) (keys : t.keyStore = s.keyStore := by simp)
    (station : t.station = s.station := by simp) (entry : t.bus.run.map Run.entry = s.bus.run.map Run.entry := by simp)
    (key : t.bus.run.map Run.key = s.bus.run.map Run.key := by simp) : s.KeepsTable t := by
  refine ⟨fun h => ?_, fun h => ?_⟩
  · simpa only [State.EntriesOk, State.entry, entries, keys] using h
  · simpa only [State.RunOk, State.running, State.entry, entries, station, entry, key] using h

/-- The table is emptied and the station runs no longer (R177). -/
theorem of_stop {s t : State} (entries : t.entries = Vector.replicate 8 Entry.empty)
    (keys : t.keyStore = Vector.replicate 8 none) (h : t.running = false) : s.KeepsTable t := by
  refine ⟨fun _ e => ?_, fun _ => runOk_of_stopped h⟩
  have empty : t.entry e = Entry.empty := by simp [State.entry, entries]
  rw [empty, keys]
  exact ⟨Entry.ok_empty, by simp [Entry.empty]⟩

end KeepsTable

/-! ### A write of one entry -/

theorem EntriesOk.writeEntry {s : State} {e : EntryNo} {x : Entry} (h : s.EntriesOk) (hx : x.Ok) :
    (s.writeEntry e x).EntriesOk := fun i => by
  have stored : (s.writeEntry e x).keyStore.get i = if i = e then x.key else s.keyStore.get i := by
    rw [writeEntry_eq]
    simp only [Vector.get_eq_getElem, Vector.getElem_set, Fin.val_inj, eq_comm]
  rw [State.entry_writeEntry, stored]
  split
  · exact ⟨hx, rfl⟩
  · exact h i

theorem RunAgrees.writeEntry {s : State} {e i : EntryNo} (h : s.RunAgrees i) (hi : i ≠ e) (x : Entry) :
    (s.writeEntry e x).RunAgrees i := by
  rw [RunAgrees, State.entry_writeEntry, if_neg hi, State.writeEntry_bus]
  exact h

theorem RunAgreesOff.writeEntry {s : State} {e : EntryNo} (h : s.RunAgreesOff e) (x : Entry) :
    (s.writeEntry e x).RunAgreesOff e :=
  fun hr i hi => (h (by simpa using hr) i hi).writeEntry hi x

/-- A write that goes on with its entry. -/
theorem KeepsTable.writeEntry {s : State} {e : EntryNo} {x : Entry} (h : (s.entry e).Continues x) :
    s.KeepsTable (s.writeEntry e x) := by
  refine ⟨fun hs => hs.writeEntry (h.ok (hs e).1), fun hs => runOk_iff.2 fun hr i => ?_⟩
  have agrees := runOk_iff.1 hs (by simpa using hr)
  by_cases hi : i = e
  · subst hi
    rw [RunAgrees, State.entry_writeEntry_same, State.writeEntry_bus]
    obtain ⟨stands, holds⟩ := agrees i
    exact ⟨h.confirming.trans stands, fun hrun => (h.key (stands.2 hrun)).trans (holds hrun)⟩
  · exact (agrees i).writeEntry hi x

/-! ### Operations that leave the table alone -/

@[simp] theorem endAccess_run (s : State) : s.endAccess.bus.run = s.bus.run := by
  unfold State.endAccess; split <;> simp

@[simp] theorem accepted_run (s : State) : s.accepted.bus.run = s.bus.run := by
  unfold State.accepted; split <;> rfl

namespace KeepsTable

theorem elapseTo (s : State) (t : Nat) : s.KeepsTable (s.elapseTo t) := .of_table
theorem setPair (s : State) (p : Pair) (r : PairRecord) : s.KeepsTable (s.setPair p r) := .of_table
theorem modPair (s : State) (p : Pair) (f : PairRecord → PairRecord) : s.KeepsTable (s.modPair p f) := .of_table
theorem setService (s : State) (p : Pair) (v : Service) : s.KeepsTable (s.setService p v) := .of_table
theorem setReceiver (s : State) (r : ReceiverNo) (x : Receiver) : s.KeepsTable (s.setReceiver r x) := .of_table
theorem setSlot (s : State) (i : Fin 4) (x : Option ReplySlot) : s.KeepsTable (s.setSlot i x) := .of_table
theorem setUnit (s : State) (u : TestUnit) : s.KeepsTable { s with unit := u } := .of_table
theorem setClaim (s : State) (p : Pair) (c : ClaimState) (t : Option Nat) : s.KeepsTable (s.setClaim p c t) := .of_table
theorem holdOff (s : State) (p : Pair) : s.KeepsTable (s.holdOff p) := .setClaim ..
theorem retireTag (s : State) (p : Pair) : s.KeepsTable (s.retireTag p) := .of_table
theorem allocateTag (s : State) (p : Pair) (cls : FaultClass) : s.KeepsTable (s.allocateTag p cls) := .of_table
theorem leaveWaitList (s : State) (p : Pair) : s.KeepsTable (s.leaveWaitList p) := .of_table rfl rfl rfl rfl rfl
theorem callTest (s : State) : s.KeepsTable s.callTest := .of_table
theorem endAccess (s : State) : s.KeepsTable s.endAccess := .of_table
theorem stopUnit (s : State) : s.KeepsTable s.stopUnit := .of_table
theorem accepted (s : State) : s.KeepsTable s.accepted := .of_table
theorem drive (s : State) (c : Cells) : s.KeepsTable (s.drive c) := .of_table
theorem place (s : State) (k : ItemKind) : s.KeepsTable (s.place k) := .of_table
theorem removeItem (s : State) (ref : ItemRef) : s.KeepsTable (s.removeItem ref) := .of_table
theorem updateItem (s : State) (ref : ItemRef) (f : Item → Item) : s.KeepsTable (s.updateItem ref f) := .of_table
theorem withdraw (s : State) (ref : ItemRef) (f : Item → Item) : s.KeepsTable (s.withdraw ref f) := .of_table
theorem placeLineEvents (s : State) (p : Pair) : s.KeepsTable (s.placeLineEvents p) := .of_table

/-- A write to the test bus controller that leaves its run alone. -/
theorem setBus (s : State) {b : TestBus} (h : b.run = s.bus.run := by rfl) : s.KeepsTable { s with bus := b } :=
  .of_table rfl rfl rfl (congrArg _ h) (congrArg _ h)

theorem setView (s : State) (v : BusHolder) : s.KeepsTable (s.setView v) := .setBus s
theorem leaveMine (s : State) (view : BusHolder) : s.KeepsTable (s.leaveMine view) := .of_table rfl rfl rfl rfl rfl
theorem becomeHolder (s : State) : s.KeepsTable s.becomeHolder := .of_table rfl rfl rfl rfl rfl

theorem beginAccess (s : State) (p : Pair) (holder : StationNo) : s.KeepsTable (s.beginAccess p holder) :=
  .of_table rfl rfl rfl rfl rfl

theorem appendEvent (s : State) (p : Pair) (t : EventType) (v : Nat) : s.KeepsTable (s.appendEvent p t v) :=
  .after (.placeLineEvents ..) (.modPair ..)

/-! ### The tone receiver pool (chapter 4) -/

theorem lend (s : State) (r : ReceiverNo) (p : Pair) : s.KeepsTable (s.lend r p) := .of_table rfl rfl rfl rfl rfl

theorem requestReceiver (s : State) (p : Pair) : s.KeepsTable (s.requestReceiver p) := by
  unfold State.requestReceiver
  refine .ite (.refl s) ?_
  split
  exacts [.lend .., .of_table rfl rfl rfl rfl rfl]

theorem releaseReceiver (s : State) (r : ReceiverNo) : s.KeepsTable (s.releaseReceiver r) := by
  have handOn (t : State) (w : Waiting) (rest : List Waiting) : t.KeepsTable
      ((({ t with waitList := rest } : State).lend r w.pair).appendEvent w.pair .receiverLate
        (min 15 ((t.now - w.since) / 1000))) :=
    .after (.appendEvent ..) (.after (.lend ..) (.of_table rfl rfl rfl rfl rfl))
  unfold State.releaseReceiver
  cases (s.receiver r).pair with
  | none => dsimp only; split; exacts [.setReceiver .., handOn ..]
  | some p => dsimp only; split; exacts [.after (.setReceiver ..) (.modPair ..), .after (handOn ..) (.modPair ..)]

theorem dropReceiver (s : State) (p : Pair) : s.KeepsTable (s.dropReceiver p) := by
  unfold State.dropReceiver
  split
  exacts [.releaseReceiver .., .leaveWaitList ..]

theorem reclaimReceiver (s : State) (p : Pair) : s.KeepsTable (s.reclaimReceiver p) := by
  unfold State.reclaimReceiver
  refine (KeepsTable.leaveWaitList s p).trans ?_
  dsimp only
  split
  exacts [.releaseReceiver .., .refl _]

theorem poolMessage (s : State) (p : Pair) (m : PoolMessage) : s.KeepsTable (s.poolMessage p m) := by
  cases m with
  | silent => exact .refl s
  | request => exact .requestReceiver ..
  | release => exact .dropReceiver ..

theorem noteAudio (s : State) (p : Pair) : s.KeepsTable (s.noteAudio p) := by
  unfold State.noteAudio
  split
  exacts [.refl s, .setReceiver ..]

theorem completeBlock (s : State) (r : ReceiverNo) (p : Pair) (samples : List Int) :
    s.KeepsTable (s.completeBlock r p samples) := by
  unfold State.completeBlock
  dsimp only
  split
  · exact .setReceiver ..
  · exact .after (.appendEvent ..) (.after (.modPair ..) (.after (.setReceiver ..) (.setReceiver ..)))

theorem toneBlock (r : ReceiverNo) (samples : Vector Int 80) (s : State) : s.KeepsTable (toneBlock r samples s) := by
  unfold Machine.toneBlock
  refine .ite (.refl s) ?_
  split
  exacts [.refl s, .completeBlock ..]

theorem digitPause (r : ReceiverNo) (s : State) : s.KeepsTable (digitPause r s) := by
  unfold Machine.digitPause
  refine .ite (.refl s) ?_
  split
  exacts [.refl s, .ite (.refl s) (.after (.releaseReceiver ..) (.elapseTo ..))]

theorem noDigit (r : ReceiverNo) (s : State) : s.KeepsTable (noDigit r s) := by
  unfold Machine.noDigit
  refine .ite (.refl s) ?_
  split
  exacts [.ite (.refl s) (.after (.releaseReceiver ..) (.elapseTo ..)), .refl s]

/-! ### Station control (chapter 11) -/

theorem enterFailed (s : State) : s.KeepsTable s.enterFailed := .of_stop rfl rfl rfl

theorem reportIntegrity (s : State) : s.KeepsTable s.reportIntegrity := by
  unfold State.reportIntegrity
  split
  exacts [.of_table rfl rfl rfl rfl rfl, .ite (.enterFailed s) (.of_table rfl rfl rfl rfl rfl)]

/-! ### Claims (chapter 5) -/

theorem claimPending (s : State) (p : Pair) (cls : FaultClass) : s.KeepsTable (s.claimPending p cls) :=
  .after (.ite (.updateItem ..) (.place ..)) (.after (.setClaim ..) (.allocateTag ..))

theorem withdrawClaim (s : State) (p : Pair) : s.KeepsTable (s.withdrawClaim p) :=
  .after (.retireTag ..) (.withdraw ..)

/-! ### Entries that go on (chapter 7) -/

theorem joinEntry (s : State) (e : EntryNo) (st : StationNo) (pr : PairNo) (renew : Bool) :
    s.KeepsTable (s.joinEntry e st pr renew) :=
  .writeEntry (.join ..)

theorem leaveEntry (s : State) (e : EntryNo) (st : StationNo) (pr : PairNo) : s.KeepsTable (s.leaveEntry e st pr) :=
  .ite (.refl s) (.writeEntry (.after (.clearIfEmpty ..) (.leave ..)))

theorem joinOwn (s : State) (e : EntryNo) (p : Pair) (cls : FaultClass) : s.KeepsTable (s.joinOwn e p cls) :=
  .after (.setClaim ..) (.joinEntry ..)

theorem expireEntry (s : State) (e : EntryNo) (st : StationNo) (pr : PairNo) : s.KeepsTable (s.expireEntry e st pr) := by
  have left := Entry.Continues.leave (s.entry e) s.now st pr
  exact .writeEntry (.after (.clearIfEmpty ..) ⟨left.ok, left.confirming, left.key⟩)

theorem answerDefer (e : EntryNo) (s : State) (d : Defer) : s.KeepsTable (State.answerDefer e s d) := by
  have removed : s.KeepsTable (s.writeEntry e
      { s.entry e with defers := (s.entry e).defers.filter fun y => !Defer.isOf d.station d.pair y }) :=
    .writeEntry (.filterDefers ..)
  have marked : s.KeepsTable (s.writeEntry e { s.entry e with
      defers := (s.entry e).defers.map fun y =>
        if Defer.isOf d.station d.pair y then { y with underAnswer := true } else y }) :=
    .writeEntry (.of_ok fun h => h.of_names (.refl _) h.2.2.1 (Entry.names_mark _))
  unfold State.answerDefer
  refine .ite (.refl s) (.ite (.after (.place ..) marked) (removed.trans ?_))
  dsimp only
  split
  · exact .refl _
  · next p _ =>
    refine .ite ((KeepsTable.retireTag _ p).trans ?_) (.refl _)
    split
    exacts [.holdOff .., .joinOwn .., .holdOff ..]

theorem answerDefers (s : State) (e : EntryNo) : s.KeepsTable (s.answerDefers e) :=
  .foldl (KeepsTable.answerDefer e) _ s

theorem unlinkOwn (k : Key) (forced : Bool) (s : State) (p : Pair) : s.KeepsTable (State.unlinkOwn k forced s p) :=
  .ite (.ite (.holdOff s p) (.claimPending s p k.cls)) (.refl s)

theorem withdrawReplies (s : State) (e : EntryNo) : s.KeepsTable (s.withdrawReplies e) := .of_table rfl rfl rfl rfl rfl

end KeepsTable

/-! ### A run abandoned (R113, R144) -/

theorem endLocalAccess_table (s : State) : s.endLocalAccess.entries = s.entries ∧
    s.endLocalAccess.keyStore = s.keyStore ∧ s.endLocalAccess.station = s.station ∧
    s.endLocalAccess.bus.run = s.bus.run := by
  unfold State.endLocalAccess
  (repeat' split) <;> simp

theorem withdrawQuiet_table (s : State) : s.withdrawQuiet.entries = s.entries ∧
    s.withdrawQuiet.keyStore = s.keyStore ∧ s.withdrawQuiet.station = s.station ∧ s.withdrawQuiet.bus = s.bus := by
  unfold State.withdrawQuiet
  (repeat' split) <;> simp

/-- An abandonment ends the run that stands for its entry, and writes no entry (R113). -/
theorem abandonRun_table (s : State) (e : EntryNo) : (s.abandonRun e).entries = s.entries ∧
    (s.abandonRun e).keyStore = s.keyStore ∧ (s.abandonRun e).station = s.station ∧
    (s.abandonRun e).bus.run = if s.bus.run.map Run.entry = some e then none else s.bus.run := by
  have stands : (s.runOf e).isSome = true ↔ s.bus.run.map Run.entry = some e := by
    cases h : s.bus.run <;> simp [State.runOf, h, Option.filter]
  cases hrun : s.runOf e with
  | none => rw [abandonRun_of_none hrun, if_neg (by simp [← stands, hrun])]; exact ⟨rfl, rfl, rfl, rfl⟩
  | some run =>
    rw [if_pos (stands.1 (by simp [hrun]))]
    simp only [State.abandonRun, hrun]
    split
    · exact ⟨rfl, rfl, rfl, rfl⟩
    · obtain ⟨entries, keys, station, run⟩ := endLocalAccess_table s.clearRun
      obtain ⟨entries', keys', station', bus⟩ := withdrawQuiet_table s.clearRun.endLocalAccess
      exact ⟨entries'.trans entries, keys'.trans keys, station'.trans station, (congrArg _ bus).trans run⟩

theorem EntriesOk.abandonRun {s : State} (h : s.EntriesOk) (e : EntryNo) : (s.abandonRun e).EntriesOk := by
  obtain ⟨entries, keys, -, -⟩ := abandonRun_table s e
  simpa only [State.EntriesOk, State.entry, entries, keys] using h

/-- Once its entry is no longer CONFIRMING, the run that is left stands for another. -/
theorem RunAgreesOff.abandonRun {s : State} {e : EntryNo} (h : s.RunAgreesOff e) (hs : (s.entry e).state ≠ .confirming) :
    (s.abandonRun e).RunOk := by
  obtain ⟨entries, -, station, run⟩ := abandonRun_table s e
  have same (i : EntryNo) : (s.abandonRun e).entry i = s.entry i := by simp only [State.entry, entries]
  refine RunAgreesOff.runOk (e := e) (fun hr i hi => ?_) (by rwa [same]) ?_
  · obtain ⟨stands, holds⟩ := h (by simpa only [State.running, station] using hr) i hi
    rw [RunAgrees, same, run]
    split
    · next own =>
      have other : s.bus.run.map Run.entry ≠ some i := by rw [own]; exact fun h => hi (Option.some.inj h).symm
      exact ⟨iff_of_false (mt stands.1 other) nofun, nofun⟩
    · exact ⟨stands, holds⟩
  · rw [run]
    split
    · nofun
    · assumption

/-! ### Entries closed and lost (R113, R131) -/

/-- A write that ends an entry, the run that stands for it abandoned. -/
theorem ClosesTable.abandoned {s : State} {e : EntryNo} {x : Entry} (ok : (s.entry e).Ok → x.Ok)
    (hx : x.state ≠ .confirming) : s.ClosesTable e ((s.writeEntry e x).abandonRun e) :=
  ⟨fun h => (h.writeEntry (ok (h e).1)).abandonRun e,
    fun h => (h.writeEntry x).abandonRun (by rw [State.entry_writeEntry_same]; exact hx)⟩

theorem ClosesTable.closeEntry (s : State) (e : EntryNo) (v : Verdict) (forced : Bool) :
    s.ClosesTable e (s.closeEntry e v forced) := by
  have closed : s.ClosesTable e ((s.writeEntry e ((s.entry e).closed v forced)).abandonRun e) :=
    .abandoned (fun h => h.closed v forced) nofun
  rw [closeEntry_eq]
  refine (closed.andThen ?_).andThen (.answerDefers ..)
  unfold State.unlinkAll
  dsimp only
  split
  exacts [.foldl (KeepsTable.unlinkOwn _ _) _ _, .refl _]

theorem ClosesTable.loseFree (s : State) (e : EntryNo) (x : Entry) (key : Option Key) :
    s.ClosesTable e (s.loseFree e x key) := by
  have lost : s.ClosesTable e ((s.writeEntry e (x.lostFree key)).abandonRun e) :=
    .abandoned (fun _ => Entry.ok_lostFree x key) (by simp [(Entry.lostFree_eq_bare x key).1])
  exact lost.andThen (.ite (.withdraw ..) (.refl _))

theorem ClosesTable.loseEntry (s : State) (e : EntryNo) : s.ClosesTable e (s.loseEntry e) := by
  have unreplied (h : s.RunAgreesOff e) : (s.withdrawReplies e).RunAgreesOff e := h
  have lost : s.ClosesTable e (if (s.entry e).state == .free || (s.keyStore.get e).isNone then
      (s.withdrawReplies e).loseFree e (s.entry e) (s.keyStore.get e)
      else ((s.withdrawReplies e).writeEntry e
        { s.entry e with key := s.keyStore.get e, defers := [] }).closeEntry e .lost false) := by
    split
    · obtain ⟨entries, run⟩ := ClosesTable.loseFree (s.withdrawReplies e) e (s.entry e) (s.keyStore.get e)
      exact ⟨entries ∘ (KeepsTable.withdrawReplies s e).entries, run ∘ unreplied⟩
    · obtain ⟨entries, run⟩ := ClosesTable.closeEntry ((s.withdrawReplies e).writeEntry e
        { s.entry e with key := s.keyStore.get e, defers := [] }) e .lost false
      refine ⟨fun h => entries (((KeepsTable.withdrawReplies s e).entries h).writeEntry ?_),
        fun h => run ((unreplied h).writeEntry _)⟩
      exact (h e).1.of_names (.refl _) (h e).1.2.2.1 (List.nil_sublist _)
  exact lost.andThen (.reportIntegrity _)

namespace KeepsTable

theorem closeEntry (s : State) (e : EntryNo) (v : Verdict) (forced : Bool) : s.KeepsTable (s.closeEntry e v forced) :=
  (ClosesTable.closeEntry ..).keeps

theorem loseEntry (s : State) (e : EntryNo) : s.KeepsTable (s.loseEntry e) := (ClosesTable.loseEntry s e).keeps

theorem readEntry (s : State) (e : EntryNo) : s.KeepsTable (s.readEntry e) := .ite (.refl s) (.loseEntry s e)

/-! ### Claims of this station's own pairs (R85 to R90) -/

theorem localJoin (s : State) (e : EntryNo) (p : Pair) (cls : FaultClass) : s.KeepsTable (s.localJoin e p cls) := by
  have deferred : s.KeepsTable ((s.allocateTag p cls).setClaim p (.deferred s.freeTag) (some (s.now + 10000))) :=
    .after (.setClaim ..) (.allocateTag ..)
  unfold State.localJoin
  refine .ite (.joinOwn ..) (.ite (.after (.setClaim ..) (.writeEntry (.deferClaim ..))) (deferred.trans ?_))
  dsimp only
  split
  · next y h =>
    refine .writeEntry ?_
    have recorded : y = ((s.entry e).deferClaim s.now s.straps.station (pairNo p) (BitVec.ofFin s.freeTag) false).1 := by
      have := congrArg Prod.fst h
      simpa using this.symm
    simpa only [setClaim_entry, allocateTag_entry, recorded] using Entry.Continues.deferClaim ..
  · exact .refl _

theorem claimMake (s : State) (p : Pair) (cls : FaultClass) : s.KeepsTable (s.claimMake p cls) := by
  unfold State.claimMake
  split
  · exact .claimPending ..
  · exact .after (.ite (.refl _) (.ite (.claimPending ..) (.localJoin ..))) (.readEntry ..)

theorem localLeave (s : State) (k : Key) (p : Pair) : s.KeepsTable (s.localLeave k p) := by
  unfold State.localLeave
  split
  · exact .refl s
  · exact .after (.ite (.leaveEntry ..) (.refl _)) (.readEntry ..)

theorem leaveIncident (s : State) (p : Pair) (cls : FaultClass) (owned : Bool) :
    s.KeepsTable (s.leaveIncident p cls owned) :=
  .after (.ite (.localLeave ..) (.after (.place ..) (.withdrawClaim ..))) (.setClaim ..)

theorem endStanding (s : State) (p : Pair) : s.KeepsTable (s.endStanding p) := by
  unfold State.endStanding
  split
  · exact .refl s
  · exact .after (.setClaim ..) (.withdrawClaim ..)
  · exact .after (.setClaim ..) (.retireTag ..)
  · exact .leaveIncident ..
  · exact .setClaim ..

theorem turnClaim (s : State) (p : Pair) (cls : FaultClass) : s.KeepsTable (s.turnClaim p cls) := by
  unfold State.turnClaim
  split
  · exact .after (.claimPending ..) (.retireTag ..)
  · exact .after (.ite (.refl _)
      (.ite (.after (.claimPending ..) (.retireTag ..)) (.after (.localJoin ..) (.withdrawClaim ..)))) (.readEntry ..)

theorem claimFor (s : State) (p : Pair) (cls : FaultClass) : s.KeepsTable (s.claimFor p cls) := by
  unfold State.claimFor
  split
  · exact .claimMake ..
  · exact .ite (.refl s) (.turnClaim ..)
  · exact .ite (.refl s) (.after (.claimMake ..) (.retireTag ..))
  · exact .ite (.refl s) (.after (.ite (.claimMake ..) (.refl _)) (.leaveIncident ..))
  · exact .refl s

theorem faultConsequence (s : State) (p : Pair) (x : FaultStep) : s.KeepsTable (s.faultConsequence p x) := by
  cases x with
  | quiet => exact .refl s
  | entered cls => exact .claimFor ..
  | turned cls => exact .claimFor ..
  | cleared => exact .endStanding ..

/-! ### Becoming owner (R112, R115) -/

theorem gatherAll (s : State) (e : EntryNo) (k : Key) (first : Pair) : s.KeepsTable (s.gatherAll e k first) :=
  .after (.foldl (fun t _ => .ite (.after (.joinOwn ..) (.withdrawClaim ..)) (.refl t)) _ _)
    (.foldl (fun t _ => .ite (.after (.joinOwn ..) (.withdrawClaim ..)) (.refl t)) _ s)

theorem readToTake (s : State) (k : Key) : s.KeepsTable (s.readToTake k) := by
  unfold State.readToTake
  split
  exacts [.refl s, .readEntry ..]

end KeepsTable

/-- An entry found for a key is FREE (R112). -/
theorem entryToTake_free {s : State} {k : Key} {e : EntryNo} (h : s.entryToTake k = some e) :
    (s.entry e).state = .free := by
  unfold State.entryToTake at h
  split at h
  · next hf =>
    cases h
    have := List.find?_some hf
    simp only [Bool.and_eq_true, beq_iff_eq] at this
    exact this.1
  · have := List.find?_some h
    simp only [Bool.and_eq_true, beq_iff_eq] at this
    exact this.1

namespace KeepsTable

theorem becomeOwner (s : State) (k : Key) (p : Pair) : s.KeepsTable (s.becomeOwner k p) := by
  rw [becomeOwner_eq]
  refine .after ?_ (.after (.readToTake _ k) (.readToTake s k) : s.KeepsTable (s.lookForEntry k))
  refine .ite (.refl _) ?_
  split
  · exact .place ..
  · next h =>
    exact .after (.gatherAll ..) (.after (.setClaim ..) (.after (.retireTag ..)
      (.writeEntry (.taken (entryToTake_free h) ..))))

/-! ### Confirmation begins (R122, R123) -/

theorem beginConfirmation {s : State} {e : EntryNo} (h : s.due e = true) : s.KeepsTable (s.beginConfirmation e) := by
  simp only [State.due, Bool.and_eq_true, beq_iff_eq, List.all_eq_true, bne_iff_ne] at h
  have opened : (s.entry e).state = .opened := h.1.1.1.2
  have idle (i : EntryNo) : (s.entry i).state ≠ .confirming := (h.2 i (List.mem_finRange i)).1
  unfold State.beginConfirmation
  dsimp only
  split
  · exact .refl s
  · next k hk =>
    refine .ite (.writeEntry (.of_apart (idle e) nofun id)) (.ite (.writeEntry (.of_ok id)) ?_)
    refine ⟨fun hs => hs.writeEntry (hs e).1, fun hs => runOk_iff.2 fun hr i => ?_⟩
    have agrees := runOk_iff.1 hs (by simpa [State.running] using hr) i
    rw [RunAgrees]
    show ((State.entry (s.writeEntry e _) i).state = .confirming ↔ some e = some i) ∧
      (some e = some i → (State.entry (s.writeEntry e _) i).key = some k)
    rw [State.entry_writeEntry]
    by_cases hi : i = e
    · subst hi; simpa using hk
    · simp [hi, idle i, Ne.symm hi]

theorem dueStep {s t : State} (h : s.dueStep = some t) : s.KeepsTable t := by
  unfold State.dueStep at h
  split at h
  · cases h
  split at h
  · cases h; exact .loseEntry ..
  have due {e : EntryNo} (he : e ∈ allEntries.filter s.due) : s.due e = true := (List.mem_filter.1 he).2
  split at h <;> cases h
  · exact .of_table rfl rfl rfl rfl rfl
  · next hd => exact .beginConfirmation (due (by simp [hd]))
  · next e es _ hd =>
    have drawn : s.KeepsTable { s with choices := s.choices + 1 } := .of_table rfl rfl rfl rfl rfl
    refine drawn.trans (.beginConfirmation ?_)
    show s.due _ = true
    refine due ?_
    rw [hd, List.getD_eq_getElem _ _ (Nat.mod_lt _ (by simp : 0 < (e :: es).length))]
    exact List.getElem_mem _

end KeepsTable

/-! ### Confirmation ends (R124) -/

/-- What a closing leaves of its entry, before the defer list is answered (R113). -/
theorem entry_unlinkAll (s : State) (e : EntryNo) (v : Verdict) (forced : Bool) :
    (s.unlinkAll e v forced).entry e = { (s.entry e).closed v forced with check := true } := by
  have closed : ((s.writeEntry e ((s.entry e).closed v forced)).abandonRun e).entry e =
      { (s.entry e).closed v forced with check := true } := by
    rw [entry_abandonRun, State.entry_writeEntry_same]
  have folded (k : Key) (ps : List Pair) (t : State) : (ps.foldl (State.unlinkOwn k forced) t).entry e = t.entry e := by
    induction ps generalizing t with
    | nil => rfl
    | cons p rest ih => exact (ih _).trans (entry_unlinkOwn ..)
  unfold State.unlinkAll
  dsimp only
  split
  exacts [(folded ..).trans closed, closed]

/-- An entry with no defer entries has none to answer at its closing (R113). -/
theorem closeEntry_of_no_defers {s : State} {e : EntryNo} (h : (s.entry e).defers = []) (v : Verdict) (forced : Bool) :
    s.closeEntry e v forced = s.unlinkAll e v forced := by
  rw [closeEntry_eq, State.answerDefers, defers_unlinkAll, h]
  rfl

/-- An entry lost is FREE, also where its loss fails the station (R131, R177). -/
theorem entry_loseEntry_state (s : State) (e : EntryNo) : ((s.loseEntry e).entry e).state = .free := by
  have reported (t : State) (h : (t.entry e).state = .free) : (t.reportIntegrity.entry e).state = .free := by
    unfold State.reportIntegrity
    split
    · exact h
    · split
      · show (State.entry t.enterFailed e).state = .free
        simp [State.entry, State.enterFailed, Entry.empty]
      · exact h
  refine reported _ ?_
  split
  · have lost : (((s.withdrawReplies e).writeEntry e ((s.entry e).lostFree (s.keyStore.get e))).abandonRun e).entry e =
        { (s.entry e).lostFree (s.keyStore.get e) with check := true } := by
      rw [entry_abandonRun, State.entry_writeEntry_same]
    have free := (Entry.lostFree_eq_bare (s.entry e) (s.keyStore.get e)).1
    unfold State.loseFree
    dsimp only
    split
    · simpa only [State.withdraw_entry, lost] using free
    · simpa only [lost] using free
  · rw [closeEntry_of_no_defers (by simp), entry_unlinkAll]
    rfl

/-- A run whose entry is found lost hands nothing over (R131; log entry 50). -/
theorem concludeRun_of_lost {s : State} {run : Run} (h : s.bus.run = some run) (hc : (s.entry run.entry).check = false)
    (result : RunResult) : s.concludeRun result = s.clearRun.loseEntry run.entry := by
  have read : s.clearRun.readEntry run.entry = s.clearRun.loseEntry run.entry := if_neg (Bool.eq_false_iff.1 hc)
  simp [State.concludeRun, h, read, entry_loseEntry_state]

/-- What a run's end makes of its entry, whose check matches (R124, R125). -/
theorem concludeRun_of_check {s : State} {run : Run} (h : s.bus.run = some run) (hc : (s.entry run.entry).check = true)
    (result : RunResult) : s.concludeRun result =
      if (s.entry run.entry).state ≠ .confirming then s.clearRun
      else if verdictOf result = .notFound then s.clearRun.closeEntry run.entry .notFound true
      else
        let t := (s.clearRun.writeEntry run.entry ((s.entry run.entry).concluded s.now result)).answerDefers run.entry
        if (t.entry run.entry).clearIfEmpty t.now = t.entry run.entry then t
        else t.writeEntry run.entry ((t.entry run.entry).clearIfEmpty t.now) := by
  have read : s.clearRun.readEntry run.entry = s.clearRun := State.readEntry_of_check hc
  simp only [State.concludeRun, h, read, bne_iff_ne, beq_iff_eq]
  rfl

namespace KeepsTable

theorem concludeRun (s : State) (result : RunResult) : s.KeepsTable (s.concludeRun result) := by
  cases hrun : s.bus.run with
  | none => rw [State.concludeRun_of_none hrun]; exact .refl s
  | some run =>
    have off (h : s.RunOk) : s.clearRun.RunAgreesOff run.entry := fun hr i hi => by
      obtain ⟨stands, -⟩ := runOk_iff.1 h hr i
      have other : s.bus.run.map Run.entry ≠ some i := by simpa [hrun] using Ne.symm hi
      exact ⟨iff_of_false (mt stands.1 other) nofun, nofun⟩
    cases hc : (s.entry run.entry).check with
    | false =>
      rw [concludeRun_of_lost hrun hc]
      have lost := ClosesTable.loseEntry s.clearRun run.entry
      exact ⟨lost.entries, lost.run ∘ off⟩
    | true =>
      rw [concludeRun_of_check hrun hc]
      by_cases hs : (s.entry run.entry).state = .confirming
      · rw [if_neg (by simpa using hs)]
        split
        · have closed := ClosesTable.closeEntry s.clearRun run.entry .notFound true
          exact ⟨closed.entries, closed.run ∘ off⟩
        · refine .after (.ite (.refl _) (.writeEntry (.clearIfEmpty ..)))
            (.after (.answerDefers ..) ⟨fun h => ?_, fun h => ?_⟩)
          · exact EntriesOk.writeEntry (s := s.clearRun) h ((h run.entry).1.concluded ..)
          · refine ((off h).writeEntry _).runOk ?_ (by simp [State.clearRun])
            rw [State.entry_writeEntry_same]
            exact (s.entry run.entry).concluded_state s.now result
      · rw [if_pos hs]
        exact ⟨id, fun h => (off h).runOk hs nofun⟩

/-! ### The test bus controller (chapter 8) -/

theorem endTest (s : State) (outcome : TestOutcome) (legs : List LegRecord) : s.KeepsTable (s.endTest outcome legs) := by
  unfold State.endTest
  split
  exacts [.refl s, .after (.place ..) (.setBus s)]

theorem beginMeasurement (s : State) (station : StationNo) (pair : PairNo) (forRun : Bool) :
    s.KeepsTable (s.beginMeasurement station pair forRun) := .ite (.setUnit ..) (.refl s)

theorem accessOwn (s : State) (p : Pair) (forRun : Bool) : s.KeepsTable (s.accessOwn p forRun) :=
  .after (.beginMeasurement ..) (.beginAccess ..)

theorem abandonLocal (s : State) (p : Pair) : s.KeepsTable (s.abandonLocal p) := by
  unfold State.abandonLocal
  split
  · exact .refl s
  · exact .ite (.after (.ite (.setBus _) (.endTest ..)) (.stopUnit s)) (.refl s)

theorem cutAccess (s : State) (p : Pair) : s.KeepsTable (s.cutAccess p) :=
  .ite (.after (.abandonLocal ..) (.endAccess s)) (.refl s)

theorem endLocalAccess (s : State) : s.KeepsTable s.endLocalAccess := by
  obtain ⟨entries, keys, station, run⟩ := endLocalAccess_table s
  exact .of_table entries keys station (congrArg _ run) (congrArg _ run)

theorem loseLock (s : State) (view : BusHolder) : s.KeepsTable (s.loseLock view) :=
  .after (.concludeRun ..) (.after (.ite (.endTest ..) (.refl _))
    (.after (.leaveMine ..) (.after (.withdraw ..) (.endLocalAccess s))))

theorem startTest (s : State) (t : UplinkTest) : s.KeepsTable (s.startTest t) :=
  .ite (.endTest ..) (.ite (.endTest ..) (.after (.accessOwn ..) (.setBus s)))

end KeepsTable

/-- A next action, where there is one, keeps the table. -/
def TableKeptBy (s : State) (o : Option State) : Prop := ∀ t, o = some t → s.KeepsTable t

namespace TableKeptBy

theorem none {s : State} : s.TableKeptBy .none := fun _ h => absurd h (Option.some_ne_none _).symm

theorem some {s t : State} (h : s.KeepsTable t) : s.TableKeptBy (.some t) := fun _ e => Option.some.inj e ▸ h

theorem ite {s : State} {o o' : Option State} {c : Prop} [Decidable c] (h : s.TableKeptBy o) (h' : s.TableKeptBy o') :
    s.TableKeptBy (if c then o else o') := by
  split <;> assumption

theorem visitMember (s : State) (run : Run) (m : Member) : s.TableKeptBy (s.visitMember run m) := by
  have skip : s.TableKeptBy (.some { s with bus := { s.bus with position := s.bus.position + 1 } }) :=
    .some (.setBus s)
  unfold State.visitMember
  refine .ite skip (.ite ?own (.ite .none (.some (.place ..))))
  case own =>
    split
    exacts [skip, .ite skip (.some (.accessOwn ..))]

/-- What the holder does next, by its kind; a run that starts stands for the entry it waited for (R137, R141, R142). -/
theorem holderStep (s : State) : s.TableKeptBy s.holderStep := by
  have placed (k : ItemKind) : s.TableKeptBy (.some (s.place k)) := .some (.place s k)
  have concluded (r : RunResult) : s.TableKeptBy (.some (s.concludeRun r)) := .some (.concludeRun s r)
  have unlocked : s.TableKeptBy (.some { (s.place .unlock) with bus := { s.bus with unlockDue := false } }) :=
    .some (.of_table (by simp) (by simp) (by simp) rfl rfl)
  unfold State.holderStep
  refine .ite .none (.ite ?remote (.ite (.ite .none unlocked) (.ite (.ite .none (placed _)) (.ite .none ?job))))
  case remote =>
    split
    exacts [.ite .none (placed _), .none]
  case job =>
    split
    · next run hrun =>
      have started : s.TableKeptBy (.some { s with bus := { s.bus with
          run := .some { run with deadline := .none }, tested := 0, faulted := 0, position := 0 } }) :=
        .some (.of_table rfl rfl rfl (by simp [hrun]) (by simp [hrun]))
      refine .ite ?_ (.ite .none (.ite (concluded _) started))
      split
      · refine .ite (concluded _) (.ite .none ?_)
        split
        · split
          exacts [.visitMember s _ _, .none]
        · exact .visitMember s _ _
      · exact concluded _
    · refine .ite .none ?_
      split
      · exact .ite (.ite (.some (.endTest ..)) (.some (.startTest ..))) (.ite .none (placed _))
      · exact .ite .none (placed _)

theorem busStep (s : State) : s.TableKeptBy s.busStep := by
  have stale : s.TableKeptBy (.some (s.withdraw .testBus markWithdrawn)) := .some (.withdraw ..)
  unfold State.busStep
  refine .ite .none ?_
  split
  · exact .holderStep s
  · exact .ite stale (.ite (.some (.place ..)) .none)
  · exact .ite stale .none

end TableKeptBy

namespace KeepsTable

theorem nextStep {s t : State} (h : s.nextStep = some t) : s.KeepsTable t := by
  unfold State.nextStep at h
  split at h
  · next hd => cases h; exact .dueStep hd
  · exact TableKeptBy.busStep s t h

theorem settleUpTo (n : Nat) (s : State) : s.KeepsTable (s.settleUpTo n) := by
  induction n generalizing s with
  | zero => exact .refl s
  | succ n ih =>
    unfold State.settleUpTo
    split
    · exact .refl s
    · next t h => exact (KeepsTable.nextStep h).trans (ih t)

theorem settle (s : State) : s.KeepsTable s.settle := .settleUpTo 400 s

theorem settleIf (s : State) (changed : Bool) : s.KeepsTable (s.settleIf changed) := .ite (.settle s) (.refl s)

/-- An operation, and then what the station does of its own accord. -/
theorem settled {s t : State} (h : s.KeepsTable t) : s.KeepsTable t.settle := h.trans (.settle t)

theorem onEntry {s : State} {act : State → State} (e : EntryNo) (h : s.KeepsTable (act s)) :
    s.KeepsTable (s.onEntry e act) :=
  .ite h (.settled (.loseEntry s e))

end KeepsTable
end State
end Sys2Proof.Machine
end

section
/-! PROOFS. The incident table and its run through the frames received, the commands, the outcomes of the frames sent, the test
unit, the scan and the timers: every command keeps both agreements, so every step does (R111, R122, R123, R156). -/

namespace Sys2Proof.Machine

set_option Elab.async false

namespace State
namespace KeepsTable

/-! ### Frames received (chapters 6 to 8) -/

theorem receive {s : State} {act : State → State} (kind : FrameKind) (f : RxFrame)
    (h : ∀ t : State, t.KeepsTable (act t)) : s.KeepsTable (s.receive kind f act) := by
  unfold State.receive
  refine .ite (.refl s) ?_
  split
  · exact .enterFailed s
  · exact .of_table rfl rfl rfl rfl rfl
  · exact .of_table rfl rfl rfl rfl rfl
  · exact .after (h _) (.of_table rfl rfl rfl rfl rfl)

theorem takeLock (f : RxFrame) (ownSeen : Bool) (s : State) : s.KeepsTable (s.takeLock f ownSeen) :=
  .ite (.drive ..) (.ite (.drive ..) (.settled (.after (.setView ..) (.drive ..))))

theorem takeUnlock (s : State) : s.KeepsTable s.takeUnlock :=
  .settled (.after (.ite (.loseLock ..) (.setView ..)) (.drive ..))

theorem takeTestFrame (kind : TestBusFrame) (f : RxFrame) (s : State) : s.KeepsTable (s.takeTestFrame kind f) := by
  have noted : s.KeepsTable (s.noteTestFrame kind f.sender) := by
    cases kind with
    | quiet => exact .ite (.loseLock ..) (.setView ..)
    | release => exact .ite (.loseLock ..) (.setView ..)
    | testResult =>
      unfold State.noteTestFrame
      dsimp only
      split
      exacts [.ite (.setView ..) (.refl s), .refl s, .refl s]
  have quiet (t : State) (pair : PairNo) (confirmation : Bool) (cls : FaultClass) :
      t.KeepsTable (t.answerQuiet f.sender pair confirmation cls) := by
    unfold State.answerQuiet
    split
    · exact .refl t
    · exact .ite (.refl t) (.ite (.drive ..) (.after (.drive ..) (.beginAccess ..)))
  have released (t : State) (pair : PairNo) : t.KeepsTable (t.answerRelease pair) := by
    refine (KeepsTable.drive t ackCell).trans ?_
    unfold State.answerRelease
    dsimp only
    split
    exacts [.refl _, .cutAccess ..]
  refine .settled (.after (.ite ?_ (.refl _)) noted)
  unfold State.answerTestFrame
  split
  exacts [quiet .., released .., .refl _]

theorem answerClaim (s : State) (e : EntryNo) (st : StationNo) (pr : PairNo) (tag : BitVec 5) (renew : Bool) :
    s.KeepsTable (s.answerClaim e st pr tag renew) := by
  unfold State.answerClaim
  refine .ite ?_ (.after (.drive ..) (.joinEntry ..))
  split
  · exact .drive ..
  · next y a _ h =>
    have taken : y = ((s.entry e).deferClaim s.now st pr tag renew).1 := (congrArg Prod.fst h).symm
    exact .after (.drive ..) (.writeEntry (taken ▸ .deferClaim ..))

theorem takeClaim (st : StationNo) (key : Key) (pr : PairNo) (tag : BitVec 5) (renew : Bool) (s : State) :
    s.KeepsTable (s.takeClaim st key pr tag renew) := by
  unfold State.takeClaim
  refine (KeepsTable.drive s ackCell).trans ?_
  dsimp only
  split
  · exact .refl _
  · exact .after (.ite (.refl _) (.ite (.settle _) (.settled (.answerClaim ..)))) (.readEntry ..)

theorem takeLeave (st : StationNo) (key : Key) (pr : PairNo) (s : State) : s.KeepsTable (s.takeLeave st key pr) := by
  unfold State.takeLeave
  refine (KeepsTable.drive s ackCell).trans ?_
  dsimp only
  split
  · exact .refl _
  · exact .after (.ite (.refl _) (.ite (.settle _) (.leaveEntry ..))) (.readEntry ..)

theorem takeDeferredReply (tag : BitVec 5) (pr : PairNo) (key : Key) (joined : Bool) (s : State) :
    s.KeepsTable (s.takeDeferredReply tag pr key joined) := by
  unfold State.takeDeferredReply
  split
  · exact .refl s
  · exact .ite (.after (.ite (.setClaim ..) (.holdOff ..)) (.after (.drive ..) (.retireTag ..))) (.refl s)

theorem hearClosed (key : Key) (forced : Bool) (s : State) (p : Pair) :
    s.KeepsTable (State.hearClosed key forced s p) := by
  unfold State.hearClosed
  refine .ite (.refl s) ?_
  split
  · exact .ite (.after (.ite (.holdOff ..) (.after (.claimMake ..) (.setClaim ..))) (.withdrawClaim ..)) (.refl s)
  · exact .ite (.after (.ite (.holdOff ..) (.after (.claimMake ..) (.setClaim ..))) (.retireTag ..)) (.refl s)
  · exact .refl s

theorem unhandledKindFrame (s : State) : s.KeepsTable (unhandledKindFrame s) :=
  .ite (.of_table rfl rfl rfl rfl rfl) (.refl s)

theorem faultClaimReceived (f : RxFrame) (s : State) : s.KeepsTable (faultClaimReceived f s) := by
  refine .receive _ f fun t => ?_
  split
  exacts [.takeClaim .., .refl t]

theorem leaveReceived (f : RxFrame) (s : State) : s.KeepsTable (leaveReceived f s) := by
  refine .receive _ f fun t => ?_
  split
  exacts [.takeLeave .., .refl t]

theorem deferredReplyReceived (f : RxFrame) (s : State) : s.KeepsTable (deferredReplyReceived f s) := by
  refine .receive _ f fun t => .ite (.refl t) ?_
  split
  exacts [.takeDeferredReply .., .refl t]

theorem incidentSnooped (f : RxFrame) (s : State) : s.KeepsTable (incidentSnooped f s) := by
  refine .receive _ f fun t => ?_
  split
  exacts [.ite (.settled (.foldl (KeepsTable.hearClosed _ _) _ t)) (.refl t), .refl t]

/-! ### Commands and replies (chapter 10) -/

theorem parkPair (s : State) (p : Pair) : s.KeepsTable (s.parkPair p) :=
  .after (.ite (.refl _) (.settled (.after (.setService ..) (.after (.modPair ..) (.dropReceiver ..))))) (.endStanding s p)

theorem unparkPair (s : State) (p : Pair) : s.KeepsTable (s.unparkPair p) :=
  .after (.settleIf ..) (.after (.setService ..) (.after (.modPair ..) (.cutAccess ..)))

theorem doTestPair (s : State) (pr : PairNo) : s.KeepsTable (s.doTestPair pr).state := by
  unfold State.doTestPair
  split
  · exact .refl s
  split
  · exact .refl s
  split
  · exact .refl s
  split
  exacts [.refl s, .setBus s]

theorem doPark (s : State) (pr : PairNo) : s.KeepsTable (s.doPark pr).state := by
  unfold State.doPark
  split
  · exact .refl s
  split
  · exact .refl s
  · exact .refl s
  split
  exacts [.refl s, .parkPair ..]

theorem doUnpark (s : State) (pr : PairNo) : s.KeepsTable (s.doUnpark pr).state := by
  unfold State.doUnpark
  split
  · exact .refl s
  split
  exacts [.refl s, .refl s, .unparkPair ..]

theorem doClearIncident (s : State) (key : Key) : s.KeepsTable (s.doClearIncident key).state := by
  unfold State.doClearIncident
  split
  · exact .refl s
  split
  · exact .settled (.loseEntry ..)
  split
  exacts [.refl s, .settled (.closeEntry ..)]

theorem carryOut (s : State) (c : Command) : s.KeepsTable (s.carryOut c).state := by
  cases c with
  | testPair pr => exact .doTestPair ..
  | park pr => exact .doPark ..
  | unpark pr => exact .doUnpark ..
  | clearIncident key => exact .doClearIncident ..
  | _ => exact .refl s

theorem occupy (s : State) (i : Fin 4) (r : ReplySlot) : s.KeepsTable (s.occupy i r) :=
  .after (.place ..) (.after (.drive ..) (.setSlot ..))

theorem commandReceived (kind : LongKind) (f : RxFrame) (s : State) : s.KeepsTable (commandReceived kind f s) := by
  refine .receive _ f fun t => .ite (.refl t) ?_
  split
  · unfold State.takeCommand
    split
    · exact .refl t
    · exact .ite (.after (.ite (.refl _) (.after (.settleIf ..) (.occupy ..))) (KeepsTable.carryOut t _)) (.occupy ..)
  · exact .refl t

/-! ### Contents and outcomes (chapter 6) -/

theorem incidentQuery (s : State) (key : Key) (page : BitVec 3) : s.KeepsTable (s.incidentQuery key page).1 := by
  unfold State.incidentQuery
  split
  · exact .refl s
  split
  · exact .settled (.loseEntry ..)
  split <;> exact .refl s

theorem buildReply (s : State) (r : ReplySlot) : s.KeepsTable (s.buildReply r).1 := by
  unfold State.buildReply
  split
  · exact .refl s
  split
  exacts [.refl s, .incidentQuery .., .refl s]

theorem buildContent (s : State) (k : ItemKind) : s.KeepsTable (s.buildContent k).1 := by
  cases k with
  | reply i =>
    unfold State.buildContent
    dsimp only
    split
    exacts [.buildReply .., .refl s]
  | lineEvents p => exact KeepsTable.modPair s p fun r => { r with discard := false }
  | incident e =>
    have told (t : State) : t.KeepsTable
        (if !t.running then (t, none) else
          (t.writeEntry e { t.entry e with changed := false }, incidentBody (t.entry e))).1 := by
      split
      · exact .refl t
      · exact KeepsTable.writeEntry (x := { t.entry e with changed := false }) (.of_ok id)
    unfold State.buildContent
    by_cases hc : (s.entry e).check = true
    · simp only [if_pos hc]; exact told s
    · simp only [if_neg hc]; exact .after (told _) (.settled (.loseEntry s e))
  | _ => exact .refl s

theorem contentionStart (s : State) : s.KeepsTable (contentionStart s) := by
  have offered (t : State) (x : Item) : t.KeepsTable (t.offer x) := by
    refine (KeepsTable.buildContent t x.kind).trans ?_
    unfold State.offer
    refine .ite (.refl _) ?_
    split
    exacts [.refl _, .updateItem ..]
  unfold Machine.contentionStart
  refine .ite (.refl s) (.trans (.of_table rfl rfl rfl rfl rfl : s.KeepsTable { s with abandoned := false }) ?_)
  dsimp only
  split
  exacts [.refl _, offered ..]

theorem arbitrationLost (s : State) : s.KeepsTable (arbitrationLost s) := by
  unfold Machine.arbitrationLost
  refine .ite (.refl s) ?_
  split
  · exact .refl s
  · exact .ite (.settled (.removeItem ..)) (.updateItem ..)

theorem dispose (s : State) (x : Item) (o : Outcome) : s.KeepsTable (s.dispose x o).1 := by
  cases o <;> unfold State.dispose <;> dsimp only
  case delivered => exact .removeItem ..
  case busy => split; exacts [.removeItem .., .updateItem ..]
  case failed => split; exacts [.removeItem .., .updateItem ..]

/-- The state an item's own part of an outcome leaves, as the producers take it apart. -/
theorem of_dispose {s t : State} {x : Item} {o : Outcome} {fate : Fate} (h : s.dispose x o = (t, fate)) :
    s.KeepsTable t := by
  simpa [h] using KeepsTable.dispose s x o

theorem lineEventsDone (s : State) (x : Item) (p : Pair) (o : Outcome) : s.KeepsTable (s.lineEventsDone x p o) := by
  unfold State.lineEventsDone
  split
  · next h => exact .of_dispose h
  · next h => exact .after (.placeLineEvents ..) (.after (.ite (.refl _) (.modPair ..)) (.of_dispose h))
  · next h => exact .after (.placeLineEvents ..) (.after (.ite (.refl _) (.modPair ..)) (.of_dispose h))

theorem noAttempt (s : State) (x : Item) : s.KeepsTable (s.noAttempt x) := .ite (.removeItem ..) (.updateItem ..)

theorem faultClaimDone (s : State) (x : Item) (p : Pair) (r : TxResult) : s.KeepsTable (s.faultClaimDone x p r) := by
  have superseded : s.KeepsTable (s.supersededDone x p r) := by
    unfold State.supersededDone
    refine (KeepsTable.noAttempt s x).trans ?_
    dsimp only
    split
    exacts [.ite (.place ..) (.refl _), .refl _]
  unfold State.faultClaimDone
  refine .ite (.noAttempt ..) (.ite superseded ?_)
  split
  · exact .ite (.after (.modPair ..) (.updateItem ..)) (.updateItem ..)
  · exact .after (.modPair ..) (.updateItem ..)
  · exact .after (.ite (.ite (.setClaim ..) (.after (.setClaim ..) (.retireTag ..))) (.settled (.becomeOwner ..)))
      (.removeItem ..)
  · exact .refl s

theorem lockDone (s : State) (x : Item) (keepAlive : Bool) (o : Outcome) : s.KeepsTable (s.lockDone x keepAlive o) := by
  unfold State.lockDone
  refine .ite (.settled (.removeItem ..)) (.ite ?_ ?_)
  · split
    · exact .settled (.after (.accepted _) (.removeItem ..))
    · exact .settled (.after (.loseLock ..) (.removeItem ..))
    · split
      · next h => exact .of_dispose h
      · next h => exact .settled (.after (.loseLock ..) (.of_dispose h))
  · split
    · next h => exact .of_dispose h
    · next h => exact .settled (.after (.becomeHolder _) (.of_dispose h))
    · next h => exact .settled (.of_dispose h)

theorem unlockDone (s : State) (x : Item) (o : Outcome) : s.KeepsTable (s.unlockDone x o) := by
  unfold State.unlockDone
  refine .ite (.settled (.removeItem ..)) ?_
  split
  · next h => exact .of_dispose h
  · next h => exact .settled (.after (.leaveMine ..) (.of_dispose h))

theorem passMember (s : State) (x : Item) : s.KeepsTable (s.passMember x) := .ite (.refl s) (.setBus s)

theorem quietDone (s : State) (x : Item) (st : StationNo) (pr : PairNo) (o : Outcome) :
    s.KeepsTable (s.quietDone x st pr o) := by
  unfold State.quietDone
  refine .ite (.settled (.removeItem ..)) ?_
  split
  · exact .settled (.after (.ite (.refl _) (.beginMeasurement ..))
      (.after (.setBus _) (.after (.accepted _) (.removeItem ..))))
  · exact .settled (.after (.passMember ..) (.after (.accepted _) (.removeItem ..)))
  · split
    · next h => exact .of_dispose h
    · next h => exact .settled (.after (.passMember ..) (.of_dispose h))

theorem releaseDone (s : State) (x : Item) (o : Outcome) : s.KeepsTable (s.releaseDone x o) := by
  unfold State.releaseDone
  refine .ite (.settled (.removeItem ..)) ?_
  split
  · next h => exact .of_dispose h
  · next h => exact .settled (.after (.accepted _) (.after (.setBus _) (.of_dispose h)))
  · next h => exact .settled (.after (.setBus _) (.of_dispose h))

theorem deferredReplyDone (s : State) (x : Item) (e : EntryNo) (st : StationNo) (pr : PairNo) (o : Outcome) :
    s.KeepsTable (s.deferredReplyDone x e st pr o) := by
  have added (t : State) (body : Option Body) : t.KeepsTable (t.addReplied e st pr body) := by
    unfold State.addReplied
    dsimp only
    split
    exacts [.ite (.joinEntry ..) (.refl t), .refl t]
  unfold State.deferredReplyDone
  refine .ite (.settled (.after (.removeItem ..) (.loseEntry ..))) (.ite (.settled (.removeItem ..)) ?_)
  split
  · next h => exact .of_dispose h
  · next h => exact .settled (.after (.writeEntry (.answered ..)) (.after (added ..) (.of_dispose h)))
  · next h => exact .settled (.after (.writeEntry (.answered ..)) (.of_dispose h))

theorem incidentDone (s : State) (x : Item) (e : EntryNo) (o : Outcome) : s.KeepsTable (s.incidentDone x e o) := by
  have left (t : State) : t.KeepsTable (t.incidentLeft e) :=
    .onEntry e (.ite (.place ..) (.ite (.writeEntry (.after (.releaseKey _) (.of_ok id))) (.refl t)))
  unfold State.incidentDone
  split
  · next h => exact .of_dispose h
  · next h => exact .after (left _) (.of_dispose h)

/-- A restart empties the table, and no run stands after it (R171, R174). -/
theorem initialise (s : State) (straps : Straps) (station : StationState) :
    s.KeepsTable (s.initialise straps station) := by
  have empty (e : EntryNo) : (s.initialise straps station).entry e = Entry.empty := by
    simp [State.entry, State.initialise]
  refine ⟨fun _ e => ?_, fun _ => runOk_iff.2 fun _ e => ?_⟩
  · rw [empty]
    exact ⟨Entry.ok_empty, by simp [State.initialise, Entry.empty]⟩
  · rw [RunAgrees, empty]
    exact ⟨iff_of_false nofun nofun, nofun⟩

theorem replyDone (s : State) (x : Item) (i : Fin 4) (o : Outcome) : s.KeepsTable (s.replyDone x i o) := by
  have left (t : State) : t.KeepsTable (t.replyLeft i) := by
    unfold State.replyLeft
    split
    · exact .ite (.initialise ..) (.setSlot ..)
    · exact .refl t
  unfold State.replyDone
  split
  · next h => exact .of_dispose h
  · next h => exact .after (left _) (.of_dispose h)

theorem testResultDone (s : State) (x : Item) (o : Outcome) : s.KeepsTable (s.testResultDone x o) := by
  unfold State.testResultDone
  split
  · next h => exact .of_dispose h
  · next h => exact .after (.ite (.accepted _) (.refl _)) (.after (.setBus _) (.of_dispose h))

theorem produce (s : State) (x : Item) (r : TxResult) : s.KeepsTable (s.produce x r) := by
  unfold State.produce
  dsimp only
  split
  · exact .lineEventsDone ..
  · exact .faultClaimDone ..
  · exact .dispose ..
  · exact .lockDone ..
  · exact .unlockDone ..
  · exact .quietDone ..
  · exact .releaseDone ..
  · exact .deferredReplyDone ..
  · exact .incidentDone ..
  · exact .replyDone ..
  · exact .testResultDone ..

theorem frameOutcome (kind : SentKind) (r : TxResult) (s : State) : s.KeepsTable (frameOutcome kind r s) := by
  have noted : s.KeepsTable (s.noteEnd r) := by
    cases r with
    | collision => exact .ite (.of_table rfl rfl rfl rfl rfl) (.refl s)
    | sent c => exact .of_table rfl rfl rfl rfl rfl
  unfold Machine.frameOutcome
  refine .ite (.refl s) ?_
  split
  exacts [.refl s, .ite (.after (.produce ..) noted) (.refl s)]

theorem frameTruncated (s : State) : s.KeepsTable (frameTruncated s) := by
  have cleared : s.KeepsTable { s with abandoned := false, cells := noCells } := .of_table rfl rfl rfl rfl rfl
  unfold Machine.frameTruncated
  refine .ite (.refl s) ?_
  dsimp only
  split
  exacts [cleared, .after (.produce ..) cleared]

/-! ### The test unit (chapter 9) -/

theorem handOver (s : State) (m : Measurement) (legs : List LegRecord) : s.KeepsTable (s.handOver m legs) := by
  unfold State.handOver
  refine .ite ?_ (.endTest ..)
  split
  exacts [.refl s, .setBus s]

theorem legDone (s : State) (m : Measurement) (l : LegRecord) : s.KeepsTable (s.legDone m l) := by
  unfold State.legDone
  split
  · exact .setUnit ..
  · exact .settled (.after (.ite (.endAccess _) (.refl _)) (.after (.handOver ..) (.after (.setUnit ..) (.stopUnit s))))

theorem calibrationDone (volts : Int) (s : State) : s.KeepsTable (calibrationDone volts s) := by
  unfold Machine.calibrationDone
  refine .ite (.refl s) ?_
  split
  · exact .refl s
  · refine .after (.ite (.settled (.setUnit ..)) ?_) (.elapseTo ..)
    exact .settled (.after (.ite (.endTest ..) (.refl _)) (.after (.ite (.concludeRun ..) (.refl _)) (.setUnit ..)))

theorem legOffReadingDone (volts : Int) (s : State) : s.KeepsTable (legOffReadingDone volts s) := by
  unfold Machine.legOffReadingDone
  refine .ite (.refl s) ?_
  split
  · exact .ite (.refl s) (.after (.ite (.legDone ..) (.setUnit ..)) (.elapseTo ..))
  · exact .refl s

theorem legOnReadingDone (volts : Int) (s : State) : s.KeepsTable (legOnReadingDone volts s) := by
  unfold Machine.legOnReadingDone
  refine .ite (.refl s) ?_
  split
  · split
    exacts [.refl s, .after (.legDone ..) (.elapseTo ..)]
  · exact .refl s

/-! ### The scan (chapters 1 to 3 and 5) -/

theorem dropClaim (s : State) (p : Pair) : s.KeepsTable (s.dropClaim p) := by
  have orphaned : s.KeepsTable (s.orphanClaim p) := by
    unfold State.orphanClaim
    split
    exacts [.ite (.refl s) (.withdraw ..), .refl s]
  have dropped : s.KeepsTable ((s.orphanClaim p).retireTag p) := .after (.retireTag ..) orphaned
  unfold State.dropClaim
  dsimp only
  split
  exacts [.after (.localLeave ..) (.after (.setClaim ..) dropped), dropped]

theorem reinitialise (s : State) (p : Pair) : s.KeepsTable (s.reinitialise p) :=
  .settled (.after (.reportIntegrity _) (.after (.placeLineEvents ..) (.after (.updateItem ..)
    (.after (.modPair ..) (.after (.cutAccess ..) (.after (.reclaimReceiver ..) (.dropClaim s p)))))))

theorem closeIfFull (s : State) (p : Pair) : s.KeepsTable (s.closeIfFull p) :=
  .ite (.after (.settleIf ..) (.after (.faultConsequence ..) (.after (.placeLineEvents ..) (.after (.setPair ..)
    (.ite (.of_table rfl rfl rfl rfl rfl) (.refl s)))))) (.refl s)

theorem evaluateLoop (s : State) (p : Pair) (before : LatchedSet) : s.KeepsTable (s.evaluateLoop p before) :=
  .ite (.refl s) (.after (.settleIf ..) (.after (.faultConsequence ..) (.after (.placeLineEvents ..) (.setPair ..))))

theorem sampleTurn (s : State) (p : Pair) (tip ring : Int) : s.KeepsTable (s.sampleTurn p tip ring) :=
  .after (.noteAudio ..) (.after (.closeIfFull ..) (.after (.evaluateLoop ..)
    (.after (.poolMessage ..) (.after (.placeLineEvents ..) (.setPair ..)))))

theorem scanTurn (p : Pair) (tip ring : Int) (s : State) : s.KeepsTable (scanTurn p tip ring s) := by
  unfold Machine.scanTurn
  refine .ite (.refl s) ?_
  split
  · exact .refl s
  · exact .ite (.refl s) (.reinitialise ..)
  · exact .ite (.reinitialise ..) (.ite (.after (.closeIfFull ..) (.modPair ..)) (.sampleTurn ..))

/-! ### Timers -/

/-- The end of LISTEN_IN leaves a station that runs running (R175). -/
theorem listenInExpiry (s : State) : s.KeepsTable (listenInExpiry s) := by
  unfold Machine.listenInExpiry
  split
  · next t hl _ =>
    refine .settled ⟨fun h => h, fun h _ => h ?_⟩
    simp [State.running, hl]
  · exact .refl s

theorem itemBackoffExpiry (ref : ItemRef) (s : State) : s.KeepsTable (itemBackoffExpiry ref s) := by
  unfold Machine.itemBackoffExpiry
  refine .ite (.refl s) ?_
  split
  · split
    exacts [.ite (.after (.modPair ..) (.elapseTo ..)) (.refl s), .refl s]
  · split
    exacts [.after (.updateItem ..) (.elapseTo ..), .refl s]

theorem claimWaitEnd (s : State) (p : Pair) : s.KeepsTable (s.claimWaitEnd p) := by
  unfold State.claimWaitEnd
  split
  · split
    exacts [.settled (.after (.claimMake ..) (.after (.setClaim ..) (.retireTag ..))), .refl s]
  · exact .ite (.refl s) (.after (.place ..) (.after (.allocateTag ..) (.setClaim ..)))
  · dsimp only
    split
    exacts [.settled (.after (.claimMake ..) (.setClaim ..)), .setClaim ..]
  · exact .refl s

theorem claimWaitsEnd (s : State) (t : Nat) (p : Pair) : s.KeepsTable (s.claimWaitsEnd t p) :=
  .after (.foldl (fun u q => .ite (.claimWaitEnd u q) (.refl u)) _ _) (.elapseTo ..)

theorem deferWaitExpiry (p : Pair) (s : State) : s.KeepsTable (deferWaitExpiry p s) := by
  unfold Machine.deferWaitExpiry
  refine .ite (.refl s) ?_
  split
  exacts [.claimWaitsEnd .., .refl s]

theorem renewTimerExpiry (p : Pair) (s : State) : s.KeepsTable (renewTimerExpiry p s) := by
  unfold Machine.renewTimerExpiry
  refine .ite (.refl s) ?_
  split
  exacts [.ite (.refl s) (.claimWaitsEnd ..), .refl s]

theorem holdOffExpiry (p : Pair) (s : State) : s.KeepsTable (holdOffExpiry p s) := by
  unfold Machine.holdOffExpiry
  refine .ite (.refl s) ?_
  split
  exacts [.claimWaitsEnd .., .refl s]

theorem memberExpiry (e : EntryNo) (st : StationNo) (pr : PairNo) (s : State) :
    s.KeepsTable (memberExpiry e st pr s) := by
  unfold Machine.memberExpiry
  refine .ite (.refl s) ?_
  split
  exacts [.refl s, .after (.onEntry e (.expireEntry ..)) (.elapseTo ..)]

theorem emptyListExpiry (e : EntryNo) (s : State) : s.KeepsTable (emptyListExpiry e s) := by
  have emptied (t : State) : t.KeepsTable (t.writeEntry e (Entry.clearIfEmpty { t.entry e with
      emptyTimer := none, overflow := 0, changed := (t.entry e).changed || (t.entry e).overflow != 0 } t.now)) :=
    .writeEntry (.after (.clearIfEmpty ..) (.of_ok fun h => h.of_names (.refl _) (Nat.zero_le _) (.refl _)))
  unfold Machine.emptyListExpiry
  refine .ite (.refl s) ?_
  split
  exacts [.refl s, .after (.onEntry e (emptied _)) (.elapseTo ..)]

theorem clearHoldExpiry (e : EntryNo) (s : State) : s.KeepsTable (clearHoldExpiry e s) := by
  unfold Machine.clearHoldExpiry
  refine .ite (.refl s) ?_
  split
  exacts [.refl s, .after (.onEntry e (.closeEntry ..)) (.elapseTo ..)]

theorem confirmationRetryExpiry (e : EntryNo) (s : State) : s.KeepsTable (confirmationRetryExpiry e s) := by
  unfold Machine.confirmationRetryExpiry
  refine .ite (.refl s) ?_
  split
  exacts [.refl s, .after (.onEntry e (.settled (.after (.callTest _) (.writeEntry (.of_ok id))))) (.elapseTo ..)]

theorem viewLapse (s : State) : s.KeepsTable (viewLapse s) := by
  unfold Machine.viewLapse
  refine .ite (.refl s) ?_
  split
  exacts [.settled (.after (.setView ..) (.elapseTo ..)), .refl s, .refl s]

theorem keepAliveDue (s : State) : s.KeepsTable (keepAliveDue s) := by
  unfold Machine.keepAliveDue
  refine .ite (.refl s) ?_
  split
  exacts [.refl s, .ite (.after (.place ..) (.elapseTo ..)) (.refl s)]

theorem selfLimitExpiry (s : State) : s.KeepsTable (selfLimitExpiry s) := by
  unfold Machine.selfLimitExpiry
  refine .ite (.refl s) ?_
  split
  exacts [.refl s, .settled (.after (.loseLock ..) (.elapseTo ..))]

theorem restraintExpiry (s : State) : s.KeepsTable (restraintExpiry s) := by
  unfold Machine.restraintExpiry
  refine .ite (.refl s) ?_
  split
  exacts [.refl s, .settled (.after (.setBus _) (.elapseTo ..))]

theorem jobDeadlineExpiry (job : Job) (s : State) : s.KeepsTable (jobDeadlineExpiry job s) := by
  unfold Machine.jobDeadlineExpiry
  refine .ite (.refl s) ?_
  split
  · exact .refl s
  · cases job with
    | confirmation => exact .settled (.after (.concludeRun ..) (.elapseTo ..))
    | uplinkTest => exact .settled (.after (.endTest ..) (.elapseTo ..))

theorem releaseWaitExpiry (s : State) : s.KeepsTable (releaseWaitExpiry s) := by
  unfold Machine.releaseWaitExpiry
  refine .ite (.refl s) ?_
  split
  exacts [.refl s, .settled (.after (.setBus _) (.elapseTo ..))]

theorem selfReleaseExpiry (s : State) : s.KeepsTable (selfReleaseExpiry s) := by
  unfold Machine.selfReleaseExpiry
  refine .ite (.refl s) ?_
  split
  exacts [.refl s, .after (.settleIf ..) (.after (.cutAccess ..) (.elapseTo ..))]

/-! ### Commands and steps -/

/-- The release of the line writes no entry, and the station stops (R172). -/
theorem pinAssert (s : State) : s.KeepsTable (pinAssert s) :=
  ⟨(KeepsTable.endAccess s).entries, fun _ => runOk_of_stopped rfl⟩

theorem idle (s : State) : s.KeepsTable s.idle := .ite (.of_table rfl rfl rfl rfl rfl) (.refl s)

theorem of_next {s t u : State} (h : s.KeepsTable t)
    (e : (Host.Outcome.next t : Host.Outcome State Fault Refusal) = .next u) : s.KeepsTable u := by
  cases e; exact h

/-- Every command keeps the incident table and the run that stands for one of its entries. -/
theorem exec {c : Instr} {s t : State} (h : exec c s = .next t) : s.KeepsTable t := by
  cases c with
  | resetPinAssert => exact .of_next (.pinAssert s) h
  | resetPinRelease straps => exact .of_next (.initialise ..) h
  | listenInExpiry => exact .of_next (.listenInExpiry s) h
  | scanTurn p tip ring => exact .of_next (.scanTurn p tip ring s) h
  | toneBlockComplete r samples => exact .of_next (.toneBlock r samples s) h
  | digitPauseExpiry r => exact .of_next (.digitPause r s) h
  | noDigitExpiry r => exact .of_next (.noDigit r s) h
  | contentionStart => exact .of_next (.contentionStart s) h
  | arbitrationLost => exact .of_next (.arbitrationLost s) h
  | frameTruncated => exact .of_next (.frameTruncated s) h
  | frameCheckedOnly kind f => exact .of_next (.receive _ f .refl) h
  | unhandledKindFrame long kind => exact .of_next (.unhandledKindFrame s) h
  | lockReceived f ownSeen => exact .of_next (.receive _ f (.takeLock f ownSeen)) h
  | unlockReceived f => exact .of_next (.receive _ f .takeUnlock) h
  | faultClaimReceived f => exact .of_next (.faultClaimReceived f s) h
  | leaveReceived f => exact .of_next (.leaveReceived f s) h
  | quietReceived f => exact .of_next (.receive _ f (.takeTestFrame .quiet f)) h
  | releaseReceived f => exact .of_next (.receive _ f (.takeTestFrame .release f)) h
  | testFrameSnooped kind f => exact .of_next (.receive _ f (.takeTestFrame kind f)) h
  | deferredReplyReceived f => exact .of_next (.deferredReplyReceived f s) h
  | incidentSnooped f => exact .of_next (.incidentSnooped f s) h
  | queryPair f | queryIncident f | testPair f | park f | unpark f | clearIncident f | restart f =>
    exact .of_next (.commandReceived _ f s) h
  | lineEventsOutcome r | faultClaimOutcome r | leaveOutcome r | lockOutcome r | unlockOutcome r | quietOutcome r
    | releaseOutcome r | deferredReplyOutcome r | incidentOutcome r | replyOutcome r | testResultOutcome r =>
    exact .of_next (.frameOutcome _ r s) h
  | itemBackoffExpiry ref => exact .of_next (.itemBackoffExpiry ref s) h
  | deferWaitExpiry p => exact .of_next (.deferWaitExpiry p s) h
  | renewTimerExpiry p => exact .of_next (.renewTimerExpiry p s) h
  | holdOffExpiry p => exact .of_next (.holdOffExpiry p s) h
  | memberExpiry e st pr => exact .of_next (.memberExpiry e st pr s) h
  | emptyListExpiry e => exact .of_next (.emptyListExpiry e s) h
  | clearHoldExpiry e => exact .of_next (.clearHoldExpiry e s) h
  | confirmationRetryExpiry e => exact .of_next (.confirmationRetryExpiry e s) h
  | viewLapse => exact .of_next (.viewLapse s) h
  | keepAliveDue => exact .of_next (.keepAliveDue s) h
  | selfLimitExpiry => exact .of_next (.selfLimitExpiry s) h
  | restraintExpiry => exact .of_next (.restraintExpiry s) h
  | jobDeadlineExpiry job => exact .of_next (.jobDeadlineExpiry job s) h
  | releaseWaitExpiry => exact .of_next (.releaseWaitExpiry s) h
  | selfReleaseExpiry => exact .of_next (.selfReleaseExpiry s) h
  | calibrationDone volts => exact .of_next (.calibrationDone volts s) h
  | legOffReadingDone volts => exact .of_next (.legOffReadingDone volts s) h
  | legOnReadingDone volts => exact .of_next (.legOnReadingDone volts s) h

theorem step {s t : State} (h : step s = .next t) : s.KeepsTable t := by
  unfold Machine.step at h
  split at h
  · exact .of_next (.idle s) h
  · next rest _ =>
    have waiting : s.KeepsTable { s with pending := rest } := .of_table rfl rfl rfl rfl rfl
    exact waiting.trans (KeepsTable.exec h)

end KeepsTable
end State

/-- Settles O53: every write of an entry is one that goes on with it, or one that ends it, and both stay in its bounds. -/
theorem stepKeepsEntries : Obligations.StepKeepsEntries := fun _ _ hs h => (State.KeepsTable.step h).entries hs

/-- Settles O57: an entry enters CONFIRMING with the run that stands for it, and leaves it with that run's end. -/
theorem stepKeepsRun : Obligations.StepKeepsRun := fun _ _ hs h => (State.KeepsTable.step h).run hs

end Sys2Proof.Machine
end

section
/-! PROOFS. How a confirmation run concludes (R113, R122, R124, R125): its entry with a member that stays, closed where nothing
was found, and the deadline of a run that waits (R136). -/

namespace Sys2Proof.Machine

set_option Elab.async false

/-! ### The entry that survives (R124) -/

namespace Entry

theorem clearIfEmpty_of_member {x : Entry} (h : x.members ≠ []) (now : Nat) : x.clearIfEmpty now = x := by
  rw [clearIfEmpty_eq, if_neg fun ⟨_, hm, _⟩ => h hm]

theorem revived_members (x : Entry) : x.revived.members = x.members := by
  unfold revived
  split <;> rfl

/-- A join lets no member go (R117). -/
theorem join_members_ne_nil {x : Entry} (h : x.members ≠ []) (now : Nat) (st : StationNo) (pr : PairNo) (renew : Bool) :
    (x.join now st pr renew).members ≠ [] := by
  cases hl : x.lists st pr with
  | true => rw [join_of_listed hl, revived_members]; simpa using h
  | false =>
    by_cases hn : x.members.length < 32
    · rw [join_of_room hl hn, revived_members]; simp
    · rw [join_of_full hl (by omega), revived_members]; exact h

/-- The entry after its confirmation where a member stays: no empty list, so no timer of one (R124). -/
theorem concluded_of_member {x : Entry} (h : ∃ m ∈ x.members, m.leaving = false) (now : Nat) (result : RunResult) :
    (x.members.filter fun m => !m.leaving) ≠ [] ∧ x.concluded now result = { x with
      verdict := verdictOf result
      state := if verdictOf result = .confirmed then .confirmed else .opened
      members := x.members.filter fun m => !m.leaving
      retryTimer := if verdictOf result = .untested ∧ result ≠ .unitFailed then some (now + 60000) else none
      changed := true } := by
  have stays : (x.members.filter fun m => !m.leaving) ≠ [] := by
    obtain ⟨m, hm, hl⟩ := h
    exact List.ne_nil_of_mem (List.mem_filter.2 ⟨hm, by simp [hl]⟩)
  refine ⟨stays, ?_⟩
  simp [concluded, List.isEmpty_iff, stays]

end Entry

namespace State

/-! ### The defer list answered (R125) -/

@[simp] theorem joinOwn_entry_same (s : State) (e : EntryNo) (p : Pair) (cls : FaultClass) :
    (s.joinOwn e p cls).entry e = { (s.entry e).join s.now s.straps.station (pairNo p) false with check := true } := by
  simp [State.joinOwn, State.joinEntry]

/-- The answer of a defer list lets no member go (R117, R125). -/
theorem members_answerDefers {s : State} {e : EntryNo} (h : (s.entry e).members ≠ []) :
    ((s.answerDefers e).entry e).members ≠ [] := by
  have answered (s : State) (d : Defer) (h : (s.entry e).members ≠ []) :
      ((State.answerDefer e s d).entry e).members ≠ [] := by
    unfold State.answerDefer
    dsimp only
    (repeat' split) <;> simp [State.holdOff, h, Entry.join_members_ne_nil]
  have folded (ds : List Defer) (s : State) (h : (s.entry e).members ≠ []) :
      ((ds.foldl (State.answerDefer e) s).entry e).members ≠ [] := by
    induction ds generalizing s with
    | nil => exact h
    | cons d rest ih => exact ih _ (answered s d h)
  exact folded _ s h

/-! ### The end of a run -/

section Concludes

variable {s : State} {run : Run} {result : RunResult} (hrun : s.bus.run = some run)
  (hc : (s.entry run.entry).check = true) (hs : (s.entry run.entry).state = .confirming)
include hrun hc hs

/-- An entry that is not closed, and has a member that stays, is written once and its defer list answered (R124, R125). -/
theorem concludeRun_of_member (hm : ∃ m ∈ (s.entry run.entry).members, m.leaving = false)
    (hv : verdictOf result ≠ .notFound) : s.concludeRun result =
      (s.clearRun.writeEntry run.entry { s.entry run.entry with
        verdict := verdictOf result
        state := if verdictOf result = .confirmed then .confirmed else .opened
        members := (s.entry run.entry).members.filter fun m => !m.leaving
        retryTimer := if verdictOf result = .untested ∧ result ≠ .unitFailed then some (s.now + 60000) else none
        changed := true }).answerDefers run.entry := by
  obtain ⟨stays, concluded⟩ := Entry.concluded_of_member hm s.now result
  rw [concludeRun_of_check hrun hc, if_neg (by simpa using hs), if_neg hv, concluded]
  exact if_pos (Entry.clearIfEmpty_of_member (members_answerDefers (by simpa using stays)) _)

/-- Where nothing was found the entry is closed, forced, and there is no run left to abandon (R113, R124). -/
theorem concludeRun_of_notFound {k : Key} (hk : (s.entry run.entry).key = some k) (hv : verdictOf result = .notFound) :
    s.concludeRun result = (allPairs.foldl (State.unlinkOwn k true)
      (s.clearRun.writeEntry run.entry ((s.entry run.entry).closed .notFound true))).answerDefers run.entry := by
  have none : (s.clearRun.writeEntry run.entry ((s.entry run.entry).closed .notFound true)).bus.run = none := by
    rw [State.writeEntry_bus]; rfl
  have unlinked : s.clearRun.unlinkAll run.entry .notFound true = allPairs.foldl (State.unlinkOwn k true)
      ((s.clearRun.writeEntry run.entry ((s.entry run.entry).closed .notFound true)).abandonRun run.entry) := by
    rw [State.unlinkAll, show (s.clearRun.entry run.entry).key = some k from hk]
    rfl
  rw [concludeRun_of_check hrun hc, if_neg (by simpa using hs), if_pos hv, closeEntry_eq, unlinked,
    abandonRun_of_none (runOf_of_none none _)]

end Concludes

/-- A waiting run hands back at its deadline that the lock was not obtained (R136). -/
theorem jobDeadlineExpiry_of_run {s : State} {run : Run} {t : Nat} (hr : s.running = true) (hm : s.bus.view ≠ .mine)
    (h : s.bus.run = some run) (hd : run.deadline = some t) :
    jobDeadlineExpiry .confirmation s = ((s.elapseTo t).concludeRun .noLock).settle := by
  simp [jobDeadlineExpiry, hr, State.deadlineApplies, hm, jobDeadline, h, hd]

end State

/-- The verdict of the counts, as R124 lists it. -/
theorem verdictOf_counts (tested faulted : Nat) :
    (2 ≤ faulted ∨ (faulted = 1 ∧ tested = 1) → verdictOf (.counts tested faulted) = .confirmed) ∧
    (faulted = 1 → 2 ≤ tested → verdictOf (.counts tested faulted) = .partly) ∧
    (faulted = 0 → 1 ≤ tested → verdictOf (.counts tested faulted) = .notFound) ∧
    (faulted = 0 → tested = 0 → verdictOf (.counts tested faulted) = .untested) := by
  refine ⟨fun h => ?_, fun h ht => ?_, fun h ht => ?_, fun h ht => ?_⟩ <;> simp only [verdictOf]
  · exact if_pos h
  · rw [if_neg (by omega), if_pos h]
  · rw [if_neg (by omega), if_neg (by omega), if_pos ht]
  · rw [if_neg (by omega), if_neg (by omega), if_neg (by omega)]

/-- Settles O43: the verdict of the result, and the entry written once by it or closed. -/
theorem runConcludes : Obligations.RunConcludes := by
  intro s e k d hrun hs hk hc hm x rest free stays
  have stay (result : RunResult) (hv : verdictOf result ≠ .notFound) : s.concludeRun result =
      stays (verdictOf result) (if verdictOf result = .confirmed then .confirmed else .opened)
        (if verdictOf result = .untested ∧ result ≠ .unitFailed then some (s.now + 60000) else none) :=
    State.concludeRun_of_member hrun hc hs hm hv
  refine ⟨fun tested faulted => ?_, stay .noLock nofun, stay .unitFailed nofun, fun t hr hview hd => ?_⟩
  · obtain ⟨confirmed, partly, notFound, untested⟩ := verdictOf_counts tested faulted
    refine ⟨fun h => ?_, fun h ht => ?_, fun h ht => ?_, fun h ht => ?_⟩
    · rw [stay _ (by rw [confirmed h]; nofun), confirmed h]
      rfl
    · rw [stay _ (by rw [partly h ht]; nofun), partly h ht]
      rfl
    · exact State.concludeRun_of_notFound hrun hc hs hk (notFound h ht)
    · rw [stay _ (by rw [untested h ht]; nofun), untested h ht]
      rfl
  · exact congrArg Host.Outcome.next (State.jobDeadlineExpiry_of_run hr hview hrun hd)

end Sys2Proof.Machine
end

section
/-! PROOFS. When a confirmation is due and how it begins (R122, R123), and what calls for a test of R122 and what lets the call
stand (log entry 20). -/

namespace Sys2Proof.Machine

set_option Elab.async false

namespace State

/-! ### Due (R122) -/

theorem verdictDue_iff (x : Entry) (failed : Bool) : x.verdictDue failed = true ↔
    x.verdict = .unjudged ∨ (x.verdict = .untested ∧ x.retryTimer = none ∧ failed = false) ∨
      (x.verdict = .partly ∧ x.membersAtAttempt + 2 ≤ x.members.length) := by
  cases h : x.verdict <;> simp [Entry.verdictDue, h]

theorem due_iff (s : State) (e : EntryNo) : s.due e = true ↔
    s.station = .active ∧ (s.entry e).state = .opened ∧ 3 ≤ (s.entry e).members.length ∧
      ((s.entry e).verdict = .unjudged ∨
        ((s.entry e).verdict = .untested ∧ (s.entry e).retryTimer = none ∧ s.unit.failed = false) ∨
        ((s.entry e).verdict = .partly ∧ (s.entry e).membersAtAttempt + 2 ≤ (s.entry e).members.length)) ∧
      (∀ i : EntryNo, (s.entry i).state ≠ .confirming) ∧
      (∀ i : EntryNo, ∀ d ∈ (s.entry i).defers, d.underAnswer = false) := by
  simp only [State.due, Bool.and_eq_true, beq_iff_eq, decide_eq_true_eq, ge_iff_le, verdictDue_iff, List.all_eq_true,
    allEntries, List.mem_finRange, forall_const, bne_iff_ne, Bool.not_eq_eq_eq_not, Bool.not_true, forall_and, and_assoc]

/-! ### Confirmation begins (R123) -/

section Begins

variable {s : State} {e : EntryNo} {k : Key} (hk : (s.entry e).key = some k)
include hk

theorem beginConfirmation_feedLoss (hc : k.cls = .feedLoss) : s.beginConfirmation e = s.writeEntry e { s.entry e with
    membersAtAttempt := (s.entry e).members.length, changed := true, state := .confirmed, verdict := .confirmed } := by
  simp [State.beginConfirmation, hk, hc]

theorem beginConfirmation_unitFailed (hc : k.cls ≠ .feedLoss) (hu : s.unit.failed = true) :
    s.beginConfirmation e = s.writeEntry e { s.entry e with
      membersAtAttempt := (s.entry e).members.length, changed := true, verdict := .untested, retryTimer := none } := by
  simp [State.beginConfirmation, hk, hc, hu]

theorem beginConfirmation_run (hc : k.cls ≠ .feedLoss) (hu : s.unit.failed = false) :
    s.beginConfirmation e =
      { s.writeEntry e { s.entry e with
          membersAtAttempt := (s.entry e).members.length, changed := true, state := .confirming } with
        bus := { s.bus with
          run := some { entry := e, key := k, deadline := some (s.now + 30000) }, tested := 0, faulted := 0
          position := 0 } } := by
  simp [State.beginConfirmation, hk, hc, hu]

end Begins

/-! ### The test made (R122) -/

section Test

variable {s : State} (ha : s.station = .active) (ht : s.dueTest = true) (hc : ∀ i : EntryNo, (s.entry i).check = true)
include ha ht hc

/-- A test that finds every check right begins the confirmation of an entry that is due, or is over. -/
theorem nextStep_of_called : s.nextStep = some (match allEntries.filter s.due with
    | [] => { s with dueTest := false }
    | [e] => s.beginConfirmation e
    | e :: es => State.beginConfirmation { s with choices := s.choices + 1 }
        ((e :: es).getD (Config.duePick s.choices % (e :: es).length) e)) := by
  have sound : (allEntries.find? fun e => !(s.entry e).check) = none := by simp [hc]
  unfold State.nextStep State.dueStep
  simp only [ha, ht, sound]
  rcases allEntries.filter s.due with _ | ⟨e, _ | ⟨i, es⟩⟩ <;> rfl

theorem nextStep_of_none_due (hd : ∀ e : EntryNo, s.due e = false) : s.nextStep = some { s with dueTest := false } := by
  rw [State.nextStep, dueStep_of_none_due ha ht hc hd]

/-- Entries stand once in the list of those that are due. -/
theorem nextStep_of_one_due {e : EntryNo} (he : s.due e = true) (only : ∀ i : EntryNo, s.due i = true → i = e) :
    s.nextStep = some (s.beginConfirmation e) := by
  have due : allEntries.filter s.due = [e] := by
    have mem (i : EntryNo) : i ∈ allEntries.filter s.due ↔ i ∈ [e] := by
      simp only [List.mem_filter, allEntries, List.mem_finRange, true_and, List.mem_singleton]
      exact ⟨only i, fun h => h ▸ he⟩
    exact List.perm_singleton.1 ((List.perm_ext_iff_of_nodup ((List.nodup_finRange 8).filter _) (by simp)).2 mem)
  rw [nextStep_of_called ha ht hc, due]

theorem nextStep_of_several_due {e i : EntryNo} (he : s.due e = true) (hi : s.due i = true) (hne : e ≠ i) :
    ∃ j : EntryNo, s.due j = true ∧
      s.nextStep = some (State.beginConfirmation { s with choices := s.choices + 1 } j) := by
  have mem {j : EntryNo} : j ∈ allEntries.filter s.due ↔ s.due j = true := by simp [allEntries]
  rw [nextStep_of_called ha ht hc]
  rcases hl : allEntries.filter s.due with _ | ⟨a, _ | ⟨b, es⟩⟩
  · exact absurd (mem.2 he) (by simp [hl])
  · have only {j : EntryNo} (hj : s.due j = true) : j = a := by simpa [hl] using mem.2 hj
    exact absurd ((only he).trans (only hi).symm) hne
  · refine ⟨_, mem.1 ?_, rfl⟩
    rw [hl, List.getD_eq_getElem _ _ (Nat.mod_lt _ (by simp : 0 < (a :: b :: es).length))]
    exact List.getElem_mem _

end Test

/-! ### A call stands until its test is made (log entry 20) -/

/-- An operation that makes no test lets a call for one stand. -/
def LetsCallStand (s t : State) : Prop := s.dueTest = true → t.dueTest = true

theorem LetsCallStand.foldl {α : Type} {f : State → α → State} (h : ∀ (s : State) (a : α), s.LetsCallStand (f s a))
    (l : List α) (s : State) : s.LetsCallStand (l.foldl f s) := by
  induction l generalizing s with
  | nil => exact id
  | cons a rest ih => exact fun hs => ih _ (h s a hs)

@[simp] theorem joinOwn_dueTest (s : State) (e : EntryNo) (p : Pair) (cls : FaultClass) :
    (s.joinOwn e p cls).dueTest = (s.dueTest ||
      (s.entry e).callsTest ((s.entry e).join s.now s.straps.station (pairNo p) false)) := by
  simp [State.joinOwn, State.joinEntry]

theorem LetsCallStand.answerDefers (s : State) (e : EntryNo) : s.LetsCallStand (s.answerDefers e) :=
  .foldl (fun s d hs => by
    unfold State.answerDefer
    dsimp only
    (repeat' split) <;> simp [State.holdOff, hs]) _ s

theorem LetsCallStand.unlinkOwn (k : Key) (forced : Bool) (s : State) (p : Pair) :
    s.LetsCallStand (State.unlinkOwn k forced s p) := fun hs => by
  unfold State.unlinkOwn State.holdOff State.claimPending
  dsimp only
  (repeat' split) <;> simp [hs]

theorem LetsCallStand.closeEntry (s : State) (e : EntryNo) (v : Verdict) (forced : Bool) :
    s.LetsCallStand (s.closeEntry e v forced) := fun hs => by
  refine LetsCallStand.answerDefers _ e ?_
  have begun : ((s.writeEntry e ((s.entry e).closed v forced)).abandonRun e).dueTest = true := by simp [hs]
  show (s.unlinkAll e v forced).dueTest = true
  unfold State.unlinkAll
  dsimp only
  split
  exacts [LetsCallStand.foldl (LetsCallStand.unlinkOwn _ _) _ _ begun, begun]

/-- The end of a confirmation calls for a test (R122). -/
theorem concludeRun_dueTest {s : State} {run : Run} (h : s.bus.run = some run) (hc : (s.entry run.entry).check = true)
    (result : RunResult) : (s.concludeRun result).dueTest = true := by
  rw [concludeRun_of_check h hc]
  dsimp only
  split
  · rfl
  split
  · exact LetsCallStand.closeEntry s.clearRun _ _ _ rfl
  · have answered (x : Entry) : ((s.clearRun.writeEntry run.entry x).answerDefers run.entry).dueTest = true :=
      LetsCallStand.answerDefers _ _ (by simp)
    split
    · exact answered _
    · simp [answered]

end State

/-- Settles O44: R122's conditions as the model lists them, the three beginnings, the test as one equation for the list of the
entries that are due, and what calls for one. -/
theorem confirmationDueAndBegun : Obligations.ConfirmationDueAndBegun := by
  refine ⟨State.due_iff, fun s e k hk => ?begins, fun s ha ht hc => ?test, fun s e y => ?write,
    fun s run result h hc => ?ends, fun s => State.nextStep_of_not_called⟩
  case begins =>
    exact ⟨State.beginConfirmation_feedLoss hk, State.beginConfirmation_unitFailed hk, State.beginConfirmation_run hk⟩
  case test =>
    exact ⟨State.nextStep_of_none_due ha ht hc, fun e => State.nextStep_of_one_due ha ht hc,
      fun e i => State.nextStep_of_several_due ha ht hc⟩
  case write =>
    show (s.writeEntry e y).dueTest = true ↔ _
    simp [Entry.callsTest]
  case ends =>
    have stands : s.runOf run.entry = some run := State.runOf_of_own h
    exact ⟨State.concludeRun_dueTest h hc result, by simp [stands]⟩

end Sys2Proof.Machine
end

section
/-! PROOFS. The timers of an incident entry whose check matches, as they run out (R113, R119 to R122, R124, R125). -/

namespace Sys2Proof.Machine

set_option Elab.async false

/-! ### A member that expires (R119, R120) -/

namespace Entry

variable {x : Entry} {now : Nat} {st : StationNo} {pr : PairNo}

/-- Outside CONFIRMING a listed member that expires leaves, the changed flag set (R119, R120). -/
theorem leave_expired (h : x.lists st pr = true) (hs : x.state ≠ .confirming) :
    ({ x.leave now st pr with changed := true } : Entry) = { x with
      members := x.members.filter fun m => !(m.station == st && m.pair == pr), changed := true
      emptyTimer := if x.members.filter (fun m => !(m.station == st && m.pair == pr)) = [] then some (now + 150000)
        else x.emptyTimer } := by
  rw [leave_of_listed h hs]

/-- In CONFIRMING it is marked, the changed flag set also where it was marked before (R119, R120). -/
theorem leave_expired_confirming (h : x.lists st pr = true) (hs : x.state = .confirming) :
    ({ x.leave now st pr with changed := true } : Entry) = { x with
      members := x.members.map fun m => if m.station = st ∧ m.pair = pr then { m with leaving := true } else m
      changed := true } := by
  simp [leave, h, hs, Member.isOf_iff]

end Entry

namespace State

section Timers

variable {s : State} {e : EntryNo} {t : Nat} (hr : s.running = true) (hc : (s.entry e).check = true)
include hr hc

theorem memberExpiry_of_member {st : StationNo} {pr : PairNo} {m : Member} (hst : st ≠ s.straps.station)
    (hs : (s.entry e).state ≠ .free) (hm : (s.entry e).members.find? (Member.isOf st pr) = some m) :
    memberExpiry e st pr s = (s.elapseTo (m.renewed + 150000)).expireEntry e st pr := by
  have read : ((s.elapseTo (m.renewed + 150000)).entry e).check = true := hc
  simp [memberExpiry, hr, hst, Entry.timed_of_check hc, hs, hm, onEntry_of_check read]

theorem emptyListExpiry_of_timer (hs : (s.entry e).state ≠ .free) (ht : (s.entry e).emptyTimer = some t) :
    emptyListExpiry e s = (s.elapseTo t).writeEntry e (Entry.clearIfEmpty { s.entry e with
      emptyTimer := none, overflow := 0
      changed := (s.entry e).changed || (s.entry e).overflow != 0 } (s.elapseTo t).now) := by
  have read : ((s.elapseTo t).entry e).check = true := hc
  simp [emptyListExpiry, hr, Entry.timed_of_check hc, hs, ht, onEntry_of_check read]

theorem clearHoldExpiry_of_timer (hs : (s.entry e).state = .clearing) (ht : (s.entry e).clearHold = some t) :
    clearHoldExpiry e s = (s.elapseTo t).closeEntry e (s.entry e).verdict false := by
  have read : ((s.elapseTo t).entry e).check = true := hc
  simp [clearHoldExpiry, hr, Entry.timed_of_check hc, hs, ht, onEntry_of_check read]

theorem confirmationRetryExpiry_of_timer (hs : (s.entry e).state ≠ .free) (ht : (s.entry e).retryTimer = some t) :
    confirmationRetryExpiry e s =
      ((s.elapseTo t).writeEntry e { s.entry e with retryTimer := none }).callTest.settle := by
  have read : ((s.elapseTo t).entry e).check = true := hc
  simp [confirmationRetryExpiry, hr, Entry.timed_of_check hc, hs, ht, onEntry_of_check read]

end Timers

/-- A closing, its key known, up to the answer of the defer list (R113). -/
theorem closeEntry_of_key {s : State} {e : EntryNo} {k : Key} (hk : (s.entry e).key = some k) (v : Verdict)
    (forced : Bool) : s.closeEntry e v forced = (allPairs.foldl (State.unlinkOwn k forced)
      ((s.writeEntry e ((s.entry e).closed v forced)).abandonRun e)).answerDefers e := by
  rw [closeEntry_eq, State.unlinkAll, hk]

end State

/-- Settles O41: each timer reads its entry and writes it once, or closes it. -/
theorem entryTimers : Obligations.EntryTimers := by
  intro s e hr hc x written
  have write (now : Nat) (y : Entry) :
      written now y = ({ s with now := now } : State).writeEntry e (y.clearIfEmpty now) := by
    rw [Entry.clearIfEmpty_eq]
  refine ⟨fun st pr m hst hm => ?member, fun t ht hs => ?empty, fun t k ht hs hk => ?hold, fun t ht hs => ?retry⟩
  case member =>
    intro now rest
    have listed : x.lists st pr = true := by
      have found := List.find?_some hm
      simp only [Bool.and_eq_true, beq_iff_eq] at found
      exact Entry.lists_iff.2 ⟨m, List.mem_of_find?_eq_some hm, found⟩
    have expired (hs : x.state ≠ .free) : exec (.memberExpiry e st pr) s = .next
        (({ s with now := now } : State).writeEntry e
          (({ x.leave now st pr with changed := true } : Entry).clearIfEmpty now)) :=
      congrArg Host.Outcome.next (State.memberExpiry_of_member hr hc hst hs hm)
    refine ⟨fun hs => ?_, fun hs => ?_⟩
    · have apart : x.state ≠ .free ∧ x.state ≠ .confirming := by rcases hs with h | h | h <;> simp [h]
      rw [expired apart.1, Entry.leave_expired listed apart.2, write]
    · rw [expired (by simp [hs]), Entry.leave_expired_confirming listed hs, write]
  case empty =>
    rw [write]
    exact congrArg Host.Outcome.next (State.emptyListExpiry_of_timer hr hc hs ht)
  case hold =>
    refine congrArg Host.Outcome.next ((State.clearHoldExpiry_of_timer hr hc hs ht).trans ?_)
    exact State.closeEntry_of_key (s := s.elapseTo t) hk _ _
  case retry =>
    exact congrArg Host.Outcome.next (State.confirmationRetryExpiry_of_timer hr hc hs ht)

end Sys2Proof.Machine
end

section
/-! PROOFS. TEST PAIR and CLEAR INCIDENT at their taking (R113, R125, R130, R136, R160, R161, R167, R170). -/

namespace Sys2Proof.Machine

set_option Elab.async false

/-! ### A command that starts a job (R160, R167) -/

/-- A command carried out with ACCEPTED is answered, and the job it starts goes on. -/
theorem takeCommand_of_accepted {s u : State} {i : Fin 4} {sender : StationNo} {field : BitVec 2} {cmd : Command}
    {word : Option Int} (hi : s.freeSlot = some i) (ha : authorised sender field cmd = true)
    (hx : s.carryOut cmd = { state := u, status := some .accepted, previousWord := word }) (hr : u.running = true) :
    s.takeCommand sender field cmd = (u.occupy i
      { command := cmd, sender := sender, status := some .accepted, previousWord := word
        stationAtTaking := keptStation s cmd, restartMark := cmd == .restart }).settle := by
  simp [State.takeCommand, hi, ha, hx, hr, State.settleIf]

/-- A craft terminal's level is enough for TEST PAIR (R161). -/
theorem authorised_testPair {sender : StationNo} {field : BitVec 2}
    (h : max field.toNat (if sender = 15 then 0 else if sender = 14 then 1 else 2) ≤ 1) (pr : PairNo) :
    authorised sender field (.testPair pr) = true :=
  decide_eq_true (show max field.toNat _ ≤ _ from h)

section TestPair

variable {s : State} {pr : PairNo} {p : Pair}

theorem carryOut_testPair_unnamed (h : toPair pr = none) :
    s.carryOut (.testPair pr) = { state := s, status := some .absent, previousWord := none } := by
  simp [State.carryOut, State.doTestPair, h]

variable (h : toPair pr = some p)
include h

theorem carryOut_testPair_absent (hs : s.service p = .absent) :
    s.carryOut (.testPair pr) = { state := s, status := some .absent, previousWord := none } := by
  simp [State.carryOut, State.doTestPair, h, hs]

variable (hs : s.service p ≠ .absent)
include hs

theorem carryOut_testPair_unitFailed (hu : s.unit.failed = true) :
    s.carryOut (.testPair pr) = { state := s, status := some .unitFailed, previousWord := none } := by
  simp [State.carryOut, State.doTestPair, h, hs, hu]

variable (hu : s.unit.failed = false)
include hu

theorem carryOut_testPair_busy (ht : s.bus.test.isSome = true) :
    s.carryOut (.testPair pr) = { state := s, status := some .busy, previousWord := none } := by
  simp [State.carryOut, State.doTestPair, h, hs, hu, ht]

theorem carryOut_testPair_accepted (ht : s.bus.test = none) : s.carryOut (.testPair pr) =
    { state := { s with bus := { s.bus with test := some { pair := p, phase := .waiting (s.now + 30000) } } }
      status := some .accepted, previousWord := none } := by
  simp [State.carryOut, State.doTestPair, h, hs, hu, ht]

end TestPair

/-! ### CLEAR INCIDENT (R130, R170) -/

section ClearIncident

variable {s : State} {key : Key} {e : EntryNo}

/-- A key that is not owned is held by no entry, or by one that is FREE (R112). -/
theorem carryOut_clearIncident_unowned (h : s.ownedEntry key = none)
    (hc : ∀ e : EntryNo, (s.entry e).key = some key → (s.entry e).check = true) :
    s.carryOut (.clearIncident key) = { state := s, status := some .noSuch, previousWord := none } := by
  show s.doClearIncident key = _
  unfold State.doClearIncident
  cases hf : s.entryHolding key with
  | none => rfl
  | some e =>
    have holds : (s.entry e).key = some key := by
      rw [State.entryHolding, h] at hf
      simpa using List.find?_some hf
    have free : (s.entry e).state = .free := by
      have := List.find?_eq_none.1 h e (List.mem_finRange e)
      simpa [holds] using this
    simp [hc e holds, free]

theorem carryOut_clearIncident_owned (h : s.ownedEntry key = some e) (hc : (s.entry e).check = true) :
    s.carryOut (.clearIncident key) =
      { state := (s.closeEntry e (s.entry e).verdict true).settle, status := some .done, previousWord := none } := by
  show s.doClearIncident key = _
  simp [State.doClearIncident, entryHolding_of_owned h, hc, (State.ownedEntry_state h).1]

end ClearIncident

/-- A CLEAR INCIDENT of the uplink unit is answered with its status from the state that carrying it out leaves. -/
theorem exec_clearIncident_of_effect {f : RxFrame} {s u : State} {key : Key} {i : Fin 4} {st : Status}
    (h : s.hears (.long .clearIncident) f) (ht : f.target = s.straps.station)
    (hb : bodyOf (.long .clearIncident) f.body = some (.command (.clearIncident key))) (ha : f.authority = 0)
    (hsender : f.sender = 15) (hi : s.slot i = none) (hlow : ∀ j : Fin 4, j < i → s.slot j ≠ none) (hst : st ≠ .accepted)
    (hu : u.running = true) (hx : State.carryOut { s with abandoned := false, cells := noCells } (.clearIncident key) =
      { state := u, status := some st, previousWord := none }) :
    exec (.clearIncident f) s = .next ((({ u with cells := { noCells with ack := true } } : State).setSlot i (some
      { command := .clearIncident key, sender := f.sender, status := some st, previousWord := none
        stationAtTaking := none, restartMark := false })).place (.reply i)) := by
  have slot : State.freeSlot { s with abandoned := false, cells := noCells } = some i := freeSlot_of_lowest hi hlow
  have allowed : authorised f.sender f.authority (.clearIncident key) = true := by
    rw [ha, hsender]
    exact authorised_uplink _
  refine congrArg Host.Outcome.next ((commandReceived_of_hears h ht hb).trans ?_)
  rw [takeCommand_of_effect slot allowed hx hu hst, occupy_eq hu]
  rfl

/-- Settles O27: what each command does at its taking, case by case, and the answer of its slot. -/
theorem testPairAndClearIncident : Obligations.TestPairAndClearIncident := by
  refine ⟨fun f s pr i h ht hb ha hi hlow => ?testPair, fun f s key i h ht hb hauth hsender hi hlow => ?clear⟩
  case testPair =>
    intro acked answered
    have hr : s.running = true := h.1
    let read : State := { s with abandoned := false, cells := noCells }
    have slot : read.freeSlot = some i := freeSlot_of_lowest hi hlow
    have taken : exec (.testPair f) s = .next (read.takeCommand f.sender f.authority (.testPair pr)) :=
      congrArg Host.Outcome.next (commandReceived_of_hears h ht hb)
    have told {st : Status} (hst : st ≠ .accepted)
        (hx : read.carryOut (.testPair pr) = { state := read, status := some st, previousWord := none }) :
        exec (.testPair f) s = .next (answered acked st) := by
      rw [taken, takeCommand_of_effect slot (authorised_testPair ha pr) hx hr hst, occupy_eq (by exact hr)]
      rfl
    refine ⟨fun hp => ?unnamed, fun p hp => ⟨fun hs => ?absent, fun hs hu => ?unitFailed, fun hs hu hbusy => ?busy,
      fun hs hu hfree => ?accepted⟩⟩
    case unnamed => exact told nofun (carryOut_testPair_unnamed (s := read) hp)
    case absent => exact told nofun (carryOut_testPair_absent (s := read) hp hs)
    case unitFailed => exact told nofun (carryOut_testPair_unitFailed (s := read) hp hs hu)
    case busy => exact told nofun (carryOut_testPair_busy (s := read) hp hs hu hbusy)
    case accepted =>
      rw [taken, takeCommand_of_accepted slot (authorised_testPair ha pr)
        (carryOut_testPair_accepted (s := read) hp hs hu hfree) hr, occupy_eq (by exact hr)]
      rfl
  case clear =>
    intro read answered
    have told {u : State} {st : Status} (hst : st ≠ .accepted) (hu : u.running = true)
        (hx : read.carryOut (.clearIncident key) = { state := u, status := some st, previousWord := none }) :
        exec (.clearIncident f) s = .next (answered u st) :=
      exec_clearIncident_of_effect h ht hb hauth hsender hi hlow hst hu hx
    refine ⟨fun ho hc => told nofun h.1 (carryOut_clearIncident_unowned (s := read) ho hc), fun e ho hc => ?_⟩
    intro freed closed hclosed
    have holds : (read.entry e).key = some key := (State.ownedEntry_state ho).2
    have ends : (read.closeEntry e (s.entry e).verdict true).settle = closed := by
      rw [State.closeEntry_of_key holds]
      rfl
    clear_value closed
    refine told nofun hclosed ?_
    rw [← ends]
    exact carryOut_clearIncident_owned (s := read) ho hc

end Sys2Proof.Machine
end

section
/-! PROOFS. A CLOSED report as the pairs hear it, one by one, and a DEFERRED REPLY at its target (R126, R129). -/

namespace Sys2Proof.Machine

set_option Elab.async false

/-! ### A fold in which one element acts -/

theorem foldl_of_idle {α β : Type} {f : β → α → β} {s : β} {l : List α} (h : ∀ a ∈ l, f s a = s) : l.foldl f s = s := by
  induction l with
  | nil => rfl
  | cons a rest ih =>
    rw [List.foldl_cons, h a (by simp)]
    exact ih fun b hb => h b (by simp [hb])

theorem foldl_of_one {α β : Type} {f : β → α → β} {s t : β} {a : α} {l : List α} (ha : a ∈ l) (nodup : l.Nodup)
    (act : f s a = t) (before : ∀ b, b ≠ a → f s b = s) (after : ∀ b, b ≠ a → f t b = t) : l.foldl f s = t := by
  obtain ⟨l, r, rfl⟩ := List.append_of_mem ha
  obtain ⟨-, right, apart⟩ := List.nodup_append.1 nodup
  rw [List.foldl_append, List.foldl_cons, foldl_of_idle fun b hb => before b fun e => apart b hb a (by simp) e, act]
  exact foldl_of_idle fun b hb => after b fun e => (List.nodup_cons.1 right).1 (e ▸ hb)

theorem foldl_allPairs_of_one {f : State → Pair → State} {s t : State} {p : Pair} (act : f s p = t)
    (before : ∀ q, q ≠ p → f s q = s) (after : ∀ q, q ≠ p → f t q = t) : allPairs.foldl f s = t :=
  foldl_of_one (List.mem_finRange p) (List.nodup_finRange 24) act before after

namespace State

/-! ### A tag allocated, for the other pairs (R84) -/

theorem tags_freeTag_of_free {s : State} (h : ∃ t, s.tags.get t = none) : s.tags.get s.freeTag = none := by
  obtain ⟨t, ht⟩ := h
  have found : (((List.finRange 32).map fun i => s.tagPointer + i).find? fun t => (s.tags.get t).isNone).isSome := by
    rw [List.find?_isSome]
    exact ⟨t, List.mem_map.2 ⟨t - s.tagPointer, List.mem_finRange _, by simp⟩, by simp [ht]⟩
  obtain ⟨u, hu⟩ := Option.isSome_iff_exists.1 found
  rw [freeTag, hu]
  simpa using List.find?_some hu

theorem standing_allocateTag_of_other {s : State} {p q : Pair} (free : ∃ t, s.tags.get t = none) (hq : q ≠ p)
    (cls : FaultClass) : (s.allocateTag p cls).standing q = s.standing q := by
  have same : (s.allocateTag p cls).heldTags q = s.heldTags q := heldTags_congr fun i => by
    have got : (s.allocateTag p cls).tags.get i =
        if i = s.freeTag then some { pair := p, cls := cls } else s.tags.get i := get_set ..
    rw [got]
    split
    · next hi => simp [hi, tags_freeTag_of_free free, hq.symm]
    · rfl
  rw [standing, same]; rfl

theorem standing_claimPending_of_other {s : State} {p q : Pair} (hr : s.running = true)
    (free : ∃ t, s.tags.get t = none) (hq : q ≠ p) (cls : FaultClass) :
    (s.claimPending p cls).standing q = s.standing q := by
  unfold claimPending
  rw [standing_renewItem (by simpa using hr), if_neg hq, standing_setClaim, if_neg hq,
    standing_allocateTag_of_other free hq]

theorem claimPending_straps (s : State) (p : Pair) (cls : FaultClass) : (s.claimPending p cls).straps = s.straps := by
  unfold claimPending
  dsimp only
  split <;> simp

theorem free_retireTag {s : State} (h : ∃ t, s.tags.get t = none) (p : Pair) :
    ∃ t, (s.retireTag p).tags.get t = none := by
  obtain ⟨t, ht⟩ := h
  exact ⟨t, by simp [retireTag, ht]⟩

/-! ### A CLOSED report at one pair (R129) -/

/-- The pair stands under the key at another station: LINKED to it there, or DEFERRED with a tag of its class. -/
def HearsClosed (s : State) (key : Key) (q : Pair) : Prop := s.pairKey q key.cls = key ∧
  ((s.pair q).claim = .linked key.cls false ∨
    (∃ t, (s.pair q).claim = .deferred t) ∧ (s.tagOf q).map Prod.snd = some key.cls)

theorem hearsClosed_congr {s t : State} {key : Key} {q : Pair} (straps : t.straps = s.straps)
    (standing : t.standing q = s.standing q) : t.HearsClosed key q ↔ s.HearsClosed key q := by
  have claim : (t.pair q).claim = (s.pair q).claim := congrArg Standing.claim standing
  have tags : t.heldTags q = s.heldTags q := congrArg Standing.tags standing
  rw [HearsClosed, HearsClosed, State.pairKey_of_straps straps, claim, tagOf_eq, tags, tagOf_eq]

variable {s : State} {key : Key} {p : Pair}

theorem hearClosed_of_deaf (h : ¬ s.HearsClosed key p) (forced : Bool) : s.hearClosed key forced p = s := by
  unfold State.hearClosed
  split
  · rfl
  · next live =>
    have named : s.pairKey p key.cls = key := by
      by_contra other
      simp [other] at live
    split
    · next cls hc =>
      split
      · next e => exact absurd ⟨named, .inl (by rw [hc, eq_of_beq e])⟩ h
      · rfl
    · next t hc =>
      split
      · next e => exact absurd ⟨named, .inr ⟨⟨t, hc⟩, eq_of_beq e⟩⟩ h
      · rfl
    · rfl

theorem hearClosed_of_linked (hr : s.running = true) (hk : s.pairKey p key.cls = key)
    (hc : (s.pair p).claim = .linked key.cls false) (forced : Bool) : s.hearClosed key forced p =
      if forced then (s.withdrawClaim p).holdOff p
      else ((s.withdrawClaim p).setClaim p .unclaimed none).claimMake p key.cls := by
  simp [hearClosed, hr, hk, hc]

theorem hearClosed_of_deferred (hr : s.running = true) (hk : s.pairKey p key.cls = key) {t : Tag}
    (hc : (s.pair p).claim = .deferred t) (ht : (s.tagOf p).map Prod.snd = some key.cls) (forced : Bool) :
    s.hearClosed key forced p =
      if forced then (s.retireTag p).holdOff p
      else ((s.retireTag p).setClaim p .unclaimed none).claimMake p key.cls := by
  simp [hearClosed, hr, hk, hc, ht]

/-- A CLOSED report that one pair hears: what it does to that pair is all it does. -/
theorem foldl_hearClosed_of_one {t : State} {forced : Bool} (others : ∀ q, q ≠ p → ¬ s.HearsClosed key q)
    (act : s.hearClosed key forced p = t) (straps : t.straps = s.straps)
    (standing : ∀ q, q ≠ p → t.standing q = s.standing q) : allPairs.foldl (hearClosed key forced) s = t :=
  foldl_allPairs_of_one act (fun q hq => hearClosed_of_deaf (others q hq) forced)
    fun q hq => hearClosed_of_deaf (mt (hearsClosed_congr straps (standing q hq)).1 (others q hq)) forced

end State

/-! ### The two frames -/

section Frames

variable {s : State} {f : RxFrame}

theorem deferredReplyReceived_of_hears {tag : BitVec 5} {pr : PairNo} {key : Key} {joined : Bool}
    (h : s.hears (.long .deferredReply) f) (ht : f.target = s.straps.station)
    (hb : bodyOf (.long .deferredReply) f.body = some (.deferredReply tag pr key joined)) :
    deferredReplyReceived f s =
      State.takeDeferredReply tag pr key joined { s with abandoned := false, cells := noCells } := by
  rw [deferredReplyReceived, receive_of_hears h]
  simp [ht, hb]

theorem incidentSnooped_of_hears {key : Key} {st : ReportedState} {v : Verdict} {forced : Bool} {n : Nat}
    {ms : List WireMember} (h : s.hears (.long .incident) f)
    (hb : bodyOf (.long .incident) f.body = some (.incident key st v forced n ms)) :
    incidentSnooped f s = State.takeIncident key st forced { s with abandoned := false, cells := noCells } := by
  rw [incidentSnooped, receive_of_hears h]
  simp [hb]

end Frames

theorem tokenOutstanding_iff {s : State} {p : Pair} {tag : BitVec 5} {key : Key} :
    s.tokenOutstanding p tag key = true ↔ (s.pair p).claim = .deferred tag.toFin ∧
      s.tagOf p = some (tag.toFin, key.cls) ∧ s.pairKey p key.cls = key := by
  simp [State.tokenOutstanding, and_assoc]

theorem takeDeferredReply_of_outstanding {s : State} {p : Pair} {pr : PairNo} {tag : BitVec 5} {key : Key}
    (hr : s.running = true) (hp : toPair pr = some p) (h : s.tokenOutstanding p tag key = true) (joined : Bool) :
    s.takeDeferredReply tag pr key joined =
      ((({ s with cells := { noCells with ack := true } } : State).retireTag p).setClaim p
        (if joined then .linked key.cls false else .heldOff) (some (s.now + 60000))) := by
  have driven : (s.retireTag p).drive ackCell =
      ({ s with cells := { noCells with ack := true } } : State).retireTag p :=
    drive_running ackCell (s := s.retireTag p) hr
  cases joined <;> simp [State.takeDeferredReply, hp, h, driven, State.holdOff]

theorem takeIncident_closed (s : State) (key : Key) (forced : Bool) :
    s.takeIncident key .closed forced = (allPairs.foldl (State.hearClosed key forced) s).settle := if_pos rfl

/-- A CLOSED report that one pair hears, its standing there ended first: held off, or a new claim for a key that this
station does not own (R129). -/
theorem takeIncident_of_one {s ended : State} {key : Key} {p : Pair} (hr : s.running = true)
    (hk : s.pairKey p key.cls = key) (others : ∀ q, q ≠ p → ¬ s.HearsClosed key q)
    (act : ∀ forced, s.hearClosed key forced p =
      if forced then ended.holdOff p else (ended.setClaim p .unclaimed none).claimMake p key.cls)
    (fields : (ended.station, ended.straps, ended.entries) = (s.station, s.straps, s.entries))
    (standing : ∀ q, q ≠ p → ended.standing q = s.standing q) :
    s.takeIncident key .closed true = (ended.holdOff p).settle ∧
      (s.ownedEntry key = none → (∃ t, ended.tags.get t = none) → s.takeIncident key .closed false =
        ((ended.setClaim p .unclaimed none).claimPending p key.cls).settle) := by
  simp only [Prod.mk.injEq] at fields
  obtain ⟨station, straps, entries⟩ := fields
  have claimed (c : ClaimState) (t : Option Nat) (q : Pair) (hq : q ≠ p) :
      (ended.setClaim p c t).standing q = s.standing q := by
    rw [State.standing_setClaim, if_neg hq, standing q hq]
  constructor
  · rw [takeIncident_closed, State.foldl_hearClosed_of_one others (act true) straps (claimed _ _)]
    rfl
  · intro unowned free
    have running : (ended.setClaim p .unclaimed none).running = true := by
      rw [← hr, State.running, State.running, ← station]; rfl
    have pending : (ended.setClaim p .unclaimed none).claimMake p key.cls =
        (ended.setClaim p .unclaimed none).claimPending p key.cls :=
      State.claimMake_of_unowned ((State.ownedEntry_pairKey entries straps).trans (hk ▸ unowned))
    have apart (q : Pair) (hq : q ≠ p) :
        ((ended.setClaim p .unclaimed none).claimPending p key.cls).standing q = s.standing q := by
      rw [State.standing_claimPending_of_other running free hq, claimed _ _ q hq]
    rw [takeIncident_closed, State.foldl_hearClosed_of_one others ((act false).trans pending)
      ((State.claimPending_straps ..).trans straps) apart]

/-- Settles O25: the token decides a DEFERRED REPLY, and a CLOSED report is the act of the one pair that hears it. -/
theorem claimLogicFrames : Obligations.ClaimLogicFrames := by
  refine ⟨fun s f tag pr key joined h ht hb => ?deferredReply, fun s f key st v forced n ms h hb => ?incident⟩
  case deferredReply =>
    intro read
    have taken : exec (.deferredReplyReceived f) s = .next (read.takeDeferredReply tag pr key joined) :=
      congrArg Host.Outcome.next (deferredReplyReceived_of_hears h ht hb)
    rw [taken]
    refine ⟨fun hp => ?_, fun p hp => ⟨fun not => ?_, fun outstanding => ?_⟩⟩
    · simp only [State.takeDeferredReply, hp]
    · have refused : read.tokenOutstanding p tag key = false := Bool.eq_false_iff.2 (mt tokenOutstanding_iff.1 not)
      simp [State.takeDeferredReply, hp, refused]
    · exact congrArg _ (takeDeferredReply_of_outstanding (s := read) h.1 hp (tokenOutstanding_iff.2 outstanding) joined)
  case incident =>
    intro read linked deferred
    have taken : exec (.incidentSnooped f) s = .next (read.takeIncident key st forced) :=
      congrArg Host.Outcome.next (incidentSnooped_of_hears h hb)
    have deaf {q : Pair} (hq : ¬ linked q ∧ ¬ deferred q) : ¬ read.HearsClosed key q := by
      rintro ⟨hk, hl | ⟨hd, ht⟩⟩
      · exact hq.1 ⟨hk, hl⟩
      · exact hq.2 ⟨hk, hd, ht⟩
    rw [taken]
    refine ⟨fun hst => ?_, fun hst none => ?_, fun hst p others => ?_⟩
    · simp [State.takeIncident, hst]
    · subst hst
      rw [takeIncident_closed, foldl_of_idle fun q _ => State.hearClosed_of_deaf (deaf (none q)) forced]
    · subst hst
      intro unlinked
      have here (hl : linked p) := takeIncident_of_one (s := read) (ended := read.withdrawClaim p) h.1 hl.1
        (fun q hq => deaf (others q hq)) (State.hearClosed_of_linked h.1 hl.1 hl.2) (by simp [State.withdrawClaim])
        fun q hq => by rw [State.standing_withdrawClaim, if_neg hq]
      have waiting (hd : deferred p) := takeIncident_of_one (s := read) (ended := read.retireTag p) h.1 hd.1
        (fun q hq => deaf (others q hq))
        (State.hearClosed_of_deferred h.1 hd.1 hd.2.1.choose_spec hd.2.2) rfl
        fun q hq => by rw [State.standing_retireTag, if_neg hq]
      refine ⟨fun hl hf => ?_, fun hd hf => ?_, fun hl hf unowned free => ?_, fun hd hf unowned free => ?_⟩ <;> subst hf
      · have now : (read.withdrawClaim p).now = read.now := by simp [State.withdrawClaim]
        rw [(here hl).1, State.holdOff, now]
        rfl
      · exact congrArg _ (waiting hd).1
      · exact congrArg _ ((here hl).2 unowned (State.free_retireTag (s := read.withdraw _ _) (by simpa using free) p))
      · exact congrArg _ ((waiting hd).2 unowned (State.free_retireTag (s := read) free p))

end Sys2Proof.Machine
end

section
/-! PROOFS. A claim that no station answers makes this station owner, and gathers the pair that stands for its key
(R112, R114, R115). -/

namespace Sys2Proof.Machine

set_option Elab.async false

/-! ### A pair that joins an entry without being listed (R117) -/

theorem Entry.join_of_opened {x : Entry} {now : Nat} {st : StationNo} {pr : PairNo} (hs : x.state = .opened)
    (hl : x.lists st pr = false) (hm : x.members.length < 32) : x.join now st pr false = { x with
      members := x.members ++ [{ station := st, pair := pr, renewed := now, leaving := false }]
      emptyTimer := none, changed := true } := by
  simp [Entry.join, hs, hl, hm]

theorem pairNo_injective {p q : Pair} (h : pairNo p = pairNo q) : p = q := by
  simpa [toPair_pairNo] using congrArg toPair h

namespace State

/-! ### The pairs gathered (R115) -/

/-- The pair stands for the key, but not with this station as its owner: LINKED elsewhere, or PENDING with a tag of its
class. -/
def StandsFor (s : State) (key : Key) (q : Pair) : Prop := s.pairKey q key.cls = key ∧
  ((s.pair q).claim = .linked key.cls false ∨ ((s.pair q).claim = .pending ∧ (s.tagOf q).map Prod.snd = some key.cls))

theorem standsFor_congr {s t : State} {key : Key} {q : Pair} (straps : t.straps = s.straps)
    (standing : t.standing q = s.standing q) : t.StandsFor key q ↔ s.StandsFor key q := by
  have claim : (t.pair q).claim = (s.pair q).claim := congrArg Standing.claim standing
  have tags : t.heldTags q = s.heldTags q := congrArg Standing.tags standing
  rw [StandsFor, StandsFor, State.pairKey_of_straps straps, claim, tagOf_eq, tags, tagOf_eq]

section Gather

variable {s : State} {e : EntryNo} {key : Key} {p q : Pair}

theorem gatherPending_of_apart (h : q ≠ p → ¬ s.StandsFor key q) : s.gatherPending e key p q = s := by
  refine if_neg fun c => ?_
  simp only [Bool.and_eq_true, bne_iff_ne, beq_iff_eq] at c
  obtain ⟨⟨⟨hq, hc⟩, ht⟩, hk⟩ := c
  exact h hq ⟨hk, .inr ⟨hc, ht⟩⟩

theorem gatherLinked_of_apart (h : q ≠ p → ¬ s.StandsFor key q) : s.gatherLinked e key p q = s := by
  refine if_neg fun c => ?_
  simp only [Bool.and_eq_true, bne_iff_ne, beq_iff_eq] at c
  obtain ⟨⟨hq, hc⟩, hk⟩ := c
  exact h hq ⟨hk, .inl hc⟩

theorem gatherAll_of_none (h : ∀ q, q ≠ p → ¬ s.StandsFor key q) : s.gatherAll e key p = s := by
  have pending : allPairs.foldl (gatherPending e key p) s = s := foldl_of_idle fun q _ => gatherPending_of_apart (h q)
  rw [gatherAll, pending, foldl_of_idle fun q _ => gatherLinked_of_apart (h q)]

theorem standing_joinOwn_of_other {z : Pair} (hr : s.running = true) (hz : z ≠ q) (cls : FaultClass) :
    (s.joinOwn e q cls).standing z = s.standing z := by
  rw [joinOwn, standing_setClaim, if_neg hz]
  exact (SparesClaims.writeEntry ..).standing (by simpa [joinEntry] using hr) z

/-- One pair gathered: taken over once, by the first pass where it is PENDING and by the second where it is LINKED. -/
theorem gatherAll_of_one (hr : s.running = true) (hq : q ≠ p) (h : s.StandsFor key q)
    (others : ∀ z, z ≠ p → z ≠ q → ¬ s.StandsFor key z) :
    s.gatherAll e key p = (s.withdrawClaim q).joinOwn e q key.cls := by
  obtain ⟨hk, hc⟩ := h
  set joined := (s.withdrawClaim q).joinOwn e q key.cls with hj
  have apart (z : Pair) (hz : z ≠ q) (hp : z ≠ p) : ¬ joined.StandsFor key z := by
    have same : joined.standing z = s.standing z := by
      rw [hj, standing_joinOwn_of_other (by simpa [withdrawClaim] using hr) hz, standing_withdrawClaim, if_neg hz]
    exact mt (standsFor_congr (by simp [hj, joinOwn, joinEntry, withdrawClaim]) same).1 (others z hp hz)
  have owned : ¬ joined.StandsFor key q := by
    rintro ⟨-, hl⟩
    simp [hj, joinOwn, setClaim] at hl
  have settled : allPairs.foldl (gatherLinked e key p) joined = joined :=
    foldl_of_idle fun z _ => gatherLinked_of_apart fun hz =>
      if e : z = q then e ▸ owned else apart z e hz
  rcases hc with linked | ⟨pending, tag⟩
  · have first : allPairs.foldl (gatherPending e key p) s = s := foldl_of_idle fun z _ => by
      by_cases e : z = q
      · refine if_neg ?_
        simp [e, linked]
      · exact gatherPending_of_apart fun hz => others z hz e
    rw [gatherAll, first]
    refine foldl_allPairs_of_one (p := q) (if_pos (by simp [hq, linked, hk])) (fun z hz => ?_) fun z hz => ?_
    · exact gatherLinked_of_apart fun hp => others z hp hz
    · exact gatherLinked_of_apart (apart z hz)
  · have first : allPairs.foldl (gatherPending e key p) s = joined := by
      refine foldl_allPairs_of_one (p := q) (if_pos (by simp [hq, pending, tag, hk])) (fun z hz => ?_) fun z hz => ?_
      · exact gatherPending_of_apart fun hp => others z hp hz
      · exact gatherPending_of_apart (apart z hz)
    rw [gatherAll, first, settled]

end Gather

/-! ### The entry found for a key that no entry holds (R112) -/

theorem entryToTake_of_lowest {s : State} {key : Key} {e : EntryNo}
    (held : ∀ i, (s.entry i).state = .free → (s.entry i).key ≠ some key) (free : (s.entry e).state = .free)
    (bare : (s.entry e).key = none) (lower : ∀ i, i < e → (s.entry i).state = .free → (s.entry i).key ≠ none) :
    s.entryToTake key = some e := by
  have none : allEntries.find? (fun i => (s.entry i).state == .free && (s.entry i).key == some key) = none :=
    List.find?_eq_none.2 fun i _ hi => by
      simp only [Bool.and_eq_true, beq_iff_eq] at hi
      exact held i hi.1 hi.2
  have first : allEntries.find? (fun i => (s.entry i).state == .free && (s.entry i).key.isNone) = some e :=
    find?_finRange (by simp [free, bare]) fun i hi => by
      by_contra found
      simp only [Bool.not_eq_false, Bool.and_eq_true, beq_iff_eq, Option.isNone_iff_eq_none] at found
      exact lower i hi found.1 found.2
  rw [entryToTake, none]
  exact first

theorem becomeOwner_of_check {s : State} {key : Key} {e : EntryNo} (hr : s.running = true)
    (h : s.entryToTake key = some e) (hc : (s.entry e).check = true) (p : Pair) :
    s.becomeOwner key p = s.takeEntry e key p := by
  have read : s.readToTake key = s := by simp [readToTake, h, readEntry_of_check hc]
  have found : s.lookForEntry key = s := by rw [lookForEntry, read, read]
  rw [becomeOwner_eq, found]
  simp [hr, h]

end State

theorem claimAnswered_unowned {s : State} {x : Item} {p : Pair} (hk : x.kind = .faultClaim p) (key : Key)
    (tag : BitVec 5) (defer : Bool) :
    s.claimAnswered x p key tag false defer = ((s.removeItem (.faultClaim p)).becomeOwner key p).settle := by
  simp [State.claimAnswered, hk, itemRef]

/-- The station as a FAULT CLAIM's outcome finds it once the item has left (R105, R108). -/
def State.claimSent (s : State) (p : Pair) : State := ({ s with abandoned := false } : State).removeItem (.faultClaim p)

/-- The delivery of a FAULT CLAIM that no station answered, while the claim stands (R115). -/
theorem exec_faultClaimOutcome_unanswered {s : State} {x : Item} {p : Pair} {key : Key} {pr : PairNo} {tag : BitVec 5}
    {renew : Bool} {c : Cells} (hx : s.sending x) (hk : x.kind = .faultClaim p)
    (hcontent : x.content = some (.faultClaim key pr tag renew)) (ho : x.orphaned = false) (hw : x.withdrawn = false)
    (hs : x.superseded = false) (hv : c.void = false) (hst : c.stall = false) (hown : c.own = false) :
    exec (.faultClaimOutcome (.sent c)) s = .next ((s.claimSent p).becomeOwner key p).settle := by
  refine (exec_faultClaimOutcome hx hk _).trans (congrArg _ ?_)
  rw [faultClaimDone_answered hk hw hs ho hcontent hv hst, hown, claimAnswered_unowned hk]
  rfl

/-- Settles O33: the entry found is the lowest bare one, and the two passes over the pairs gather at most one. -/
theorem claimBecomesOwner : Obligations.ClaimBecomesOwner := by
  intro s x p key pr tag renew c e hx hk hcontent ho hw hs hv hst hown held free bare hc lower member first owner stands
  have hr : (s.claimSent p).running = true := (State.removeItem_running ..).trans hx.1
  have owns : exec (.faultClaimOutcome (.sent c)) s = .next (owner.gatherAll e key p).settle := by
    have takes : (s.claimSent p).becomeOwner key p = (s.claimSent p).takeEntry e key p :=
      State.becomeOwner_of_check hr (State.entryToTake_of_lowest held free bare lower) hc p
    rw [exec_faultClaimOutcome_unanswered hx hk hcontent ho hw hs hv hst hown, takes]
    rfl
  have live : owner.running = true := by simpa [owner] using (State.removeItem_running ..).symm.trans hr
  have apart (q : Pair) (hq : q ≠ p) : owner.standing q = s.standing q := by
    rw [State.standing_setClaim, if_neg hq, State.standing_retireTag, if_neg hq]
    calc ((s.claimSent p).writeEntry e first).standing q
      _ = (s.claimSent p).standing q := (State.SparesClaims.writeEntry ..).standing (by simpa using hr) q
      _ = s.standing q := (State.standing_removeItem ..).trans (if_neg hq)
  have straps : owner.straps = s.straps := by simp [owner]
  have same (q : Pair) (hq : q ≠ p) : owner.StandsFor key q ↔ stands q := State.standsFor_congr straps (apart q hq)
  rw [owns]
  refine ⟨fun none => ?_, fun q hq hstands others => ?_⟩
  · rw [State.gatherAll_of_none fun q hq => mt (same q hq).1 (none q hq)]
  · have unlisted : first.lists s.straps.station (pairNo q) = false := by
      simpa [Entry.lists, first, member, Member.isOf] using fun h => hq (pairNo_injective h).symm
    have joins := Entry.join_of_opened (now := s.now) rfl unlisted (by simp [first])
    rw [State.gatherAll_of_one live hq ((same q hq).2 hstands) fun z hz hzq => mt (same z hz).1 (others z hz hzq)]
    have entry : (owner.withdrawClaim q).entry e = first := by
      simp [State.withdrawClaim, owner, first]
    have now : (owner.withdrawClaim q).now = s.now := by simp [State.withdrawClaim, owner]
    have station : (owner.withdrawClaim q).straps = s.straps := by simp [State.withdrawClaim, straps]
    rw [State.joinOwn, State.joinEntry, entry, now, station, joins]
    rfl

end Sys2Proof.Machine
end

section
/-! PROOFS. The uplink test stands while an entry closes or a run concludes; the readings of the test unit (R137, R147 to
R151). -/

namespace Sys2Proof.Machine

set_option Elab.async false

/-! ### What keeps the uplink test (R113, R124, R125, R131) -/

namespace State

theorem foldl_keeps {α β : Type} {f : State → α → State} {g : State → β} (h : ∀ s a, g (f s a) = g s) (l : List α)
    (s : State) : g (l.foldl f s) = g s := by
  induction l generalizing s with
  | nil => rfl
  | cons a rest ih => exact (ih (f s a)).trans (h s a)

theorem endAccess_test (s : State) : s.endAccess.bus.test = s.bus.test := by
  unfold State.endAccess
  split <;> simp

theorem endLocalAccess_test (s : State) : s.endLocalAccess.bus.test = s.bus.test := by
  unfold endLocalAccess
  split
  · split
    · exact s.endAccess_test
    · rfl
  · rfl

theorem abandonRun_test (s : State) (e : EntryNo) : (s.abandonRun e).bus.test = s.bus.test := by
  unfold abandonRun
  split
  · rfl
  · split
    · rfl
    · exact (congrArg TestBus.test (withdrawQuiet_table _).2.2.2).trans (endLocalAccess_test _)

theorem claimPending_bus (s : State) (p : Pair) (cls : FaultClass) : (s.claimPending p cls).bus = s.bus := by
  unfold claimPending
  dsimp only
  split <;> simp

theorem unlinkOwn_bus (k : Key) (forced : Bool) (s : State) (p : Pair) : (s.unlinkOwn k forced p).bus = s.bus := by
  unfold State.unlinkOwn
  split
  · split
    · simp [holdOff]
    · exact s.claimPending_bus p k.cls
  · rfl

theorem answerDefer_bus (e : EntryNo) (s : State) (d : Defer) : (s.answerDefer e d).bus = s.bus := by
  unfold State.answerDefer
  dsimp only
  split
  · rfl
  split
  · simp
  split
  · simp
  split
  · split <;> simp [holdOff, joinOwn, joinEntry]
  · simp

theorem answerDefers_bus (s : State) (e : EntryNo) : (s.answerDefers e).bus = s.bus :=
  foldl_keeps (g := State.bus) (answerDefer_bus e) _ s

theorem closeEntry_test (s : State) (e : EntryNo) (v : Verdict) (forced : Bool) :
    (s.closeEntry e v forced).bus.test = s.bus.test := by
  unfold closeEntry
  dsimp only
  rw [answerDefers_bus]
  split
  · rw [foldl_keeps (g := State.bus) (unlinkOwn_bus _ forced), abandonRun_test, writeEntry_bus]
  · rw [abandonRun_test, writeEntry_bus]

theorem enterFailed_test (s : State) : s.enterFailed.bus.test = s.bus.test := s.endAccess_test

theorem reportIntegrity_test (s : State) : s.reportIntegrity.bus.test = s.bus.test := by
  unfold reportIntegrity
  split
  · rfl
  · split
    · exact s.enterFailed_test
    · rfl

theorem loseEntry_test (s : State) (e : EntryNo) : (s.loseEntry e).bus.test = s.bus.test := by
  unfold loseEntry
  dsimp only
  rw [reportIntegrity_test]
  split
  · unfold loseFree
    dsimp only
    split <;> simp [abandonRun_test, withdrawReplies]
  · rw [closeEntry_test, writeEntry_bus]
    rfl

theorem concludeRun_test (s : State) (result : RunResult) : (s.concludeRun result).bus.test = s.bus.test := by
  have read (s : State) (e : EntryNo) : (s.readEntry e).bus.test = s.bus.test := by
    unfold readEntry
    split
    · rfl
    · exact s.loseEntry_test e
  unfold concludeRun
  split
  · rfl
  · next run _ =>
    have cleared : (s.clearRun.readEntry run.entry).bus.test = s.bus.test := read _ _
    dsimp only
    split
    · exact cleared
    split
    · rw [closeEntry_test, cleared]
    split <;> simp [answerDefers_bus, cleared]

end State

/-! ### The readings (R147 to R151) -/

theorem testReading_of_range {v : Int} (low : -8191 ≤ v) (high : v ≤ 8191) : testReading v = v := by
  unfold testReading clampTo
  omega

theorem calibrationOk_iff {v : Int} : calibrationOk v = true ↔ 3600 ≤ v ∧ v ≤ 4400 := by
  simp [calibrationOk]

theorem refused_iff {v : Int} : refused v = true ↔ v < -1600 ∨ 1600 < v := by
  simp only [refused, decide_eq_true_eq]
  omega

section Calibration

variable {s : State} {volts : Int} {t : Nat} (hr : s.running = true) (hcal : s.unit.selector = .cal)
  (hdue : s.unit.readingDue = some t) (low : -8191 ≤ volts) (high : volts ≤ 8191)
include hr hcal hdue low high

theorem calibrationDone_passed (h : calibrationOk volts = true) : calibrationDone volts s =
    ({ s.elapseTo t with
      unit := { s.unit.stop with vCal := some volts, calibrationPassed := true } } : State).settle := by
  simp [calibrationDone, hr, hcal, hdue, testReading_of_range low high, h]

/-- A failed calibration: first a run that waits concludes, then a test that waits ends (log entry 57). -/
theorem calibrationDone_failed (h : calibrationOk volts = false) {ran : State}
    (hran : ran = if runWaiting s.bus then
      State.concludeRun { s.elapseTo t with unit := { s.unit.stop with vCal := some volts, failed := true } } .unitFailed
      else { s.elapseTo t with unit := { s.unit.stop with vCal := some volts, failed := true } }) :
    calibrationDone volts s =
      (if ran.running && testWaiting ran.bus then ran.endTest .unitFailed [] else ran).settle := by
  simp [calibrationDone, hr, hcal, hdue, testReading_of_range low high, h, hran]

end Calibration

theorem testWaiting_congr {b c : TestBus} (h : b.test = c.test) : testWaiting b = testWaiting c := by
  rw [testWaiting, testWaiting, h]

section Legs

variable {s : State} {m : Measurement}

theorem legDone_of_next {leg : Leg} (h : nextLeg m.leg = some leg) (l : LegRecord) : s.legDone m l = { s with
    unit := { s.unit with
      measurement := some { m with leg := leg, vOff := none, records := m.records ++ [l] }
      selector := .leg leg, source := false, readingDue := some (s.now + 200) } } := by
  rw [State.legDone, h]

variable {volts : Int} {t : Nat} (hr : s.running = true) (hm : s.unit.measurement = some m)
  (hdue : s.unit.readingDue = some t) (low : -8191 ≤ volts) (high : volts ≤ 8191)
include hr hm hdue low high

theorem legOffReadingDone_of_measurement (hoff : m.vOff = none) : legOffReadingDone volts s =
    if refused volts then (s.elapseTo t).legDone m (refusedLeg m.leg volts)
    else { s.elapseTo t with unit := { s.unit with
      measurement := some { m with vOff := some volts }, source := true, readingDue := some (max s.now t + 200) } } := by
  simp only [legOffReadingDone, hr, hm, hdue, hoff, testReading_of_range low high]
  rfl

theorem legOnReadingDone_of_measurement {vOff vCal : Int} (hoff : m.vOff = some vOff) (hv : s.unit.vCal = some vCal) :
    legOnReadingDone volts s = (s.elapseTo t).legDone m (measuredLeg m.leg vCal vOff volts) := by
  simp [legOnReadingDone, hr, hm, hdue, hoff, hv, testReading_of_range low high]

end Legs

/-- Settles O45: a calibration by its range and the jobs that wait, a reading of a leg by the leg that follows. -/
theorem unitReadings : Obligations.UnitReadings := by
  refine ⟨fun s volts t hr hcal hdue low high => ?calibration, fun s m volts t hr hm hdue low high => ?legs⟩
  case calibration =>
    intro unit at_
    let unfit : State := { at_ with unit := { unit with failed := true } }
    have fails (h : volts < 3600 ∨ 4400 < volts) {ran : State}
        (hran : ran = if runWaiting s.bus then unfit.concludeRun .unitFailed else unfit) :
        exec (.calibrationDone volts) s =
          .next (if ran.running && testWaiting ran.bus then ran.endTest .unitFailed [] else ran).settle := by
      have bad : calibrationOk volts = false := Bool.eq_false_iff.2 (mt calibrationOk_iff.1 (by omega))
      exact congrArg Host.Outcome.next (calibrationDone_failed hr hcal hdue low high bad hran)
    refine ⟨fun h₁ h₂ => ?passed, fun h still => ⟨fun idle => ?noJob, fun p d test => ?test⟩, fun e k d h run => ?run⟩
    case passed =>
      exact congrArg Host.Outcome.next (calibrationDone_passed hr hcal hdue low high (calibrationOk_iff.2 ⟨h₁, h₂⟩))
    case noJob =>
      rw [fails h (ran := unfit) (by simp [still]), if_neg (by simp [show testWaiting unfit.bus = false from idle])]
    case test =>
      have waits : testWaiting unfit.bus = true := by simp [unfit, at_, testWaiting, test]
      rw [fails h (ran := unfit) (by simp [still]), if_pos (by simp [waits, show unfit.running = true from hr]),
        State.endTest_of_test (s := unfit) test]
    case run =>
      intro ran
      have waits : runWaiting s.bus = true := by simp [runWaiting, run]
      have same : ran.bus.test = s.bus.test := State.concludeRun_test unfit .unitFailed
      rw [fails h (ran := ran) (by simp [waits, ran, unfit])]
      refine ⟨fun idle => ?_, fun p d' live test => ?_⟩
      · rw [if_neg]
        rcases idle with dead | idle
        · simp [dead]
        · simp [testWaiting_congr same, idle]
      · have there : ran.bus.test = some { pair := p, phase := .waiting d' } := same.trans test
        rw [if_pos (by simp [live, testWaiting, there]), State.endTest_of_test there]
  case legs =>
    intro now next
    refine ⟨fun hoff => ?off, fun vOff vCal hoff hv => ?on⟩
    case off =>
      have read : exec (.legOffReadingDone volts) s = .next _ :=
        congrArg Host.Outcome.next (legOffReadingDone_of_measurement hr hm hdue low high hoff)
      rw [read]
      refine ⟨fun h₁ h₂ => ?_, fun h => ?_⟩
      · rw [if_neg (mt refused_iff.1 (by omega))]
        rfl
      · intro refusal
        rw [if_pos (refused_iff.2 h)]
        constructor <;> intro hl <;> rw [legDone_of_next (by rw [hl]; rfl)] <;> rfl
    case on =>
      intro record
      have read : exec (.legOnReadingDone volts) s = .next _ :=
        congrArg Host.Outcome.next (legOnReadingDone_of_measurement hr hm hdue low high hoff hv)
      rw [read]
      constructor <;> intro hl <;> rw [legDone_of_next (by rw [hl]; rfl)] <;> rfl

end Sys2Proof.Machine
end

section
/-! PROOFS. A calibrated holder with nothing in hand: its next action for a run and for an uplink test, and a run abandoned
(R113, R137, R139, R141 to R144, R149). -/

namespace Sys2Proof.Machine

set_option Elab.async false

namespace State

variable {s t u : State}

/-! ### One step, and two -/

theorem settle_of_step (h : s.nextStep = some t) (idle : t.nextStep = none) : s.settle = t := by
  rw [settle, settleUpTo_succ 399 h]
  simp [settleUpTo, idle]

theorem settle_of_steps (h : s.nextStep = some t) (k : t.nextStep = some u) (idle : u.nextStep = none) :
    s.settle = u := by
  rw [settle, settleUpTo_succ 399 h, settleUpTo_succ 398 k]
  simp [settleUpTo, idle]

/-! ### The holder at rest -/

/-- A calibrated holder that measures nothing and waits for nothing, where no test of R122 is called for. -/
structure Rests (s : State) : Prop where
  active : s.station = .active
  uncalled : s.dueTest = false
  mine : s.bus.view = .mine
  unmeasured : s.unit.measurement = none
  noRemote : s.bus.remote = none
  noRelease : s.bus.releaseWait = none
  calibrated : s.unit.selector ≠ .cal
  noUnlock : s.bus.unlockDue = false

theorem Rests.running (h : s.Rests) : s.running = true := by simp [State.running, h.active]

theorem nextStep_of_mine (ha : s.station = .active) (ht : s.dueTest = false) (hv : s.bus.view = .mine) :
    s.nextStep = s.holderStep := by
  simp [nextStep_of_not_called ht, busStep, ha, hv]

/-- A measurement is waited for (R154). -/
theorem nextStep_of_measuring (ha : s.station = .active) (ht : s.dueTest = false) (hv : s.bus.view = .mine)
    (hm : s.unit.measurement.isSome = true) : s.nextStep = none := by
  rw [nextStep_of_mine ha ht hv, holderStep]
  exact if_pos hm

theorem Rests.place (h : s.Rests) (k : ItemKind) : (s.place k).Rests := by
  constructor <;> simp [h.active, h.uncalled, h.mine, h.unmeasured, h.noRemote, h.noRelease, h.calibrated, h.noUnlock]

theorem Rests.setTest (h : s.Rests) (x : Option UplinkTest) :
    ({ s with bus := { s.bus with test := x } } : State).Rests := by
  obtain ⟨active, uncalled, mine, unmeasured, noRemote, noRelease, calibrated, noUnlock⟩ := h
  constructor <;> assumption

/-- The holder's UNLOCK is waited for. -/
theorem Rests.nextStep_of_unlock {x : Item} (h : s.Rests) (hi : s.item .testBus = some x) (hx : x.kind = .unlock) :
    s.nextStep = none := by
  rw [nextStep_of_mine h.active h.uncalled h.mine, holderStep]
  simp [h.unmeasured, h.noRemote, h.noUnlock, h.calibrated, hi, hx]

section Run

variable {run : Run} (h : s.Rests) (hrun : s.bus.run = some run) (hd : run.deadline = none)
include h hrun hd

theorem Rests.nextStep_of_done (hi : s.hasItem .testBus = false)
    (done : 3 ≤ s.bus.tested ∨ (s.entry run.entry).members.length ≤ s.bus.position) :
    s.nextStep = some (s.concludeRun (.counts s.bus.tested s.bus.faulted)) := by
  rw [nextStep_of_mine h.active h.uncalled h.mine, holderStep]
  simp only [h.unmeasured, h.noRemote, h.noUnlock, item_eq_none.2 hi, hrun, hd]
  cases hm : (s.entry run.entry).members[s.bus.position]? with
  | none => simp [h.calibrated]
  | some m =>
    have there := (List.getElem?_eq_some_iff.1 hm).1
    have three : 3 ≤ s.bus.tested := by omega
    simp [h.calibrated, three]

variable {m : Member} (hm : (s.entry run.entry).members[s.bus.position]? = some m) (ht : s.bus.tested < 3)
include hm ht

theorem Rests.nextStep_of_member (hi : s.hasItem .testBus = false) : s.nextStep = s.visitMember run m := by
  rw [nextStep_of_mine h.active h.uncalled h.mine, holderStep]
  simp [h.unmeasured, h.noRemote, h.noUnlock, h.calibrated, h.noRelease, item_eq_none.2 hi, hrun, hd, hm, ht]

/-- A QUIET of the run is waited for (R142). -/
theorem Rests.nextStep_of_quiet {x : Item} {st : StationNo} {pr : PairNo} {cls : FaultClass}
    (hi : s.item .testBus = some x) (hx : x.kind = .quiet st pr cls) : s.nextStep = none := by
  rw [nextStep_of_mine h.active h.uncalled h.mine, holderStep]
  simp [h.unmeasured, h.noRemote, h.noUnlock, h.calibrated, h.noRelease, hi, hx, hrun, hd, hm, ht]

end Run

section Test

variable {x : UplinkTest} (h : s.Rests) (hrun : s.bus.run = none) (htest : s.bus.test = some x)
include h hrun htest

theorem Rests.nextStep_of_waiting {d : Nat} (hx : x.phase = .waiting d) (hi : s.hasItem .testBus = false) : s.nextStep =
    if s.unit.calibrationPassed then some (s.startTest x) else some (s.endTest .unitFailed []) := by
  rw [nextStep_of_mine h.active h.uncalled h.mine, holderStep]
  simp [h.unmeasured, h.noRemote, h.noUnlock, h.calibrated, h.noRelease, hrun, htest, testRunning, testWaiting, hx,
    item_eq_none.2 hi]
  cases s.unit.calibrationPassed <;> rfl

theorem Rests.nextStep_of_ended {o : TestOutcome} {legs : List LegRecord} (hx : x.phase = .ended o legs)
    (hi : s.hasItem .testBus = false) : s.nextStep = some (s.place .unlock) := by
  rw [nextStep_of_mine h.active h.uncalled h.mine, holderStep]
  simp [h.unmeasured, h.noRemote, h.noUnlock, h.calibrated, h.noRelease, hrun, htest, testRunning, testWaiting, hx, hi,
    item_eq_none.2 hi]

/-- An uplink test that ends where no other job waits gives the bus back (R137, R143). -/
theorem Rests.settle_of_endTest {o : TestOutcome} (hi : s.hasItem .testBus = false)
    (step : s.nextStep = some (s.endTest o [])) : s.settle = ((({ s with
      bus := { s.bus with test := some { x with phase := .ended o [] } } } : State).place .testResult).place
        .unlock) := by
  rw [endTest_of_test htest] at step
  have rests := (h.setTest (some { x with phase := .ended o [] })).place .testResult
  have no : (({ s with bus := { s.bus with test := some { x with phase := .ended o [] } } } : State).place
      .testResult).hasItem .testBus = false := (hasItem_place_other (by decide)).trans hi
  exact settle_of_steps step (rests.nextStep_of_ended (by simpa using hrun) (by simp; rfl) rfl no) 
    ((rests.place .unlock).nextStep_of_unlock (item_place_new (k := .unlock) rests.running no) rfl)

end Test

/-! ### A pair of the holder's own (R138, R139, R149) -/

theorem untestable_iff {p : Pair} : s.untestable p = true ↔
    (s.pair p).loop = .seizePending ∨ (s.pair p).loop = .offHook ∨ (s.pair p).loop = .inBreak ∨
      (s.pair p).receiver.isSome = true ∨ (s.pair p).freeze ≠ .unfrozen ∨ s.bus.access.isSome = true := by
  simp only [untestable, Bool.or_eq_true, beq_iff_eq, bne_iff_ne, or_assoc]

theorem accessOwn_of_calibrated (hv : s.bus.view = .mine) (hc : s.unit.calibrationPassed = true) (p : Pair)
    (forRun : Bool) : s.accessOwn p forRun = { s.setPair p { s.pair p with freeze := .access } with
      bus := { s.bus with access := some { pair := p, holder := s.straps.station, began := s.now } }
      unit := { s.unit with
        measurement := some { station := s.straps.station, pair := pairNo p, forRun := forRun, leg := .tip, vOff := none
                              records := [] }
        selector := .leg .tip, source := false, readingDue := some (s.now + 200) } } := by
  simp only [accessOwn, beginMeasurement, beginAccess]
  simp [hv, hc, modPair]

theorem Rests.settle_of_accessOwn {p : Pair} {forRun : Bool} (h : s.Rests) (hc : s.unit.calibrationPassed = true)
    (step : t.nextStep = some (s.accessOwn p forRun)) : t.settle = s.accessOwn p forRun := by
  refine settle_of_step step ?_
  rw [accessOwn_of_calibrated h.mine hc]
  exact nextStep_of_measuring h.active h.uncalled h.mine rfl

/-! ### A run abandoned (R113, R144) -/

theorem endLocalAccess_of_elsewhere (h : ∀ a, s.bus.access = some a → a.holder ≠ s.straps.station) :
    s.endLocalAccess = s := by
  unfold endLocalAccess
  split
  · next a ha => exact if_neg (by simpa using h a ha)
  · rfl

theorem endLocalAccess_of_own {a : Access} (ha : s.bus.access = some a) (h : a.holder = s.straps.station) :
    s.endLocalAccess = { s.setPair a.pair (s.pair a.pair).endAccess with bus := { s.bus with access := none } } := by
  rw [← endAccess_of_some ha]
  simp [endLocalAccess, ha, h]

theorem withdrawQuiet_of_other (h : ∀ x st pr cls, s.item .testBus = some x → x.kind ≠ .quiet st pr cls) :
    s.withdrawQuiet = s := by
  unfold withdrawQuiet
  split
  · next x hx =>
    split
    · next st pr cls hk => exact absurd hk (h x st pr cls hx)
    · rfl
  · rfl

theorem withdrawQuiet_of_quiet {x : Item} {st : StationNo} {pr : PairNo} {cls : FaultClass}
    (hx : s.item .testBus = some x) (hk : x.kind = .quiet st pr cls) :
    s.withdrawQuiet = s.withdraw .testBus markWithdrawn := by
  simp [withdrawQuiet, hx, hk]

/-- The abandonment of a run that runs, by what it makes of the local access and of a QUIET item. -/
theorem abandonRun_of_running {run : Run} (h : s.bus.run = some run) (hd : run.deadline = none)
    (ht : s.clearRun.endLocalAccess.withdrawQuiet = t) :
    s.abandonRun run.entry = { t with unit := t.unit.stop, bus := { t.bus with unlockDue := true } } := by
  simp [abandonRun, runOf_of_own h, hd, ht]

end State

/-- Settles O51: the holder's next action where nothing is waited for, and the run that an entry's closing abandons. -/
theorem runAndTestProceed : Obligations.RunAndTestProceed := by
  refine ⟨fun s ha ht hv hm hremote hrelease hcal hunlock hi => ?holder, fun s e h => ?noRun, fun s run h => ?abandon⟩
  case holder =>
    intro untestable accessed passed
    have h : s.Rests := ⟨ha, ht, hv, hm, hremote, hrelease, hcal, hunlock⟩
    refine ⟨fun e k hrun => ⟨fun m hmember hcount => ?member, fun done => ?done⟩, fun p d hrun htest => ?test⟩
    case done => exact h.nextStep_of_done hrun rfl hi done
    case member =>
      have visits : s.nextStep = s.visitMember { entry := e, key := k, deadline := none } m :=
        h.nextStep_of_member hrun rfl hmember hcount hi
      refine ⟨fun leaving => ?_, fun stays elsewhere => ?_, fun p stays here hp => ⟨fun hu => ?_, fun hu hc => ?_⟩⟩
      · simp [visits, State.visitMember, leaving, passed]
      · have places : s.nextStep = some (s.place (.quiet m.station m.pair k.cls)) := by
          simp [visits, State.visitMember, stays, elsewhere, hi]
        refine State.settle_of_step places ?_
        exact (h.place _).nextStep_of_quiet (by simpa using hrun) rfl (by simpa using hmember) (by simpa using hcount)
          (State.item_place_new (k := .quiet _ _ _) h.running hi) rfl
      · simp [visits, State.visitMember, stays, here, hp, toPair_pairNo, State.untestable_iff.2 hu, passed]
      · have testable : s.untestable p = false := Bool.eq_false_iff.2 (mt State.untestable_iff.1 hu)
        have accesses : s.nextStep = some (s.accessOwn p true) := by
          simp [visits, State.visitMember, stays, here, hp, toPair_pairNo, testable]
        rw [h.settle_of_accessOwn hc accesses, State.accessOwn_of_calibrated hv hc]
    case test =>
      intro ended
      have waits := h.nextStep_of_waiting hrun htest rfl hi
      refine ⟨fun unfit => ?_, fun hc fit => ⟨fun busy => ?_, fun hu there => ?_⟩⟩
      · refine h.settle_of_endTest hrun htest hi ?_
        cases hc : s.unit.calibrationPassed with
        | false => simp [waits, hc]
        | true => simp [waits, hc, State.startTest, show s.unit.failed = true by simpa [hc] using unfit]
      · refine h.settle_of_endTest hrun htest hi ?_
        have refuses : (s.untestable p || s.service p == .absent) = true := by
          rw [Bool.or_eq_true, State.untestable_iff, beq_iff_eq]
          exact busy
        simp [waits, hc, State.startTest, fit, refuses]
      · have testable : s.untestable p = false := Bool.eq_false_iff.2 (mt State.untestable_iff.1 hu)
        have starts : s.nextStep = some (({ s with bus := { s.bus with
            test := some { pair := p, phase := .running } } } : State).accessOwn p false) := by
          simp [waits, hc, State.startTest, fit, testable, there]
        rw [(h.setTest (some { pair := p, phase := .running })).settle_of_accessOwn hc starts]
        exact State.accessOwn_of_calibrated (by exact hv) (by exact hc) p false
  case noRun => exact State.abandonRun_of_none (State.runOf_of_none h e)
  case abandon =>
    intro dropped stopped
    have elsewhere (ha : ∀ a, s.bus.access = some a → a.holder ≠ s.straps.station) :
        s.clearRun.endLocalAccess = s.clearRun :=
      State.endLocalAccess_of_elsewhere (s := s.clearRun) ha
    refine ⟨fun e he => ?_, fun d hd => ⟨fun hv => ?_, fun hv => ?_⟩, fun hd hq => ⟨fun ha => ?_, fun a ha own => ?_⟩,
      fun x st pr cls hd hx hk ha => ?_⟩
    · exact State.abandonRun_of_none (State.runOf_of_other h he.symm)
    · exact State.abandonRun_of_waiting h hd hv
    · exact State.abandonRun_of_waiting_mine h hd hv
    · rw [State.abandonRun_of_running h hd ((congrArg _ (elsewhere ha)).trans (State.withdrawQuiet_of_other hq))]
      rfl
    · have freed := State.endLocalAccess_of_own (s := s.clearRun) ha own
      rw [State.abandonRun_of_running h hd ((congrArg _ freed).trans (State.withdrawQuiet_of_other hq))]
      rfl
    · have none := elsewhere fun a some => nomatch ha.symm.trans some
      have quiet := State.withdrawQuiet_of_quiet (s := s.clearRun) hx hk
      rw [State.abandonRun_of_running h hd ((congrArg _ none).trans quiet), State.withdraw_eq, State.withdraw_eq]
      rfl

end Sys2Proof.Machine
end

section
/-! PROOFS. How a holder loses the lock (R133 to R135, R144, R146). -/

namespace Sys2Proof.Machine

set_option Elab.async false

namespace State

variable {s : State}

/-! ### The parts of the loss (R144) -/

theorem withdraw_of_item {ref : ItemRef} {y : Item} (h : s.item ref = some y) (mark : Item → Item) :
    s.withdraw ref mark = if y.content = none then s.removeItem ref else s.updateItem ref mark := by
  cases hy : y.content <;> simp [withdraw, h, hy]

theorem endLocalAccess_queue (s : State) : s.endLocalAccess.queue = s.queue := by
  unfold endLocalAccess
  (repeat' split) <;> simp

/-- The running uplink test ends ABANDONED, and any other stands. -/
def testAbandoned (s : State) : State := if testRunning s.bus then s.endTest .abandoned [] else s

theorem testAbandoned_of_running {p : Pair} (h : s.bus.test = some { pair := p, phase := .running }) :
    s.testAbandoned = ({ s with
      bus := { s.bus with test := some { pair := p, phase := .ended .abandoned [] } } } : State).place .testResult := by
  rw [testAbandoned, if_pos (by simp [testRunning, h]), endTest_of_test h]

theorem testAbandoned_of_none (h : testRunning s.bus = false) : s.testAbandoned = s := if_neg (by simp [h])

theorem testAbandoned_table (s : State) : s.testAbandoned.entries = s.entries ∧ s.testAbandoned.now = s.now ∧
    s.testAbandoned.bus.run = s.bus.run := by
  unfold testAbandoned endTest
  (repeat' split) <;> simp

/-- The loss of the lock but for the run's handing back. -/
def unheld (s : State) (view : BusHolder) : State :=
  ((s.endLocalAccess.withdraw .testBus markOrphaned).leaveMine view).testAbandoned

theorem loseLock_eq (s : State) (view : BusHolder) : s.loseLock view = (s.unheld view).concludeRun (.counts 0 0) := rfl

theorem unheld_table (s : State) (view : BusHolder) : (s.unheld view).entries = s.entries ∧
    (s.unheld view).now = s.now ∧ (s.unheld view).bus.run = s.bus.run := by
  obtain ⟨entries, now, run⟩ :=
    testAbandoned_table ((s.endLocalAccess.withdraw .testBus markOrphaned).leaveMine view)
  obtain ⟨freed, -, -, freedRun⟩ := endLocalAccess_table s
  refine ⟨entries.trans ?_, now.trans ?_, run.trans ?_⟩ <;> simp [leaveMine, freed, freedRun]

theorem loseLock_of_no_run (h : s.bus.run = none) (view : BusHolder) : s.loseLock view = s.unheld view := by
  obtain ⟨-, -, run⟩ := s.unheld_table view
  rw [loseLock_eq, concludeRun, run.trans h]

/-- A run hands back tested 0 and faulted 0: its entry concludes UNTESTED (R124). -/
theorem loseLock_of_run {run : Run} (h : s.bus.run = some run) (hs : (s.entry run.entry).state = .confirming)
    (hc : (s.entry run.entry).check = true) (hm : ∃ m ∈ (s.entry run.entry).members, m.leaving = false)
    (view : BusHolder) : s.loseLock view =
      ((s.unheld view).clearRun.writeEntry run.entry { s.entry run.entry with
        verdict := .untested, state := .opened, members := (s.entry run.entry).members.filter fun m => !m.leaving
        retryTimer := some (s.now + 60000), changed := true }).answerDefers run.entry := by
  obtain ⟨entries, now, stands⟩ := s.unheld_table view
  have entry : (s.unheld view).entry run.entry = s.entry run.entry := by rw [State.entry, entries]; rfl
  rw [loseLock_eq, concludeRun_of_member (stands.trans h) (by rw [entry, hc]) (by rw [entry, hs])
    (by rw [entry]; exact hm) (by decide), entry, now]
  rfl

end State

/-! ### The commands that bring it -/

section Commands

variable {s : State} {f : RxFrame} (hv : s.bus.view = .mine)
include hv

theorem lockReceived_of_mine (h : s.hears (.short .lock) f) (ownSeen : Bool) : lockReceived f ownSeen s =
    { s with abandoned := false, cells := { noCells with ack := true, own := true } } := by
  rw [lockReceived, receive_of_hears h, State.takeLock, if_pos (by exact beq_iff_eq.2 hv)]
  exact drive_running _ h.1

theorem unlockReceived_of_mine (h : s.hears (.short .unlock) f) :
    unlockReceived f s = (s.acked.loseLock .free).settle := by
  rw [unlockReceived, receive_of_hears h, State.takeUnlock, drive_ackCell h.1]
  simp [State.acked, hv]

/-- A QUIET or a RELEASE of another station to another target. -/
theorem testFrameReceived_of_mine {kind : TestBusFrame} (hk : kind = .quiet ∨ kind = .release)
    (h : s.hears (.long (testFrameKind kind)) f) (ht : f.target ≠ s.straps.station) :
    testFrameReceived kind f s =
      (({ s with abandoned := false, cells := noCells } : State).loseLock (.held f.sender s.now)).settle := by
  have noted : State.noteTestFrame { s with abandoned := false, cells := noCells } kind f.sender =
      ({ s with abandoned := false, cells := noCells } : State).loseLock (.held f.sender s.now) := by
    rcases hk with rfl | rfl <;> simp [State.noteTestFrame, hv]
  have straps := (State.Calm.loseLock { s with abandoned := false, cells := noCells } (.held f.sender s.now)).straps
  rw [testFrameReceived, receive_of_hears h, State.takeTestFrame, noted, straps]
  simp [ht]

theorem selfLimitExpiry_of_mine {t : Nat} (hr : s.running = true) (ht : s.bus.lastAccepted = some t) :
    selfLimitExpiry s = ((s.elapseTo (t + 4000)).loseLock .free).settle := by
  simp [selfLimitExpiry, hr, hv, ht]

end Commands

/-- Settles O21: the loss of the lock part by part, and the commands that bring it. -/
theorem holderHearsAndLosesLock : Obligations.HolderHearsAndLosesLock := by
  intro s f hr hv read acked
  refine ⟨fun h ownSeen => congrArg Host.Outcome.next (lockReceived_of_mine hv h ownSeen), fun confirms => ?_⟩
  intro freed unqueued left ended handed lost
  have lose (x : State) (view : BusHolder) (fields : (x.bus, x.straps, x.entries, x.pairs, x.queue) =
      (s.bus, s.straps, s.entries, s.pairs, s.queue)) : x.loseLock view = lost x view := by
    simp only [Prod.mk.injEq] at fields
    obtain ⟨bus, straps, entries, pairs, queue⟩ := fields
    have free : x.endLocalAccess = freed x := by
      cases ha : s.bus.access with
      | none =>
        simp only [freed, ha]
        exact State.endLocalAccess_of_elsewhere fun a some => by simp [bus, ha] at some
      | some a =>
        simp only [freed, ha]
        split
        · next own =>
          rw [State.endLocalAccess_of_own (by rw [bus, ha]) (by rw [straps, own]), show x.pair a.pair = s.pair a.pair by
            rw [State.pair, pairs]; rfl]
          rfl
        · next other =>
          refine State.endLocalAccess_of_elsewhere fun b some => ?_
          obtain rfl : a = b := by simpa [bus, ha] using some
          rwa [straps]
    have unqueue : x.endLocalAccess.withdraw .testBus markOrphaned = unqueued (freed x) := by
      have same : x.endLocalAccess.item .testBus = s.item .testBus := by
        rw [State.item, State.endLocalAccess_queue, queue]; rfl
      rw [free] at same ⊢
      cases hi : s.item .testBus with
      | none =>
        simp only [unqueued, hi]
        exact State.withdraw_of_absent (State.item_eq_none.1 (same.trans hi)) _
      | some y =>
        simp only [unqueued, hi]
        exact State.withdraw_of_item (same.trans hi) _
    have abandon (y : State) (hy : y.bus.test = s.bus.test) : y.testAbandoned = ended y := by
      simp only [ended]
      split
      · next p ht => exact State.testAbandoned_of_running (hy.trans ht)
      · next still =>
        refine State.testAbandoned_of_none ?_
        rw [testRunning, hy]
        split
        · next u ht =>
          exact beq_eq_false_iff_ne.2 fun hu => still u.pair (by rw [ht, ← hu])
        · rfl
    have unheld : x.unheld view = ended (left (unqueued (freed x)) view) := by
      rw [State.unheld, unqueue]
      have test : (unqueued (freed x)).bus.test = s.bus.test := by
        rw [← unqueue, State.withdraw_bus, State.endLocalAccess_test, bus]
      exact abandon _ test
    cases hrun : s.bus.run with
    | none =>
      simp only [lost, handed, hrun]
      rw [State.loseLock_of_no_run (by rw [bus, hrun]), unheld]
    | some run =>
      simp only [lost, handed, hrun]
      obtain ⟨hs, hc, hm⟩ := confirms run hrun
      have entry : x.entry run.entry = s.entry run.entry := by rw [State.entry, entries]; rfl
      obtain ⟨-, now, -⟩ := x.unheld_table view
      rw [State.loseLock_of_run (by rw [bus, hrun]) (by rw [entry, hs]) (by rw [entry, hc]) (by rw [entry]; exact hm),
        entry, ← now, unheld]
      rfl
  refine ⟨fun view => lose s view rfl, fun t ht => ?_, fun h => ?_, fun ht => ⟨fun h => ?_, fun h => ?_⟩⟩
  · exact congrArg Host.Outcome.next ((selfLimitExpiry_of_mine hv hr ht).trans (congrArg _ (lose _ .free rfl)))
  · exact congrArg Host.Outcome.next ((unlockReceived_of_mine hv h).trans (congrArg _ (lose _ .free rfl)))
  · exact congrArg Host.Outcome.next
      ((testFrameReceived_of_mine hv (.inl rfl) h ht).trans (congrArg _ (lose read (.held f.sender s.now) rfl)))
  · exact congrArg Host.Outcome.next
      ((testFrameReceived_of_mine hv (.inr rfl) h ht).trans (congrArg _ (lose read (.held f.sender s.now) rfl)))

end Sys2Proof.Machine
end

section
/-! PROOFS. An incident entry lost: the loss and the report of it to station control (R113, R131, R144, R176, R177). -/

namespace Sys2Proof.Machine

set_option Elab.async false

namespace State

/-! ### Two writes, the second of which tells (R111, R128) -/

/-- A write that changes the entry hides one just before it, where the two call for a test as it does alone. -/
theorem writeEntry_hidden {s : State} {e : EntryNo} {x y : Entry} (hy : y.changed = true)
    (calls : ((s.entry e).callsTest x || x.callsTest y) = (s.entry e).callsTest y) :
    (s.writeEntry e x).writeEntry e y = s.writeEntry e y := by
  have twice : (s.place (.incident e)).queueWith (.incident e) = s.queueWith (.incident e) := by
    simpa only [place_eq] using congrArg State.queue (place_place s (.incident e))
  have placed : (s.writeEntry e x).queueWith (.incident e) = s.queueWith (.incident e) := by
    cases hx : x.changed with
    | true => exact (queueWith_congr (by simp [writeEntry_eq, place_eq, hx]) (by simp) _).trans twice
    | false => exact queueWith_congr (by simp [writeEntry_eq, hx]) (by simp) _
  have called : ((s.writeEntry e x).entry e).callsTest y = x.callsTest y := by
    rw [entry_writeEntry_same]; rfl
  rw [writeEntry_eq (s.writeEntry e x), if_pos hy, placed, called, writeEntry_dueTest, Bool.or_assoc, calls]
  simp [writeEntry_eq, hy]

/-! ### The loss, before it is reported (R131) -/

variable {s : State} {e : EntryNo}

/-- What the loss of an entry does before it is reported to station control. -/
def lossOf (s : State) (e : EntryNo) : State :=
  if (s.entry e).state == .free || (s.keyStore.get e).isNone then
    (s.withdrawReplies e).loseFree e (s.entry e) (s.keyStore.get e)
  else
    ((s.withdrawReplies e).writeEntry e
      { s.entry e with key := s.keyStore.get e, defers := [] }).closeEntry e .lost false

theorem loseEntry_eq (s : State) (e : EntryNo) : s.loseEntry e = (s.lossOf e).reportIntegrity := rfl

/-- An entry that is FREE and holds no closing report, or for which the key store holds no key, is emptied. -/
theorem lossOf_of_bare (h : ((s.entry e).state = .free ∧ (s.entry e).closing = none) ∨ s.keyStore.get e = none) :
    s.lossOf e =
      (((s.withdrawReplies e).writeEntry e Entry.empty).abandonRun e).withdraw (.incident e) markWithdrawn := by
  have free : ((s.entry e).state == .free || (s.keyStore.get e).isNone) = true := by
    rcases h with ⟨hs, -⟩ | hk
    · simp [hs]
    · simp [hk]
  have empty : (s.entry e).lostFree (s.keyStore.get e) = Entry.empty := by
    rcases h with ⟨-, hc⟩ | hk
    · simp [Entry.lostFree, hc]
    · cases hc : (s.entry e).closing <;> simp [Entry.lostFree, hk, hc]
  rw [lossOf, if_pos free, loseFree, empty]
  rfl

/-- A FREE entry that held a closing report keeps one, with verdict LOST. -/
theorem lossOf_of_reported {k : Key} {c : ClosingReport} (hs : (s.entry e).state = .free)
    (hc : (s.entry e).closing = some c) (hk : s.keyStore.get e = some k) : s.lossOf e =
      ((s.withdrawReplies e).writeEntry e { Entry.empty with
        key := some k, changed := true, closing := some { verdict := .lost, forced := false } }).abandonRun e := by
  have report : (s.entry e).lostFree (some k) = { Entry.empty with
      key := some k, changed := true, closing := some { verdict := .lost, forced := false } } := by
    simp [Entry.lostFree, hc]
  rw [lossOf, if_pos (by simp [hs]), hk, loseFree, report]
  rfl

/-- An entry that is not FREE is closed, LOST and not forced, its defer list discarded. -/
theorem lossOf_of_owned {k : Key} (hs : (s.entry e).state ≠ .free) (hk : s.keyStore.get e = some k) : s.lossOf e =
    allPairs.foldl (State.unlinkOwn k false) (((s.withdrawReplies e).writeEntry e { s.entry e with
      key := some k, state := .free, revivesConfirmed := false, verdict := .unjudged, members := [], overflow := 0
      emptyTimer := none, retryTimer := none, clearHold := none, changed := true, defers := []
      closing := some { verdict := .lost, forced := false } }).abandonRun e) := by
  let found : Entry := { s.entry e with key := some k, defers := [] }
  have calls : ((s.entry e).callsTest found || found.callsTest (found.closed .lost false)) =
      (s.entry e).callsTest (found.closed .lost false) := by
    simp [Entry.callsTest, Entry.closed, found]
  have closes :=
    writeEntry_hidden (s := s.withdrawReplies e) (e := e) (x := found) (y := found.closed .lost false) rfl calls
  rw [lossOf, if_neg (by simp [hs, hk]), closeEntry_of_no_defers (by simp), unlinkAll, entry_writeEntry_same, hk]
  exact congrArg (fun t => allPairs.foldl (State.unlinkOwn k false) (State.abandonRun t e)) closes

/-! ### The time of the last integrity error (R176) -/

/-- The clock, and the time of the last integrity error recorded. -/
def integrityClock (s : State) : Nat × Option Nat := (s.now, s.integrityAt)

theorem abandonRun_integrityClock (s : State) (e : EntryNo) : (s.abandonRun e).integrityClock = s.integrityClock := by
  have quiet (t : State) : t.withdrawQuiet.integrityClock = t.integrityClock := by
    unfold withdrawQuiet
    (repeat' split) <;> simp [integrityClock]
  unfold abandonRun
  split
  · rfl
  · split
    · rfl
    · refine (quiet _).trans ?_
      simp [integrityClock, clearRun]

theorem unlinkOwn_integrityClock (k : Key) (forced : Bool) (s : State) (p : Pair) :
    (s.unlinkOwn k forced p).integrityClock = s.integrityClock := by
  have pending : (s.claimPending p k.cls).integrityClock = s.integrityClock := by
    unfold claimPending
    dsimp only
    split <;> simp [integrityClock]
  unfold State.unlinkOwn
  split
  · split
    · simp [integrityClock, holdOff]
    · exact pending
  · rfl

theorem lossOf_integrityClock (s : State) (e : EntryNo) : (s.lossOf e).integrityClock = s.integrityClock := by
  have written (x : Entry) : ((s.withdrawReplies e).writeEntry e x).integrityClock = s.integrityClock := by
    simp [integrityClock, withdrawReplies]
  have withdrawn (t : State) : (t.withdraw (.incident e) markWithdrawn).integrityClock = t.integrityClock := by
    simp [integrityClock]
  by_cases bare : ((s.entry e).state = .free ∧ (s.entry e).closing = none) ∨ s.keyStore.get e = none
  · rw [lossOf_of_bare bare, withdrawn, abandonRun_integrityClock, written]
  · obtain ⟨k, hk⟩ := Option.ne_none_iff_exists'.1 fun hk => bare (.inr hk)
    by_cases hs : (s.entry e).state = .free
    · obtain ⟨c, hc⟩ := Option.ne_none_iff_exists'.1 fun hc => bare (.inl ⟨hs, hc⟩)
      rw [lossOf_of_reported hs hc hk, abandonRun_integrityClock, written]
    · rw [lossOf_of_owned hs hk, foldl_keeps (unlinkOwn_integrityClock k false), abandonRun_integrityClock, written]

/-- The first integrity error in 10 s is recorded (R176). -/
theorem loseEntry_of_first (h : ∀ t, s.integrityAt = some t → 10000 ≤ s.now - t) (e : EntryNo) :
    s.loseEntry e = { s.lossOf e with integrityAt := some s.now } := by
  obtain ⟨now, last⟩ := Prod.mk.inj (s.lossOf_integrityClock e)
  rw [loseEntry_eq, reportIntegrity_of_first (by rwa [now, last])]
  exact congrArg (fun n => { s.lossOf e with integrityAt := some n }) now

/-- At the second the station is FAILED (R176, R177). -/
theorem loseEntry_of_second {t : Nat} (h : s.integrityAt = some t) (near : s.now - t < 10000) (e : EntryNo) :
    s.loseEntry e = (s.lossOf e).enterFailed := by
  obtain ⟨now, last⟩ := Prod.mk.inj (s.lossOf_integrityClock e)
  rw [loseEntry_eq, reportIntegrity_of_second (last.trans h) (by rwa [now])]

end State

end Sys2Proof.Machine
end

section
/-! PROOFS. What found an incident entry lost goes on with it as it then stands (R131; log entries 20, 42, 50). -/

namespace Sys2Proof.Machine

set_option Elab.async false

/-! ### A test of R122, and a frame or a command that names its key -/

namespace State

variable {s : State} {e : EntryNo} {key : Key}

theorem readEntry_of_lost (h : (s.entry e).check = false) : s.readEntry e = s.loseEntry e := by
  simp [readEntry, h]

theorem nextStep_of_lost (ha : s.station = .active) (ht : s.dueTest = true) (hc : (s.entry e).check = false)
    (hlow : ∀ i : EntryNo, i < e → (s.entry i).check = true) : s.nextStep = some (s.loseEntry e) := by
  have found : (allEntries.find? fun i => !(s.entry i).check) = some e :=
    find?_finRange (by simp [hc]) fun i hi => by simp [hlow i hi]
  rw [nextStep, dueStep_of_lost ha ht found]

/-- An entry found lost has nothing left to act on, whether or not its loss leaves the station running. -/
theorem settled_of_lost (hc : (s.entry e).check = false) {act : State → State} :
    (if !(s.readEntry e).running then s.readEntry e
      else if ((s.readEntry e).entry e).state == .free then (s.readEntry e).settle
      else act (s.readEntry e)) = (s.loseEntry e).settle := by
  rw [readEntry_of_lost hc]
  split
  · next stopped =>
    refine (settle_of_not_active fun active => ?_).symm
    simp [State.running, active] at stopped
  · exact if_pos (by simp [entry_loseEntry_state])

end State

section Found

variable {s : State} {e : EntryNo} {key : Key} {f : RxFrame}

/-- A FAULT CLAIM draws no OWN for an entry found lost (R114). -/
theorem faultClaimReceived_of_lost {pr : PairNo} {tag : BitVec 5} {renew : Bool} (h : s.hears (.short .faultClaim) f)
    (hb : bodyOf (.short .faultClaim) f.body = some (.faultClaim key pr tag renew)) (ho : s.ownedEntry key = some e)
    (hc : (s.entry e).check = false) : faultClaimReceived f s = (s.acked.loseEntry e).settle := by
  have owned : s.acked.ownedEntry key = some e := ho
  rw [faultClaimReceived_of_hears h hb, State.takeClaim, drive_ackCell h.1]
  simp only [owned]
  exact State.settled_of_lost (s := s.acked) hc (act := fun t => (t.answerClaim e f.sender pr tag renew).settle)

theorem leaveReceived_of_lost {pr : PairNo} (h : s.hears (.short .leave) f)
    (hb : bodyOf (.short .leave) f.body = some (.leave key pr)) (ho : s.ownedEntry key = some e)
    (hc : (s.entry e).check = false) : leaveReceived f s = (s.acked.loseEntry e).settle := by
  have owned : s.acked.ownedEntry key = some e := ho
  have taken : leaveReceived f s = State.takeLeave f.sender key pr { s with abandoned := false, cells := noCells } := by
    rw [leaveReceived, receive_of_hears h]
    simp only [hb]
  rw [taken, State.takeLeave, drive_ackCell h.1]
  simp only [owned]
  exact State.settled_of_lost (s := s.acked) hc (act := fun t => t.leaveEntry e f.sender pr)

theorem carryOut_clearIncident_lost (ho : s.ownedEntry key = some e) (hc : (s.entry e).check = false) :
    s.carryOut (.clearIncident key) =
      { state := (s.loseEntry e).settle, status := some .noSuch, previousWord := none } := by
  show s.doClearIncident key = _
  simp [State.doClearIncident, entryHolding_of_owned ho, hc]

end Found

/-! ### A timer that runs out -/

section Timers

variable {s : State} {e : EntryNo} {t : Nat} (hr : s.running = true) (hc : (s.entry e).check = false)
include hr hc

theorem emptyListExpiry_of_lost (ht : (s.entry e).emptyTimer = some t) :
    emptyListExpiry e s = ((s.elapseTo t).loseEntry e).settle := by
  have lost : ((s.elapseTo t).entry e).check = false := hc
  simp [emptyListExpiry, hr, Entry.timed_of_lost hc, ht, State.onEntry_of_lost lost]

theorem confirmationRetryExpiry_of_lost (ht : (s.entry e).retryTimer = some t) :
    confirmationRetryExpiry e s = ((s.elapseTo t).loseEntry e).settle := by
  have lost : ((s.elapseTo t).entry e).check = false := hc
  simp [confirmationRetryExpiry, hr, Entry.timed_of_lost hc, ht, State.onEntry_of_lost lost]

theorem clearHoldExpiry_of_lost (ht : (s.entry e).clearHold = some t) :
    clearHoldExpiry e s = ((s.elapseTo t).loseEntry e).settle := by
  have lost : ((s.elapseTo t).entry e).check = false := hc
  simp [clearHoldExpiry, hr, Entry.timed_of_lost hc, ht, State.onEntry_of_lost lost]

theorem memberExpiry_of_lost {m : Member} (hm : (s.entry e).members.find? (Member.isOf m.station m.pair) = some m)
    (hst : m.station ≠ s.straps.station) : memberExpiry e m.station m.pair s =
      ((s.elapseTo (m.renewed + 150000)).loseEntry e).settle := by
  have lost : ((s.elapseTo (m.renewed + 150000)).entry e).check = false := hc
  simp [memberExpiry, hr, hst, Entry.timed_of_lost hc, hm, State.onEntry_of_lost lost]

end Timers

/-- A member is found by its station and pair where no other has them. -/
theorem find?_isOf_of_only {ms : List Member} {m : Member} (hm : m ∈ ms)
    (only : ∀ n ∈ ms, n.station = m.station → n.pair = m.pair → n = m) :
    ms.find? (Member.isOf m.station m.pair) = some m := by
  cases hf : ms.find? (Member.isOf m.station m.pair) with
  | none => exact absurd (List.find?_eq_none.1 hf m hm) (by simp [Member.isOf])
  | some n =>
    have named := List.find?_some hf
    simp only [Member.isOf, Bool.and_eq_true, beq_iff_eq] at named
    rw [only n (List.mem_of_find?_eq_some hf) named.1 named.2]

/-! ### An item of the entry, and a START that offers its report -/

theorem deferredReplyDone_of_lost {s : State} {x : Item} {e : EntryNo} {st : StationNo} {pr : PairNo}
    (hk : x.kind = .deferredReply e st pr) (hc : (s.entry e).check = false) (o : Outcome) :
    s.deferredReplyDone x e st pr o = ((s.loseEntry e).removeItem (.deferredReply e st pr)).settle := by
  simp [State.deferredReplyDone, hc, hk, itemRef]

theorem incidentDone_delivered_of_lost {s : State} {x : Item} {e : EntryNo} (hk : x.kind = .incident e)
    (hc : (s.entry e).check = false) :
    s.incidentDone x e .delivered = ((s.removeItem (.incident e)).loseEntry e).settle := by
  have lost : ((s.removeItem (.incident e)).entry e).check = false := hc
  have leaves : s.dispose x .delivered = (s.removeItem (.incident e), .delivered) := by
    rw [State.dispose, hk]; rfl
  rw [State.incidentDone, leaves]
  exact State.onEntry_of_lost lost _

section Offer

variable {s : State} {e : EntryNo}

/-- The content of the INCIDENT of an entry found lost is read from what its loss leaves (R128, R131). -/
theorem buildContent_incident_of_lost (hc : (s.entry e).check = false) {lost : State}
    (hl : (s.loseEntry e).settle = lost) : s.buildContent (.incident e) =
      if lost.running then (lost.writeEntry e { lost.entry e with changed := false }, incidentBody (lost.entry e))
      else (lost, none) := by
  cases hr : lost.running <;> simp [State.buildContent, hc, hl, hr]

theorem incidentBody_of_bare {x : Entry} (hs : x.state = .free) (hc : x.closing = none) : incidentBody x = none := by
  cases hk : x.key <;> simp [incidentBody, hs, hc, hk]

theorem exec_contentionStart_of_unbuilt {x : Item} {t : State} (ha : s.station = .active) (hf : s.inFlight = none)
    (hx : s.queue.find? s.eligible = some x)
    (hb : State.buildContent { s with abandoned := false } x.kind = (t, none)) : exec .contentionStart s = .next t := by
  have hx' : s.queue.find? (State.eligible { s with abandoned := false }) = some x := hx
  rw [exec_contentionStart, contentionStart, if_neg (by simp [ha, hf])]
  simp [hx', State.offer, hb]

end Offer

end Sys2Proof.Machine
end

section
/-! PROOFS. The entry found by a claim that becomes owner is lost first: the claim's frame is as it was, and the loss and the
claim's leaving of the queue go past each other (R112, R115, R131). -/

namespace Sys2Proof.Machine

set_option Elab.async false

namespace State

/-! ### The queue without a claim's item -/

variable {s : State} {p : Pair}

theorem item_claimSent {ref : ItemRef} (h : ref ≠ .faultClaim p) : (s.claimSent p).item ref = s.item ref := by
  simp only [item, claimSent, removeItem, List.find?_filter]
  congr 1
  funext x
  by_cases hx : itemRef x.kind = ref <;> simp [hx, h]

theorem hasItem_claimSent {ref : ItemRef} (h : ref ≠ .faultClaim p) : (s.claimSent p).hasItem ref = s.hasItem ref := by
  have same : (s.claimSent p).item ref = none ↔ s.item ref = none := by rw [item_claimSent h]
  rw [item_eq_none, item_eq_none] at same
  exact Bool.eq_iff_iff.2 (by simpa using not_congr same)

theorem removeItem_claimSent (ref : ItemRef) : (s.claimSent p).removeItem ref = (s.removeItem ref).claimSent p := by
  simp only [claimSent, removeItem, List.filter_filter, Bool.and_comm]

theorem updateItem_claimSent (ref : ItemRef) {f : Item → Item} (hf : ∀ x, (f x).kind = x.kind) :
    (s.claimSent p).updateItem ref f = (s.updateItem ref f).claimSent p := by
  have kind (x : Item) : (if itemRef x.kind == ref then f x else x).kind = x.kind := by split <;> simp [hf]
  simp only [claimSent, removeItem, updateItem, List.filter_map, Function.comp_def, kind]

theorem withdraw_claimSent {ref : ItemRef} (h : ref ≠ .faultClaim p) {f : Item → Item} (hf : ∀ x, (f x).kind = x.kind) :
    (s.claimSent p).withdraw ref f = (s.withdraw ref f).claimSent p := by
  unfold withdraw
  rw [item_claimSent h]
  split
  · rfl
  · split
    · exact updateItem_claimSent ref hf
    · exact removeItem_claimSent ref

/-- No item stands behind an INCIDENT newly placed (R102, R103). -/
theorem insertItem_incident (e : EntryNo) (q : List Item) :
    insertItem (newItem (.incident e)) q = q ++ [newItem (.incident e)] := by
  induction q with
  | nil => rfl
  | cons y rest ih =>
    have below : itemPrecedence y.kind ≤ 4 := by cases y.kind <;> simp [itemPrecedence]
    rw [insertItem, if_pos (by exact below), ih]
    rfl

theorem place_claimSent (e : EntryNo) : (s.claimSent p).place (.incident e) = (s.place (.incident e)).claimSent p := by
  have running : (s.claimSent p).running = s.running := rfl
  unfold State.place
  rw [running, hasItem_claimSent (by simp [itemRef])]
  split
  · simp only [claimSent, removeItem, insertItem_incident, List.filter_append]
    simp [newItem, itemRef]
  · rfl

/-! ### The loss of a FREE entry (R131) -/

theorem writeEntry_claimSent (e : EntryNo) (x : Entry) :
    (s.claimSent p).writeEntry e x = (s.writeEntry e x).claimSent p := by
  unfold writeEntry
  dsimp only
  split
  · exact place_claimSent (s := { s with
      entries := s.entries.set e.val { x with check := true } e.isLt
      keyStore := s.keyStore.set e.val x.key e.isLt
      dueTest := s.dueTest || (s.entry e).callsTest x }) e
  · rfl

theorem withdrawReplies_claimSent (e : EntryNo) :
    (s.claimSent p).withdrawReplies e = (s.withdrawReplies e).claimSent p := by
  have kind (x : Item) : (if x.repliesFor e then markWithdrawn x else x).kind = x.kind := by split <;> rfl
  simp only [claimSent, removeItem, withdrawReplies, List.filter_map, List.filter_filter, Function.comp_def, kind,
    Bool.and_comm]

theorem withdrawQuiet_claimSent : (s.claimSent p).withdrawQuiet = s.withdrawQuiet.claimSent p := by
  have other : ItemRef.testBus ≠ .faultClaim p := nofun
  unfold withdrawQuiet
  rw [item_claimSent other]
  split
  · split
    · exact withdraw_claimSent other fun _ => rfl
    · rfl
  · rfl

theorem endLocalAccess_claimSent : (s.claimSent p).endLocalAccess = s.endLocalAccess.claimSent p := by
  have access : (s.claimSent p).bus.access = s.bus.access := rfl
  have ends : (s.claimSent p).endAccess = s.endAccess.claimSent p := by
    unfold State.endAccess
    rw [access]
    split <;> rfl
  unfold endLocalAccess
  rw [access, show (s.claimSent p).straps = s.straps from rfl]
  split
  · split
    · exact ends
    · rfl
  · rfl

theorem abandonRun_claimSent (e : EntryNo) : (s.claimSent p).abandonRun e = (s.abandonRun e).claimSent p := by
  have run : (s.claimSent p).runOf e = s.runOf e := rfl
  have quiet : (s.clearRun.claimSent p).endLocalAccess.withdrawQuiet =
      s.clearRun.endLocalAccess.withdrawQuiet.claimSent p := by
    rw [endLocalAccess_claimSent, withdrawQuiet_claimSent]
  unfold abandonRun
  rw [run]
  split
  · rfl
  · split
    · rfl
    · exact congrArg (fun t : State => { t with unit := t.unit.stop, bus := { t.bus with unlockDue := true } }) quiet

theorem reportIntegrity_claimSent : (s.claimSent p).reportIntegrity = s.reportIntegrity.claimSent p := by
  have pairs : (s.claimSent p).endAccess.pairs = s.endAccess.pairs := by
    unfold State.endAccess
    rw [show (s.claimSent p).bus.access = s.bus.access from rfl]
    split <;> rfl
  have fails : (s.claimSent p).enterFailed = s.enterFailed.claimSent p := by
    rw [enterFailed_eq, enterFailed_eq, pairs]
    rfl
  unfold reportIntegrity
  rw [show (s.claimSent p).integrityAt = s.integrityAt from rfl, show (s.claimSent p).now = s.now from rfl, fails]
  split
  · rfl
  · split <;> rfl

theorem loseFree_claimSent (e : EntryNo) (x : Entry) (key : Option Key) :
    (s.claimSent p).loseFree e x key = (s.loseFree e x key).claimSent p := by
  unfold loseFree
  dsimp only
  rw [writeEntry_claimSent, abandonRun_claimSent]
  split
  · exact withdraw_claimSent (ref := .incident e) nofun (f := markWithdrawn) fun _ => rfl
  · rfl

theorem loseEntry_of_free {e : EntryNo} (h : (s.entry e).state = .free) :
    s.loseEntry e = ((s.withdrawReplies e).loseFree e (s.entry e) (s.keyStore.get e)).reportIntegrity := by
  rw [loseEntry_eq, lossOf, if_pos (by simp [h])]

theorem loseEntry_claimSent {e : EntryNo} (h : (s.entry e).state = .free) :
    (s.claimSent p).loseEntry e = (s.loseEntry e).claimSent p := by
  rw [loseEntry_of_free h, loseEntry_of_free (s := s.claimSent p) h, withdrawReplies_claimSent, loseFree_claimSent,
    reportIntegrity_claimSent]
  rfl

/-! ### The frame on the bus -/

theorem SparesClaims.loseEntry_of_free {e : EntryNo} (h : (s.entry e).state = .free) :
    s.SparesClaims (s.loseEntry e) := by
  rw [State.loseEntry_of_free h]
  exact .after (.reportIntegrity _) (.after (.loseFree ..) (.withdrawReplies s e))

theorem mem_of_inFlight {x : Item} (h : s.inFlight = some x) : x ∈ s.queue ∧ x.content.isSome = true :=
  ⟨List.mem_of_find?_eq_some h, List.find?_some (p := fun x : Item => x.content.isSome) h⟩

/-- The one frame built is the frame in contention or on the bus (R105). -/
theorem inFlight_of_mem {x : Item} (h : s.QueueOk) (hx : x ∈ s.queue) (hb : x.content.isSome = true) :
    s.inFlight = some x := by
  obtain ⟨-, -, single, -⟩ := h
  have built : x ∈ s.queue.filter fun x => x.content.isSome := List.mem_filter.2 ⟨hx, hb⟩
  rw [inFlight, ← List.head?_filter]
  match hl : s.queue.filter fun x => x.content.isSome with
  | [] => simp [hl] at built
  | [y] => simpa [hl, eq_comm] using built
  | _ :: _ :: _ => simp [hl] at single

theorem sending_loseEntry {x : Item} {e : EntryNo} (hq : s.QueueOk) (hx : s.sending x) (hk : x.kind = .faultClaim p)
    (h : (s.entry e).state = .free) (hr : (s.loseEntry e).running = true) : (s.loseEntry e).sending x := by
  obtain ⟨there, built⟩ := mem_of_inFlight hx.2
  have items : (s.loseEntry e).claimItems p = s.claimItems p :=
    congrArg Standing.items ((SparesClaims.loseEntry_of_free h).standing hr p)
  have stays : x ∈ (s.loseEntry e).claimItems p := items ▸ mem_claimItems.2 ⟨there, hk⟩
  exact ⟨hr, inFlight_of_mem ((SparesQueue.loseEntry s e).ok hq) (mem_claimItems.1 stays).1 built⟩

/-! ### A second look for an entry (R112, R131) -/

variable {k : Key} {e : EntryNo}

theorem first_of_running (h : (s.loseEntry e).running = true) : ∀ t, s.integrityAt = some t → 10000 ≤ s.now - t := by
  intro t ht
  by_contra near
  rw [loseEntry_of_second ht (by omega)] at h
  simp [State.running, enterFailed] at h

theorem readToTake_of_checks (h : ∀ i : EntryNo, (s.entry i).check = true) : s.readToTake k = s := by
  unfold readToTake
  split
  · rfl
  · exact readEntry_of_check (h _)

/-- After a loss that leaves the station running, a second look finds what it found: a second loss fails the station. -/
theorem readToTake_twice (h : (s.loseEntry e).running = true) :
    ((s.loseEntry e).readToTake k).readToTake k = (s.loseEntry e).readToTake k := by
  have lost := loseEntry_of_first (first_of_running h) e
  have now := (Prod.mk.inj (s.lossOf_integrityClock e)).1
  generalize s.loseEntry e = t at h lost ⊢
  cases found : t.entryToTake k with
  | none =>
    have read : t.readToTake k = t := by simp [readToTake, found]
    rw [read, read]
  | some i =>
    have read : t.readToTake k = t.readEntry i := by simp [readToTake, found]
    cases hc : (t.entry i).check with
    | true => rw [read, readEntry_of_check hc, read, readEntry_of_check hc]
    | false =>
      have near : t.now - s.now < 10000 := by
        rw [show t.now = s.now by rw [lost]; exact now]
        omega
      rw [read, readEntry_of_lost hc, loseEntry_of_second (t := s.now) (by rw [lost]) near]
      exact readToTake_of_checks fun j => by simp [State.entry, State.enterFailed, Entry.empty]

/-- A claim whose entry is found lost becomes owner on the entries as they then stand (R115, R131). -/
theorem becomeOwner_of_lost (h : s.entryToTake k = some e) (hc : (s.entry e).check = false)
    (hr : (s.loseEntry e).running = true) (p : Pair) : s.becomeOwner k p = (s.loseEntry e).becomeOwner k p := by
  have read : s.readToTake k = s.loseEntry e := by simp [readToTake, h, readEntry_of_lost hc]
  have same : s.lookForEntry k = (s.loseEntry e).lookForEntry k := by
    rw [lookForEntry, lookForEntry, read, readToTake_twice hr]
  rw [becomeOwner_eq, becomeOwner_eq, same]

end State

end Sys2Proof.Machine
end

section
/-! PROOFS. An incident entry whose check fails, and what found it (R131; log entries 2, 20, 42, 50, 59, 61). -/

namespace Sys2Proof.Machine

set_option Elab.async false

/-- Settles O49: the loss by what the entry was, and each finder on the entry as it then stands. -/
theorem incidentLost : Obligations.IncidentLost := by
  refine ⟨fun s e hr first => ?loss, fun s e t hr ht near => ?failed, fun s e ha hc hlow => ?test,
    fun s e key f ho hc => ?frames, fun s e t hr hc => ?timers, fun s x e st pr c hx hk hc => ?reply,
    fun s x e c hx hk hc hv hs hack => ?report, fun s run result hrun hc => ?run,
    fun s x p key pr tag renew c e hq hx hk hcontent ho hw hs hv hst hown he hc hr => ?owner,
    fun s x e ha hf hx hk hc => ?start⟩
  case loss =>
    intro x replies left cut told
    have cuts : s.withdrawReplies e = cut := by
      have named : replies = Item.repliesFor e := rfl
      simp only [State.withdrawReplies, cut, left, named, Bool.not_and, Option.not_isNone]
      rfl
    have lost := State.loseEntry_of_first first e
    refine ⟨fun bare => ?_, fun k c hs hc hk => ?_, fun k hs hk => ?_⟩
    · rw [lost, State.lossOf_of_bare bare, cuts]
      rfl
    · rw [lost, State.lossOf_of_reported hs hc hk, cuts]
    · rw [lost, State.lossOf_of_owned hs hk, cuts]
  case failed =>
    intro u
    have fails : u = (s.lossOf e).enterFailed := State.loseEntry_of_second ht near e
    rw [fails, State.enterFailed_eq]
    refine ⟨rfl, rfl, rfl, rfl, rfl, fun i => ?_, fun i => ?_⟩
    · simp [State.entry]
    · simp [State.slot]
  case test => exact ⟨fun ht => State.nextStep_of_lost ha ht hc hlow, State.nextStep_of_not_called⟩
  case frames =>
    intro read acked
    refine ⟨fun h ⟨pr, tag, renew, hb⟩ => ?_, fun h ⟨pr, hb⟩ => ?_, fun i h ht hb hauth hsender hi hlow => ?_⟩
    · exact congrArg Host.Outcome.next (faultClaimReceived_of_lost h hb ho hc)
    · exact congrArg Host.Outcome.next (leaveReceived_of_lost h hb ho hc)
    · intro lost hlost
      exact exec_clearIncident_of_effect h ht hb hauth hsender hi hlow nofun hlost
        (carryOut_clearIncident_lost (s := read) ho hc)
  case timers =>
    refine ⟨fun ht => ?_, fun ht => ?_, fun ht => ?_, fun m hm hst ht only => ?_⟩
    · exact congrArg Host.Outcome.next (emptyListExpiry_of_lost hr hc ht)
    · exact congrArg Host.Outcome.next (confirmationRetryExpiry_of_lost hr hc ht)
    · exact congrArg Host.Outcome.next (clearHoldExpiry_of_lost hr hc ht)
    · subst ht
      exact congrArg Host.Outcome.next (memberExpiry_of_lost hr hc (find?_isOf_of_only hm only) hst)
  case reply =>
    exact (exec_outcome_of_kind hx hk _).trans (congrArg _ ((produce_deferredReply hk).trans
      (deferredReplyDone_of_lost (s := { s with abandoned := false }) hk hc _)))
  case report =>
    refine (exec_outcome_of_kind hx hk _).trans (congrArg _ ((produce_incident hk).trans ?_))
    rw [classifyOutcome_acked rfl hv hs hack]
    exact incidentDone_delivered_of_lost (s := { s with abandoned := false }) hk hc
  case run => exact State.concludeRun_of_lost hrun hc result
  case owner =>
    have free := State.entryToTake_free he
    have commutes : (s.claimSent p).loseEntry e = (s.loseEntry e).claimSent p := State.loseEntry_claimSent free
    have running : ((s.claimSent p).loseEntry e).running = true := by rw [commutes]; exact hr
    rw [exec_faultClaimOutcome_unanswered hx hk hcontent ho hw hs hv hst hown,
      exec_faultClaimOutcome_unanswered (State.sending_loseEntry hq hx hk free hr) hk hcontent ho hw hs hv hst hown,
      State.becomeOwner_of_lost (s := s.claimSent p) he hc running, commutes]
  case start =>
    intro lost y told
    have built : State.buildContent { s with abandoned := false } x.kind =
        if lost.running then (told, incidentBody y) else (lost, none) := by
      rw [hk]
      exact buildContent_incident_of_lost (s := { s with abandoned := false }) hc rfl
    refine ⟨fun stopped => ?_, fun running free => ⟨fun k c hkey hclosing => ?_, fun bare => ?_⟩⟩
    · exact exec_contentionStart_of_unbuilt ha hf hx (built.trans (if_neg (by simp [stopped])))
    · rw [if_pos running, incidentBody_closed hkey free hclosing] at built
      rw [exec_contentionStart_of_built ha hf hx built (by simpa [told] using running), hk]
      rfl
    · rw [if_pos running, incidentBody_of_bare free bare] at built
      exact exec_contentionStart_of_unbuilt ha hf hx built

end Sys2Proof.Machine
end
